-- ==== Sys2Proof/Word.lean ====
section
/-! DEFINITION. Sys2Proof/Word.lean: the byte of the two links, and the upper limits of the unsigned
fields the spec names (00_scope.md, Table 0-2). Quantities themselves are natural numbers. -/

namespace Sys2Proof

/-- One byte of the radio port or of the terminal link. -/
abbrev Byte := BitVec 8

/-- Largest value of a one-byte field. -/
abbrev u8Max : Nat := 255

/-- Largest value of a two-byte field; the counters of R12, R49, R65, R82, R91, R165 saturate here. -/
abbrev u16Max : Nat := 65535

/-- Largest value of a three-byte field; the last shift number (R46). -/
abbrev u24Max : Nat := 16777215

/-- Largest value of a four-byte field; volumes in cL saturate here (Table 0-2). -/
abbrev u32Max : Nat := 4294967295

end Sys2Proof
end

