-- ==== Sys2Proof/Syntax.lean ====
section
/-! DEFINITION. Sys2Proof/Syntax.lean: the commands of the FS-4, one constructor for each row of
spec/opcode_table.json, and the plain data they carry. Hoses, stations, vehicles, classes and notice
sources are named by the numbers the spec gives them (Table 0-3), in natural numbers; what a command
does with a number outside its range is the meaning's matter, and Sys2Proof/WellFormed.lean says which
operands the links and lines can carry at all. -/

namespace Sys2Proof

/-- A position of the shift clock: shift number and time into the shift in seconds (R46). -/
structure ClockPos where
  shift : Nat
  time  : Nat
deriving DecidableEq, Repr

/-- A reading register that is present: the reading with its stamp (R5). -/
structure Reading where
  value : Nat
  stamp : ClockPos
deriving DecidableEq, Repr

/-- One origin entry: station, start tag and amount in cL (R4). -/
structure OriginEntry where
  station : Nat
  tag     : Nat
  amount  : Nat
deriving DecidableEq, Repr

/-- One service entry: epoch, origin station, hours at service in 0.1 h, and totaliser at service in
litres, which may be absent (R6). -/
structure ServiceEntry where
  epoch     : Nat
  origin    : Nat
  hours     : Nat
  totaliser : Option Nat
deriving DecidableEq, Repr

/-- A vehicle's bar: barred or clear, version and the station that set it (R7). -/
structure Bar where
  barred  : Bool
  version : Nat
  origin  : Nat
deriving DecidableEq, Repr

/-- The content of a TALLY (Table 5-3): one station's whole knowledge of one vehicle. The four service
entries are those of the types A, B, C and D, in this order. -/
structure TallyFrame where
  vehicle   : Nat
  shift     : Nat
  bar       : Bar
  hours     : Option Reading
  totaliser : Option Reading
  services  : Vector ServiceEntry 4
  origins   : List OriginEntry
deriving DecidableEq, Repr

/-- The first failing check of a received radio frame body, in the order of R82. -/
inductive DropCause where
  | length
  | crc
  | kind
  | station
  | lengthForKind
  | fieldRange
deriving DecidableEq, Repr

/-- Why the link receiver discards a frame (R165). -/
inductive DiscardCause where
  | badLength
  | gap
  | noStopBit
  | badCrc
deriving DecidableEq, Repr

/-- The two kinds of frame that can be due at the transmitter (R85). -/
inductive DueFrame where
  | beacon
  | tally
deriving DecidableEq, Repr

/-- The commands: the requests of the terminal link (Table 11-1), what the two receivers hand on or
drop, the changes and pulses of the field lines, and the expiries of the part's own timers. -/
inductive Instr where
  /-- POWER_ON (R177). -/
  | powerOn
  /-- LOAD_CONFIG: the part byte and the bytes of the part (R171). -/
  | loadConfig (part : Nat) (bytes : List Byte)
  /-- START: the clock position given (R173). -/
  | start (shift time : Nat)
  /-- STANDBY (R174). -/
  | standby
  /-- RESTART (R175). -/
  | restart
  /-- READ_STATUS (R176). -/
  | readStatus
  /-- PRESENT_VEHICLE: hose, vehicle, hours reading, totaliser flag byte, totaliser reading, preset in cL
  (R128, Table 11-1). -/
  | presentVehicle (hose vehicle hours totaliserFlag totaliser preset : Nat)
  /-- STOP_HOSE (R143). -/
  | stopHose (hose : Nat)
  /-- READ_HOSE (R147). -/
  | readHose (hose : Nat)
  /-- CLEAR_HOSE_FAULT (R155). -/
  | clearHoseFault (hose : Nat)
  /-- READ_VEHICLE (R23). -/
  | readVehicle (vehicle : Nat)
  /-- BAR_VEHICLE (R21). -/
  | barVehicle (vehicle : Nat)
  /-- CLEAR_BAR (R21). -/
  | clearBar (vehicle : Nat)
  /-- RECORD_SERVICE: vehicle, type byte (0 A .. 3 D), hours reading, totaliser flag byte, totaliser
  reading (R32). -/
  | recordService (vehicle type hours totaliserFlag totaliser : Nat)
  /-- STAGE_ALLOWANCE: class and litres (R54). -/
  | stageAllowance (cls litres : Nat)
  /-- CLEAR_STAGED (R55). -/
  | clearStaged (cls : Nat)
  /-- READ_WATCH_LIST (R44). -/
  | readWatchList
  /-- READ_OLDEST (R161). -/
  | readOldest
  /-- RELEASE_RECORD: the record number (R161). -/
  | releaseRecord (number : Nat)
  /-- READ_PEERS: the group (R73). -/
  | readPeers (group : Nat)
  /-- READ_NOTICES (R169). -/
  | readNotices
  /-- ACK_NOTICE: the source index (R169). -/
  | ackNotice (source : Nat)
  /-- SET_NOTICE_ENABLES: the mask (R170). -/
  | setNoticeEnables (mask : Nat)
  /-- UNKNOWN_REQUEST_KIND: a request that passed the receiver and whose kind is not in Table 11-1, or
  whose payload has the wrong length for its kind; both are answered BAD_REQUEST (R166). -/
  | unknownRequestKind (kind : Nat)
  /-- LINK_FRAME_DISCARD (R165). -/
  | linkFrameDiscard (cause : DiscardCause)
  /-- RESPONSE_BACKLOG_DISCARD: a valid request while four responses are held (R166). -/
  | responseBacklogDiscard
  /-- BEACON: sender, clock position and advertised interval (R59, Table 5-3). -/
  | beacon (station : Nat) (pos : ClockPos) (interval : Nat)
  /-- TALLY: sender and content (R12, Table 5-3). -/
  | tally (station : Nat) (frame : TallyFrame)
  /-- RADIO_FRAME_DROP (R82). -/
  | radioFrameDrop (cause : DropCause)
  /-- SHIFT_CLOCK_SECOND (R47). -/
  | shiftClockSecond
  /-- MISS_TIMER_EXPIRY: the peer's station number (R62). -/
  | missTimerExpiry (station : Nat)
  /-- LISTEN_TIMER_EXPIRY (R68). -/
  | listenTimerExpiry
  /-- BEACON_DUE (R87). -/
  | beaconDue
  /-- TALLY_DUE (R88). -/
  | tallyDue
  /-- QUIET_TIME_PASSED (R89). -/
  | quietTimePassed
  /-- BACKOFF_SLOT_END (R90). -/
  | backoffSlotEnd
  /-- CARRIER_DETECT_RISE (R90). -/
  | carrierDetectRise
  /-- CARRIER_DETECT_FALL (R89). -/
  | carrierDetectFall
  /-- ACCESS_LIMIT_EXPIRY: which due frame has waited 2 s (R91). -/
  | accessLimitExpiry (frame : DueFrame)
  /-- TRANSMISSION_END (R86). -/
  | transmissionEnd
  /-- NOZZLE_CHANGE: hose and its new filtered nozzle state (R102). -/
  | nozzleChange (hose : Nat) (lifted : Bool)
  /-- STOP_LINE_CHANGE: the new filtered stop line (R107). -/
  | stopLineChange (asserted : Bool)
  /-- METER_PULSE: hose, and the 10 µs ticks by which its interval counter has moved on since the model
  last moved it (R112, R116; 0 when the pulse comes from the model's own sampling). -/
  | meterPulse (hose ticks : Nat)
  /-- AUTH_TIMER_EXPIRY (R133). -/
  | authTimerExpiry (hose : Nat)
  /-- PRIME_WAIT_EXPIRY (R134). -/
  | primeWaitExpiry (hose : Nat)
  /-- START_TIMER_EXPIRY (R136). -/
  | startTimerExpiry (hose : Nat)
  /-- NO_FLOW_TIMER_EXPIRY (R136). -/
  | noFlowTimerExpiry (hose : Nat)
  /-- SETTLE_TIMER_EXPIRY (R119). -/
  | settleTimerExpiry (hose : Nat)
  /-- CREEP_QUIET_TIMER_EXPIRY (R123). -/
  | creepQuietTimerExpiry (hose : Nat)
  /-- OVERRUN_WINDOW_EXPIRY (R140). -/
  | overrunWindowExpiry (hose : Nat)
  /-- RESPONSE_SENT_WHOLE (R166). -/
  | responseSentWhole
deriving DecidableEq, Repr

end Sys2Proof
end

