-- ==== Sys2Proof/WellFormed.lean ====
section
/-! DEFINITION. Sys2Proof/WellFormed.lean: which commands the links, the lines and the timers can carry:
each operand in the width that Table 11-1 or Table 5-3 gives it, each frame handed on by the radio
receiver in the ranges of R82 and R83 that do not depend on the configuration, each hose or station
event naming a hose 1..4 or a station 1..16. A well-formed request may still be refused (BAD_REQUEST
for a hose 7): that is the meaning's matter. -/

namespace Sys2Proof

/-- A stamp in the widths of the TALLY layout, its time below the longest shift (R83). -/
def ClockPos.wf (p : ClockPos) : Bool := p.shift ≤ u24Max && p.time < 86400

/-- A reading register of a frame: at most `top`, its stamp well formed (R83). -/
def Reading.wf (top : Nat) (r : Reading) : Bool := r.value ≤ top && r.stamp.wf

/-- A service entry of a frame in the ranges of Table 5-4. -/
def ServiceEntry.wf (e : ServiceEntry) : Bool :=
  e.epoch ≤ u16Max && e.origin ≤ 16 && (e.origin != 0 || e.epoch == 0) && e.hours ≤ 9999999 &&
    (match e.totaliser with
      | none => true
      | some t => t ≤ 99999999)

/-- An origin entry of a frame in the ranges of Table 5-4 and the widths of Table 5-3. -/
def OriginEntry.wf (o : OriginEntry) : Bool :=
  1 ≤ o.station && o.station ≤ 16 && 1 ≤ o.tag && o.tag ≤ u16Max && o.amount ≤ u32Max

/-- A bar of a frame in the ranges of Table 5-4. -/
def Bar.wf (b : Bar) : Bool := b.version ≤ u16Max && b.origin ≤ 16

/-- An optional reading register of a frame. -/
def optReadingWf (top : Nat) : Option Reading → Bool
  | none => true
  | some r => r.wf top

/-- A TALLY content in the ranges of Table 5-4, for the longest shift length a station can have. -/
def TallyFrame.wf (f : TallyFrame) : Bool :=
  f.vehicle ≤ u16Max && f.shift ≤ u24Max && f.bar.wf && optReadingWf 9999999 f.hours &&
    optReadingWf 99999999 f.totaliser && f.services.toList.all ServiceEntry.wf &&
    decide (f.origins.length ≤ 16) && f.origins.all OriginEntry.wf

/-- Does the number name a hose (Table 0-3)? -/
def isHose (h : Nat) : Bool := 1 ≤ h && h ≤ 4

/-- Does the number name a station (Table 0-3)? -/
def isStation (n : Nat) : Bool := 1 ≤ n && n ≤ 16

/-- Can the links, lines and timers carry this command? -/
def Instr.wf : Instr → Bool
  | .powerOn => true
  | .loadConfig part bytes => part ≤ u8Max && (bytes.length == 72 || bytes.length == 248)
  | .start shift time => shift ≤ u24Max && time ≤ u24Max
  | .standby => true
  | .restart => true
  | .readStatus => true
  | .presentVehicle hose vehicle hours flag total preset =>
      hose ≤ u8Max && vehicle ≤ u16Max && hours ≤ u24Max && flag ≤ u8Max && total ≤ u32Max && preset ≤ u32Max
  | .stopHose hose => hose ≤ u8Max
  | .readHose hose => hose ≤ u8Max
  | .clearHoseFault hose => hose ≤ u8Max
  | .readVehicle vehicle => vehicle ≤ u16Max
  | .barVehicle vehicle => vehicle ≤ u16Max
  | .clearBar vehicle => vehicle ≤ u16Max
  | .recordService vehicle type hours flag total =>
      vehicle ≤ u16Max && type ≤ u8Max && hours ≤ u24Max && flag ≤ u8Max && total ≤ u32Max
  | .stageAllowance cls litres => cls ≤ u8Max && litres ≤ u24Max
  | .clearStaged cls => cls ≤ u8Max
  | .readWatchList => true
  | .readOldest => true
  | .releaseRecord number => number ≤ u16Max
  | .readPeers group => group ≤ u8Max
  | .readNotices => true
  | .ackNotice source => source ≤ u8Max
  | .setNoticeEnables mask => mask ≤ u16Max
  | .unknownRequestKind kind => kind ≤ u8Max
  | .linkFrameDiscard _ => true
  | .responseBacklogDiscard => true
  | .beacon station pos interval => isStation station && pos.wf && 5 ≤ interval && interval ≤ 60
  | .tally station frame => isStation station && frame.wf
  | .radioFrameDrop _ => true
  | .shiftClockSecond => true
  | .missTimerExpiry station => isStation station
  | .listenTimerExpiry => true
  | .beaconDue => true
  | .tallyDue => true
  | .quietTimePassed => true
  | .backoffSlotEnd => true
  | .carrierDetectRise => true
  | .carrierDetectFall => true
  | .accessLimitExpiry _ => true
  | .transmissionEnd => true
  | .nozzleChange hose _ => isHose hose
  | .stopLineChange _ => true
  | .meterPulse hose ticks => isHose hose && ticks ≤ u16Max
  | .authTimerExpiry hose => isHose hose
  | .primeWaitExpiry hose => isHose hose
  | .startTimerExpiry hose => isHose hose
  | .noFlowTimerExpiry hose => isHose hose
  | .settleTimerExpiry hose => isHose hose
  | .creepQuietTimerExpiry hose => isHose hose
  | .overrunWindowExpiry hose => isHose hose
  | .responseSentWhole => true

end Sys2Proof
end

