-- ==== Sys2Proof/Decode.lean ====
section
/-! DEFINITION. Sys2Proof/Decode.lean: bytes to frames and commands, and back. The rows of
spec/opcode_table.json give no bits, so `decodeTableWord` answers none for every word; what this block
does decode is the body of a radio frame (R77, R78, R82, R83, Table 5-3) and the payload of a link
request (Table 11-1). The encoders of the two radio frames (R79, R80) stand beside their decoders. -/

namespace Sys2Proof

/-! ### Bytes, high byte first (R75, R164) -/

/-- The `w` low bytes of `n`, high byte first. -/
def beBytes : Nat → Nat → List Byte
  | 0, _ => []
  | w + 1, n => BitVec.ofNat 8 (n / 256 ^ w) :: beBytes w n

/-- The number that bytes spell, high byte first. -/
def ofBytes (bs : List Byte) : Nat := bs.foldl (fun acc b => acc * 256 + b.toNat) 0

/-- The number in `w` bytes from offset `off`. -/
def fieldAt (off w : Nat) (bs : List Byte) : Nat := ofBytes ((bs.drop off).take w)

/-- One byte holding a Boolean: 00h or 01h. -/
def flagByte (b : Bool) : List Byte := beBytes 1 b.toNat

/-! ### The CRC of the pit net and of the terminal link (R78) -/

/-- The register advanced for one bit: the bit is combined with the top bit, the register is shifted
up with 0 entering, and 1021h is combined when the combined bit was 1. -/
def crcBit (reg : BitVec 16) (bit : Bool) : BitVec 16 :=
  if xor reg.msb bit then (reg <<< 1) ^^^ 0x1021#16 else reg <<< 1

/-- The register advanced for one byte, most significant bit first. -/
def crcByte (reg : BitVec 16) (b : Byte) : BitVec 16 :=
  [7, 6, 5, 4, 3, 2, 1, 0].foldl (fun r i => crcBit r (b.getLsbD i)) reg

/-- The CRC over bytes in the order sent, from FFFFh, with no final inversion. -/
def crc (bs : List Byte) : BitVec 16 := bs.foldl crcByte 0xFFFF#16

/-- The two CRC bytes, high byte first. -/
def crcField (bs : List Byte) : List Byte := beBytes 2 (crc bs).toNat

/-! ### Radio frame bodies (R77, Table 5-3) -/

/-- The kind byte of a BEACON. -/
def beaconKind : Byte := 0x61#8

/-- The kind byte of a TALLY. -/
def tallyKind : Byte := 0x74#8

/-- A whole body: length, station, kind, payload, CRC. The length counts station, kind and payload. -/
def frameBody (station : Nat) (kind : Byte) (payload : List Byte) : List Byte :=
  let covered := beBytes 1 (payload.length + 2) ++ beBytes 1 station ++ kind :: payload
  covered ++ crcField covered

/-- The payload of a BEACON: shift number, time into shift, beacon interval. -/
def beaconPayload (pos : ClockPos) (interval : Nat) : List Byte :=
  beBytes 3 pos.shift ++ beBytes 3 pos.time ++ beBytes 1 interval

/-- A register with its flag; an absent one is sent with flag 00h and zeros (R80). -/
def registerField (width : Nat) : Option Reading → List Byte
  | none => beBytes 1 0 ++ beBytes width 0 ++ beBytes 3 0 ++ beBytes 3 0
  | some r => beBytes 1 1 ++ beBytes width r.value ++ beBytes 3 r.stamp.shift ++ beBytes 3 r.stamp.time

/-- An optional four-byte value with its flag; an absent one is sent with flag 00h and zero. -/
def optionField : Option Nat → List Byte
  | none => beBytes 1 0 ++ beBytes 4 0
  | some t => beBytes 1 1 ++ beBytes 4 t

/-- A service entry in its 11 bytes. -/
def serviceField (e : ServiceEntry) : List Byte :=
  beBytes 2 e.epoch ++ beBytes 1 e.origin ++ beBytes 3 e.hours ++ optionField e.totaliser

/-- An origin entry in its 7 bytes. -/
def originField (o : OriginEntry) : List Byte :=
  beBytes 1 o.station ++ beBytes 2 o.tag ++ beBytes 4 o.amount

/-- A bar in its 4 bytes. -/
def barField (b : Bar) : List Byte := flagByte b.barred ++ beBytes 2 b.version ++ beBytes 1 b.origin

/-- The payload of a TALLY. -/
def tallyPayload (f : TallyFrame) : List Byte :=
  beBytes 2 f.vehicle ++ beBytes 3 f.shift ++ barField f.bar ++ registerField 3 f.hours ++
    registerField 4 f.totaliser ++ f.services.toList.flatMap serviceField ++
    beBytes 1 f.origins.length ++ f.origins.flatMap originField

/-- A BEACON body (R79). -/
def beaconBody (station : Nat) (pos : ClockPos) (interval : Nat) : List Byte :=
  frameBody station beaconKind (beaconPayload pos interval)

/-- A TALLY body (R80). -/
def tallyBody (station : Nat) (f : TallyFrame) : List Byte :=
  frameBody station tallyKind (tallyPayload f)

/-! ### Reading a TALLY payload -/

/-- A register at an offset; a flag of 00h makes it absent, its bytes ignored (R83). -/
def readRegister (off width : Nat) (p : List Byte) : Option Reading :=
  if fieldAt off 1 p = 0 then none
  else some ⟨fieldAt (off + 1) width p,
    ⟨fieldAt (off + 1 + width) 3 p, fieldAt (off + 4 + width) 3 p⟩⟩

/-- The service entry at an offset. -/
def readService (off : Nat) (p : List Byte) : ServiceEntry :=
  { epoch := fieldAt off 2 p
    origin := fieldAt (off + 2) 1 p
    hours := fieldAt (off + 3) 3 p
    totaliser := if fieldAt (off + 6) 1 p = 0 then none else some (fieldAt (off + 7) 4 p) }

/-- The `n` origin entries from an offset. -/
def readOrigins : Nat → List Byte → List OriginEntry
  | 0, _ => []
  | n + 1, p => ⟨fieldAt 0 1 p, fieldAt 1 2 p, fieldAt 3 4 p⟩ :: readOrigins n (p.drop 7)

/-- The content of a TALLY payload (Table 5-3). -/
def readTally (p : List Byte) : TallyFrame :=
  { vehicle := fieldAt 0 2 p
    shift := fieldAt 2 3 p
    bar := ⟨fieldAt 5 1 p != 0, fieldAt 6 2 p, fieldAt 8 1 p⟩
    hours := readRegister 9 3 p
    totaliser := readRegister 19 4 p
    services := #v[readService 30 p, readService 41 p, readService 52 p, readService 63 p]
    origins := readOrigins (fieldAt 74 1 p) (p.drop 75) }

/-- Every flag byte of a TALLY payload is 00h or 01h (Table 5-4). -/
def tallyFlagsOk (p : List Byte) : Bool :=
  [5, 9, 19, 36, 47, 58, 69].all fun off => fieldAt off 1 p ≤ 1

/-- The stamps of a content that are present stand below the shift length (Table 5-4). -/
def stampBelow (shiftLength : Nat) : Option Reading → Bool
  | none => true
  | some r => r.stamp.time < shiftLength

/-- The field ranges of a TALLY under the shift length in force (R83), in the widths of Table 5-3. -/
def TallyFrame.inRange (shiftLength : Nat) (f : TallyFrame) : Bool :=
  f.wf && stampBelow shiftLength f.hours && stampBelow shiftLength f.totaliser

/-- The field ranges of a BEACON under the shift length in force (R83), in the widths of Table 5-3. -/
def beaconInRange (shiftLength : Nat) (pos : ClockPos) (interval : Nat) : Bool :=
  pos.shift ≤ u24Max && pos.time < shiftLength && 5 ≤ interval && interval ≤ 60

/-! ### The checks of a received body (R82) -/

/-- What a received body turns out to be. -/
inductive BodyCheck where
  | drop (cause : DropCause)
  | beacon (station : Nat) (pos : ClockPos) (interval : Nat)
  | tally (station : Nat) (frame : TallyFrame)
deriving DecidableEq, Repr

/-- Checks 5 and 6 for a BEACON payload. -/
def checkBeacon (shiftLength station : Nat) (payload : List Byte) : BodyCheck :=
  let pos : ClockPos := ⟨fieldAt 0 3 payload, fieldAt 3 3 payload⟩
  let interval := fieldAt 6 1 payload
  if payload.length ≠ 7 then .drop .lengthForKind
  else if beaconInRange shiftLength pos interval then .beacon station pos interval
  else .drop .fieldRange

/-- Checks 5 and 6 for a TALLY payload. -/
def checkTally (shiftLength station : Nat) (payload : List Byte) : BodyCheck :=
  let n := fieldAt 74 1 payload
  let f := readTally payload
  if payload.length < 75 ∨ 16 < n ∨ payload.length ≠ 75 + 7 * n then .drop .lengthForKind
  else if tallyFlagsOk payload && f.inRange shiftLength then .tally station f
  else .drop .fieldRange

/-- Checks 3 to 6, of the kind, the station, the length for the kind and the field ranges. -/
def checkContent (shiftLength : Nat) (station kind : Byte) (payload : List Byte) : BodyCheck :=
  if kind ≠ beaconKind ∧ kind ≠ tallyKind then .drop .kind
  else if station.toNat < 1 ∨ 16 < station.toNat then .drop .station
  else if kind = beaconKind then checkBeacon shiftLength station.toNat payload
  else checkTally shiftLength station.toNat payload

/-- The checks of a received body in the order of R82; the first failing check drops it. The body is
length, station, kind, payload and CRC. -/
def checkBody (shiftLength : Nat) (body : List Byte) : BodyCheck :=
  match body with
  | len :: station :: kind :: rest =>
    let payload := rest.take (len.toNat - 2)
    if len.toNat < 3 ∨ 198 < len.toNat then .drop .length
    else if rest.drop (len.toNat - 2) ≠ crcField (len :: station :: kind :: payload) then .drop .crc
    else checkContent shiftLength station kind payload
  | _ => .drop .length

/-- The command that a checked body is to the station (R84). -/
def BodyCheck.command : BodyCheck → Instr
  | .drop c => .radioFrameDrop c
  | .beacon n pos interval => .beacon n pos interval
  | .tally n f => .tally n f

/-! ### Link requests (R164, Table 11-1) -/

/-- The request that a kind byte and a payload make (Table 11-1). A kind not in the table, and a payload
of the wrong length for its kind, are answered BAD_REQUEST alike (R166). -/
def requestOf (kind : Byte) (p : List Byte) : Instr :=
  match kind.toNat, p.length with
  | 0x01, 73 => .loadConfig (fieldAt 0 1 p) (p.drop 1)
  | 0x01, 249 => .loadConfig (fieldAt 0 1 p) (p.drop 1)
  | 0x02, 6 => .start (fieldAt 0 3 p) (fieldAt 3 3 p)
  | 0x03, 0 => .standby
  | 0x04, 0 => .restart
  | 0x05, 0 => .readStatus
  | 0x10, 15 => .presentVehicle (fieldAt 0 1 p) (fieldAt 1 2 p) (fieldAt 3 3 p) (fieldAt 6 1 p)
      (fieldAt 7 4 p) (fieldAt 11 4 p)
  | 0x11, 1 => .stopHose (fieldAt 0 1 p)
  | 0x12, 1 => .readHose (fieldAt 0 1 p)
  | 0x13, 1 => .clearHoseFault (fieldAt 0 1 p)
  | 0x20, 2 => .readVehicle (fieldAt 0 2 p)
  | 0x21, 2 => .barVehicle (fieldAt 0 2 p)
  | 0x22, 2 => .clearBar (fieldAt 0 2 p)
  | 0x23, 11 => .recordService (fieldAt 0 2 p) (fieldAt 2 1 p) (fieldAt 3 3 p) (fieldAt 6 1 p)
      (fieldAt 7 4 p)
  | 0x24, 4 => .stageAllowance (fieldAt 0 1 p) (fieldAt 1 3 p)
  | 0x25, 1 => .clearStaged (fieldAt 0 1 p)
  | 0x26, 0 => .readWatchList
  | 0x30, 0 => .readOldest
  | 0x31, 2 => .releaseRecord (fieldAt 0 2 p)
  | 0x40, 1 => .readPeers (fieldAt 0 1 p)
  | 0x50, 0 => .readNotices
  | 0x51, 1 => .ackNotice (fieldAt 0 1 p)
  | 0x52, 2 => .setNoticeEnables (fieldAt 0 2 p)
  | k, _ => .unknownRequestKind k

/-! ### The table's words -/

/-- The command that a word spells by the bits of spec/opcode_table.json. No row of the table gives
bits, so no word spells a command. -/
def decodeTableWord (_nbits _w : Nat) : Option Instr := none

end Sys2Proof
end

