-- ==== Sys2Proof/Config.lean ====
section
/-! DEFINITION. Sys2Proof/Config.lean: the values the spec leaves open. Each is an opaque constant, so
nothing can be proved of it but its type. The station's own configuration block is state (Table 11-5)
and stands in Machine/State.lean. -/

namespace Sys2Proof.Config

/-- The n-th random draw of the part: the start tag (R177), the backoff (R90) and the beacon intervals
(R87). The spec gives only the range of each, which the caller imposes. FREE VALUE, notes/assumptions/1.md. -/
opaque freeDraw : Nat → Nat

/-- Which of several events that fall at one moment is taken first (R63, R68, R90, R112, R119, R123,
R133, R140, R153): the spec allows each order. FREE VALUE, notes/assumptions/2.md. -/
opaque freeOrder : Nat → Nat

/-- The flow computed for a capture of 0 ticks, as a function of the pulse step: R117 divides by the
interval, and R116 says that no real interval is below 2. FREE VALUE, notes/assumptions/3.md. -/
opaque flowAtZeroInterval : Nat → Nat

end Sys2Proof.Config
end

