-- ==== Sys2Proof/Machine/State.lean ====
section
/-! DEFINITION. Sys2Proof/Machine/State.lean: the state of the FS-4, block by block as Table 0-1 lists the
blocks, the machine's outcomes, and the state right after power-on. All of it is plain data. Times and
timers are counted in ticks of 10 µs, the finest time base the spec names (R99, R116): a stopped timer
is `none`, a running one `some n` with `n` ticks left. Hose, class, station and notice tables are
indexed from 0: hose 1 is index 0, station 1 is index 0. -/

namespace Sys2Proof.Machine

/-! ### Names -/

/-- Net states (Table 4-3). -/
inductive NetState where
  | standby
  | listenIn
  | joined
  | isolated
deriving DecidableEq, Repr

/-- Hose states (Table 8-2). -/
inductive HoseState where
  | outOfService
  | idle
  | authorized
  | starting
  | flowing
  | slowing
  | closing
  | ended
deriving DecidableEq, Repr

/-- End reasons (Table 8-8). -/
inductive EndReason where
  | limit
  | hung
  | noStart
  | noFlow
  | fault
  | stop
  | estop
  | barred
  | restart
deriving DecidableEq, Repr

/-- Bounds of an issue limit (Table 8-4). -/
inductive Bound where
  | allowance
  | hold
  | net
  | tank
  | preset
deriving DecidableEq, Repr

/-- Service states (Table 2-4). -/
inductive ServiceState where
  | current
  | dueSoon
  | due
  | overdue
deriving DecidableEq, Repr

/-- States of a peer entry (R61). -/
inductive PeerState where
  | neverHeard
  | present
  | fading
  | lost
deriving DecidableEq, Repr

/-- Edge modes of a meter input (R103). -/
inductive EdgeMode where
  | rising
  | falling
  | both
deriving DecidableEq, Repr

/-- Result codes of the responses (Table 11-2). -/
inductive Result where
  | ok
  | badRequest
  | notRunning
  | noConfig
  | badConfig
  | hosesActive
  | notFitted
  | hoseOut
  | busy
  | nozzleLifted
  | estop
  | recordsFull
  | unknownClass
  | vehicleActive
  | viewFull
  | barred
  | hoursImplausible
  | hoursRegression
  | totaliserImplausible
  | totaliserRegression
  | originFull
  | allowanceUsed
  | serviceHold
  | netCap
  | preset
  | notActive
  | ending
  | notFrozen
  | notJoined
  | sequenceLimit
  | noMatch
  | noEntry
  | empty
deriving DecidableEq, Repr

/-- Notice sources (Table 11-3). -/
inductive NoticeSource where
  | issueEnded
  | authExpired
  | nozzleGuard
  | netState
  | watchChanged
  | viewFull
  | clockReject
  | numberClash
  | hoseOut
  | stopActive
  | recordsWaiting
  | overduePresent
deriving DecidableEq, Repr

/-! ### Configuration Store (chapter 11) -/

/-- The settings of one class (fields 48 + 13k .. 60 + 13k of Table 11-5): range, allowance in L, tank
capacity in L, maximum burn in L/h, and the hours and fuel intervals of the types A..D. -/
structure ClassConfig where
  low            : Nat
  high           : Nat
  allowance      : Nat
  tank           : Nat
  maxBurn        : Nat
  hoursInterval  : Vector Nat 4
  fuelInterval   : Vector Nat 4
deriving DecidableEq, Repr

/-- An installed configuration block (Table 11-5), in the units of that table. -/
structure ConfigBlock where
  station           : Nat
  fitted            : Vector Bool 4
  nozzleHigh        : Vector Bool 4
  meterHigh         : Vector Bool 4
  stopHigh          : Bool
  nozzleFilter      : Nat
  stopFilter        : Nat
  meterFilter       : Nat
  pulseStep         : Vector Nat 4
  edgeMode          : Vector EdgeMode 4
  maxFlow           : Vector Nat 4
  slowFlow          : Vector Nat 4
  settleTime        : Nat
  slowdown          : Nat
  overrunWindow     : Nat
  overrunAllowance  : Nat
  authTime          : Nat
  startTime         : Nat
  noFlowTime        : Nat
  primeTime         : Nat
  healthThreshold   : Nat
  dripVolume        : Nat
  warn              : Nat
  grace             : Nat
  holdCap           : Nat
  hourTolerance     : Nat
  fuelTolerance     : Nat
  minimumIssue      : Nat
  netCap            : Nat
  shiftLength       : Nat
  beaconInterval    : Nat
  baseGap           : Nat
  refreshGap        : Nat
  keyUpDelay        : Nat
  listenInTime      : Nat
  rejoinTime        : Nat
  suppression       : Nat
  classes           : Vector ClassConfig 8
deriving DecidableEq, Repr

/-- The Configuration Store: the block in force (none while no valid block is held), the parts of a
block held so far (R171), and the station's start tag (R177). -/
structure ConfigStore where
  block    : Option ConfigBlock
  part1    : Option (List Byte)
  part2    : Option (List Byte)
  startTag : Nat
deriving DecidableEq, Repr

/-! ### Vehicle View (chapter 1) and Service Interval Unit (chapter 2) -/

/-- A vehicle entry (Table 1-1). The four last fields are kept with the entry by the Service Interval
Unit (R34, R38, R39); services, usages and states are indexed by the types A, B, C, D. -/
structure VehicleEntry where
  number     : Nat
  cls        : Fin 8
  origins    : List OriginEntry
  hours      : Option Reading
  totaliser  : Option Reading
  services   : Vector ServiceEntry 4
  bar        : Bar
  usage      : Vector Nat 4
  states     : Vector ServiceState 4
  worst      : Nat
  worstState : ServiceState
  hold       : Bool
deriving DecidableEq, Repr

/-- The Vehicle View: the entries in ascending order of vehicle number (R1), and the four counters of
chapter 1 (R24). -/
structure ViewBlock where
  entries    : List VehicleEntry
  originFull : Nat
  staleShift : Nat
  viewFull   : Nat
  noClass    : Nat
deriving DecidableEq, Repr

/-- A member of the watch list (R40). -/
structure WatchMember where
  vehicle : Nat
  usage   : Nat
  state   : ServiceState
deriving DecidableEq, Repr

/-- The watch list and its overflow count (R40). -/
structure WatchBlock where
  members  : List WatchMember
  overflow : Nat
deriving DecidableEq, Repr

/-! ### Shift Clock (chapter 3) -/

/-- The Shift Clock: set flag, position, the hold at the last second of the last shift (R47), the phase
of the second count in ticks, the clock-reject counter, and the active and staged allowances in L. -/
structure ClockBlock where
  set    : Bool
  pos    : ClockPos
  held   : Bool
  phase  : Nat
  reject : Nat
  active : Vector Nat 8
  staged : Vector (Option Nat) 8
deriving DecidableEq, Repr

/-! ### Peer Table (chapter 4) -/

/-- A peer entry (Table 4-1). `since` is the time since the last valid frame, in ticks; the seconds
counter of Table 4-1 is its whole seconds. -/
structure Peer where
  state     : PeerState
  bucket    : Nat
  interval  : Nat
  missTimer : Option Nat
  lastHeard : ClockPos
  frames    : Nat
  since     : Option Nat
  rejoins   : Nat
deriving DecidableEq, Repr

/-- The Peer Table: net state, listen timer, the sixteen entries, the clash counter. -/
structure NetBlock where
  state  : NetState
  listen : Option Nat
  peers  : Vector Peer 16
  clash  : Nat
deriving DecidableEq, Repr

/-! ### Pit Net Controller (chapter 5) -/

/-- An element of the send queue with its cover count (R93). -/
structure QueueItem where
  vehicle : Nat
  cover   : Nat
deriving DecidableEq, Repr

/-- What the frame on air is, with what its cut-off would put back (R92): a tally sent from the queue
head names its vehicle; a refresh tally names its vehicle and the refresh pointer before it. -/
inductive OnAirKind where
  | beacon
  | fromQueue (vehicle : Nat)
  | refresh (vehicle pointer : Nat)
deriving DecidableEq, Repr

/-- A frame on air: the bytes after the key-up delay (preamble, sync word, body) and the ticks since KEY
was asserted (R76). -/
structure OnAir where
  kind    : OnAirKind
  bytes   : List Byte
  elapsed : Nat
deriving DecidableEq, Repr

/-- The transmitter (R85, R89, R90). The quiet wait holds the ticks left of the quiet time (none while CD
is asserted) and the frozen count it will resume, if any; the countdown holds the slots left and the
ticks left of the present slot. -/
inductive Transmitter where
  | idle
  | quiet (left : Option Nat) (frozen : Option Nat)
  | countdown (slots slotLeft : Nat)
  | sending (frame : OnAir)
deriving DecidableEq, Repr

/-- The radio receiver (R81): hunting with the last 16 bits, or taking a body, with the bits of the byte
under way (as a number, and how many) and the bytes taken so far. -/
inductive RadioReceiver where
  | hunt (window : Nat)
  | taking (acc nbits : Nat) (bytes : List Byte)
deriving DecidableEq, Repr

/-- The Pit Net Controller: send queue, refresh pointer, contention window, transmitter, the two due
frames with the ticks left of their access limit (R91), the ticks to the next beacon (R87), the gap
clock (R88; stopped while a tally of the station is on air), the CD input, the receiver, the bits standing
on RXD still to come and the phase of the bit clock, and the three counters of R98. -/
structure RadioBlock where
  queue      : List QueueItem
  refresh    : Nat
  cw         : Nat
  tx         : Transmitter
  dueBeacon  : Option Nat
  dueTally   : Option Nat
  schedule   : Option Nat
  gapClock   : Option Nat
  cd         : Bool
  receiver   : RadioReceiver
  rxd        : List Bool
  bitPhase   : Nat
  badCrc     : Nat
  malformed  : Nat
  abandoned  : Nat
deriving DecidableEq, Repr

/-! ### Input Conditioner (chapter 6) -/

/-- The filter of a nozzle input or of the stop line: filtered state (true is active: lifted, asserted)
and run count (R100), and the raw level of the input as last seen (true is high). -/
structure LineInput where
  active : Bool
  run    : Nat
  level  : Bool
deriving DecidableEq, Repr

/-- The filter of a meter input: its filtered state, none until its first sample (R101), run count and
raw level. -/
structure MeterInput where
  active : Option Bool
  run    : Nat
  level  : Bool
deriving DecidableEq, Repr

/-- The station's field lines: the stop line, the guard's match state (R105), the pump-run output and the
ticks since it last turned on (R109), and the phase of the 1 ms sampling in ticks. -/
structure FieldBlock where
  stop        : LineInput
  matched     : Bool
  pumpRun     : Bool
  sincePumpOn : Nat
  samplePhase : Nat
deriving DecidableEq, Repr

/-! ### Meter Counters, Hose Controllers, Hose Health Monitor (chapters 7, 8, 9) -/

/-- A Meter Counter (Table 7-2). The settle timer is none when elapsed; the creep state is none when
QUIET, and the quiet timer's ticks left when IN_EPISODE. -/
structure Meter where
  fraction      : Nat
  delivered     : Nat
  overrun       : Nat
  overrunOver   : Bool
  interval      : Nat
  firstPulse    : Bool
  lastFlow      : Nat
  fastCount     : Nat
  slowCount     : Nat
  settle        : Option Nat
  creepFraction : Nat
  unattributed  : Nat
  creep         : Option Nat
deriving DecidableEq, Repr

/-- An issue context (Table 8-5). -/
structure IssueContext where
  vehicle       : Nat
  cls           : Fin 8
  limit         : Nat
  bound         : Bound
  slowPoint     : Nat
  hours         : Nat
  totaliser     : Option Nat
  hoursFlag     : Bool
  totaliserFlag : Bool
  serviceState  : ServiceState
  netState      : NetState
  authorised    : ClockPos
  healthEvent   : Bool
  endReason     : Option EndReason
  delivered     : Nat
  overrun       : Nat
deriving DecidableEq, Repr

/-- A Hose Controller: hose state, issue context, the five timers of R127, the two valve outputs. -/
structure HoseControl where
  state        : HoseState
  context      : Option IssueContext
  authTimer    : Option Nat
  primeTimer   : Option Nat
  startTimer   : Option Nat
  noFlowTimer  : Option Nat
  overrunTimer : Option Nat
  mainValve    : Bool
  slowValve    : Bool
deriving DecidableEq, Repr

/-- The health state of a hose (Table 9-2). -/
structure Health where
  count       : Nat
  frozen      : Bool
  accumulator : Nat
deriving DecidableEq, Repr

/-- One hose: controller, meter, health, nozzle input, meter input, guard counter (R105). -/
structure Hose where
  ctl        : HoseControl
  meter      : Meter
  health     : Health
  nozzle     : LineInput
  meterInput : MeterInput
  guardCount : Nat
deriving DecidableEq, Repr

/-! ### Issue Record Queue (chapter 10) -/

/-- An issue record (Table 10-1). -/
structure IssueRecord where
  number        : Nat
  hose          : Nat
  vehicle       : Nat
  cls           : Fin 8
  authorised    : ClockPos
  completed     : ClockPos
  limit         : Nat
  delivered     : Nat
  overrun       : Nat
  bound         : Bound
  endReason     : Option EndReason
  serviceState  : ServiceState
  netState      : NetState
  hours         : Nat
  totaliser     : Option Nat
  hoursFlag     : Bool
  totaliserFlag : Bool
deriving DecidableEq, Repr

/-- The Issue Record Queue (R157). -/
structure RecordBlock where
  records      : List IssueRecord
  reservations : Nat
  next         : Nat
deriving DecidableEq, Repr

/-! ### Terminal Link and Notice Table (chapter 11) -/

/-- A byte arriving on the link's receive line: the ticks between the byte before it and it, its value,
and whether it arrived with its stop bit (R165). -/
structure LineByte where
  gap   : Nat
  value : Byte
  stop  : Bool
deriving DecidableEq, Repr

/-- The link receiver (R165): hunting, waiting for the length, or taking a frame of which `need` bytes are
still to come, with the bytes from the length on. -/
inductive LinkReceiver where
  | hunt
  | length
  | taking (need : Nat) (bytes : List Byte)
deriving DecidableEq, Repr

/-- A response made: the kind of its request, its result and its payload (R164). -/
structure Response where
  kind    : Nat
  result  : Result
  payload : List Byte
deriving DecidableEq, Repr

/-- The terminal link: receiver, the bytes standing on the receive line still to come, the responses made
and not yet sent whole, oldest first (R166), the ticks for which the oldest has been under way, and the
link error counter. `waited` is the time since the last byte arrived, in ticks. -/
structure LinkBlock where
  receiver  : LinkReceiver
  line      : List LineByte
  waited    : Nat
  responses : List Response
  sending   : Nat
  errors    : Nat
deriving DecidableEq, Repr

/-- An entry of the Notice Table (R167, R168): enable, pending and awaiting-acknowledge flags, and the
present value of the condition as last reported (false throughout for an occurrence). -/
structure NoticeEntry where
  enabled   : Bool
  pending   : Bool
  awaiting  : Bool
  condition : Bool
deriving DecidableEq, Repr

/-- The Notice Table and the attention output (R170). -/
structure NoticeBlock where
  entries   : Vector NoticeEntry 12
  attention : Bool
deriving DecidableEq, Repr

/-! ### The model's own fields -/

/-- Fields of the model, not of the spec: how many random draws and how many free orders have been taken
(the arguments of `Config.freeDraw` and `Config.freeOrder`), and the commands that the two receivers
have taken whole from their lines and that have not yet been acted on. -/
structure ModelBlock where
  draws   : Nat
  orders  : Nat
  arrived : List Instr
deriving DecidableEq, Repr

/-! ### The machine -/

/-- The state of the FS-4, and the queue of commands that are waiting, first in, first out. -/
structure State where
  pending : List Instr
  store   : ConfigStore
  view    : ViewBlock
  watch   : WatchBlock
  clock   : ClockBlock
  net     : NetBlock
  radio   : RadioBlock
  field   : FieldBlock
  hoses   : Vector Hose 4
  records : RecordBlock
  link    : LinkBlock
  notices : NoticeBlock
  model   : ModelBlock
deriving DecidableEq, Repr

/-- Faults. The spec names no behaviour in which the part stops: every command has an effect, so no
constructor is needed. -/
inductive Fault where
deriving DecidableEq, Repr

/-- Refusals. -/
inductive Refusal where
  /-- Raised by an arm of `exec` whose command has no meaning in this model; safe, since nothing is
  claimed of the command. No arm raises it. -/
  | notModelled (mnemonic : String)
deriving DecidableEq, Repr

/-! ### Power-on values -/

/-- A cleared peer entry (Table 4-1). -/
def Peer.cleared : Peer :=
  { state := .neverHeard, bucket := 0, interval := 0, missTimer := none, lastHeard := ⟨0, 0⟩,
    frames := 0, since := none, rejoins := 0 }

/-- A Meter Counter at power-on (Table 7-2). -/
def Meter.powerOn : Meter :=
  { fraction := 512, delivered := 0, overrun := 0, overrunOver := false, interval := 65535,
    firstPulse := false, lastFlow := 0, fastCount := 0, slowCount := 0, settle := none,
    creepFraction := 512, unattributed := 0, creep := none }

/-- A Hose Controller at power-on (R110, R148). -/
def HoseControl.powerOn : HoseControl :=
  { state := .outOfService, context := none, authTimer := none, primeTimer := none,
    startTimer := none, noFlowTimer := none, overrunTimer := none, mainValve := false,
    slowValve := false }

/-- A nozzle input or stop line just started, over the raw level it stands at (R101). -/
def LineInput.started (level : Bool) : LineInput := { active := false, run := 0, level := level }

/-- A meter input just started, over the raw level it stands at (R101). -/
def MeterInput.started (level : Bool) : MeterInput := { active := none, run := 0, level := level }

/-- A hose at power-on, over the raw levels of its nozzle and meter inputs. -/
def Hose.powerOn (nozzle meter : Bool) : Hose :=
  { ctl := .powerOn, meter := .powerOn, health := ⟨0, false, 0⟩, nozzle := .started nozzle,
    meterInput := .started meter, guardCount := 0 }

/-- A notice entry at power-on (R170). -/
def NoticeEntry.powerOn : NoticeEntry :=
  { enabled := true, pending := false, awaiting := false, condition := false }

/-- The start tag that a random draw gives: in 1..65535 (R177). -/
def startTagOf (draw : Nat) : Nat := 1 + draw % 65535

/-- The state of the part right after power-on (R177 and the table of each chapter), for the start tag
drawn, what stands outside the part (the levels of the field inputs, CD, the two receive lines), the
queue of commands, and the model's own counters. Responses made and not yet sent whole are dropped
(DESIGN CHOICE, notes/assumptions/33.md). -/
def State.powerOn (pending : List Instr) (tag : Nat) (nozzles meters : Vector Bool 4) (stop cd : Bool)
    (rxd : List Bool) (line : List LineByte) (model : ModelBlock) : State :=
  { pending := pending
    store := { block := none, part1 := none, part2 := none, startTag := tag }
    view := { entries := [], originFull := 0, staleShift := 0, viewFull := 0, noClass := 0 }
    watch := { members := [], overflow := 0 }
    clock := { set := false, pos := ⟨0, 0⟩, held := false, phase := 0, reject := 0,
               active := Vector.replicate 8 0, staged := Vector.replicate 8 none }
    net := { state := .standby, listen := none, peers := Vector.replicate 16 .cleared, clash := 0 }
    radio := { queue := [], refresh := 0, cw := 16, tx := .idle, dueBeacon := none, dueTally := none,
               schedule := none, gapClock := none, cd := cd, receiver := .hunt 0, rxd := rxd,
               bitPhase := 0, badCrc := 0, malformed := 0, abandoned := 0 }
    field := { stop := .started stop, matched := true, pumpRun := false, sincePumpOn := 0,
               samplePhase := 0 }
    hoses := Vector.ofFn fun i => Hose.powerOn nozzles[i] meters[i]
    records := { records := [], reservations := 0, next := 0 }
    link := { receiver := .hunt, line := line, waited := 0, responses := [], sending := 0, errors := 0 }
    notices := { entries := Vector.replicate 12 .powerOn, attention := false }
    model := model }

/-- The machine right after reset: the power-on state with every outside line low and silent and no
command waiting. The start tag is the first random draw. -/
def State.reset : State :=
  State.powerOn [] (startTagOf (Config.freeDraw 0)) (Vector.replicate 4 false) (Vector.replicate 4 false)
    false false [] [] { draws := 1, orders := 0, arrived := [] }

end Sys2Proof.Machine
end

