-- ==== Sys2Proof/Machine/Ops.lean ====
section
/-! DEFINITION. Sys2Proof/Machine/Ops.lean: units and fixed quantities, saturating and rounding
arithmetic, fixed tables, and the accessors of hoses, counters and draws that every block uses. -/

namespace Sys2Proof.Machine

/-! ### Units and quantities fixed in the part -/

/-- Ticks of 10 µs in a millisecond. -/
def millisecond : Nat := 100

/-- Ticks of 10 µs in a second. -/
def second : Nat := 100000

/-- The quiet time of channel access, 10 ms (chapter 5). -/
def quietTime : Nat := 10 * millisecond

/-- The backoff slot, 5 ms (chapter 5). -/
def slotTime : Nat := 5 * millisecond

/-- The access limit, 2 s (R91). -/
def accessLimit : Nat := 2 * second

/-- The contention window after a send decision, in slots (R90). -/
def cwLow : Nat := 16

/-- The widest contention window, in slots (R90). -/
def cwHigh : Nat := 256

/-- The view's room (R1). -/
def viewRoom : Nat := 256

/-- The room of an origin list (R4). -/
def originRoom : Nat := 16

/-- The room of the watch list (R40). -/
def watchRoom : Nat := 24

/-- The places of the Issue Record Queue (R157). -/
def recordRoom : Nat := 32

/-- The responses that may be held unsent (R166). -/
def responseRoom : Nat := 4

/-- Where the interval counter saturates (R116). -/
def intervalTop : Nat := 65535

/-- The quiet timer of a creep episode, 10 s (R123). -/
def creepQuiet : Nat := 10 * second

/-- The highest vehicle number (Table 0-3). -/
def vehicleTop : Nat := 4095

/-! ### Arithmetic -/

/-- A sum that saturates at `top` (section 0.5). -/
def satAdd (top a b : Nat) : Nat := min top (a + b)

/-- One more, for a two-byte counter that saturates at 65,535. -/
def bump (n : Nat) : Nat := satAdd u16Max n 1

/-- Division rounded up (section 0.5). -/
def ceilDiv (a b : Nat) : Nat := (a + b - 1) / b

/-- A timer one tick later; a stopped one stays stopped. -/
def countDown (t : Option Nat) : Option Nat := t.map (· - 1)

/-- A clock one tick later; a stopped one stays stopped. -/
def countUp (t : Option Nat) : Option Nat := t.map (· + 1)

/-! ### Fixed tables -/

/-- A table rebuilt entry by entry. -/
def mapTable {α β : Type} {n : Nat} (f : α → β) (v : Vector α n) : Vector β n :=
  Vector.ofFn fun i => f v[i]

/-- Does some entry of a table satisfy the test? -/
def anyTable {α : Type} {n : Nat} (v : Vector α n) (p : α → Bool) : Bool := v.toList.any p

/-- The index of the number `n` in a table whose entries are numbered 1..k. -/
def indexOf (k n : Nat) : Option (Fin k) :=
  if h : 1 ≤ n ∧ n ≤ k then some ⟨n - 1, by omega⟩ else none

/-- The index of the number `n` in a table whose entries are numbered 0..k-1. -/
def indexFrom0 (k n : Nat) : Option (Fin k) := if h : n < k then some ⟨n, h⟩ else none

/-- The indices 0..3, in ascending order. -/
def hoseIndices : List (Fin 4) := [0, 1, 2, 3]

/-! ### Hoses -/

/-- The hose at an index. -/
def State.hose (s : State) (h : Fin 4) : Hose := s.hoses[h]

/-- The state with one hose rewritten. -/
def State.mapHose (s : State) (h : Fin 4) (f : Hose → Hose) : State :=
  { s with hoses := s.hoses.set h (f (s.hose h)) }

/-- The state with one Hose Controller rewritten. -/
def State.mapCtl (s : State) (h : Fin 4) (f : HoseControl → HoseControl) : State :=
  s.mapHose h fun x => { x with ctl := f x.ctl }

/-- The state with one Meter Counter rewritten. -/
def State.mapMeter (s : State) (h : Fin 4) (f : Meter → Meter) : State :=
  s.mapHose h fun x => { x with meter := f x.meter }

/-- The state with one hose's health rewritten. -/
def State.mapHealth (s : State) (h : Fin 4) (f : Health → Health) : State :=
  s.mapHose h fun x => { x with health := f x.health }

/-- An operation made on every hose, in ascending hose number. -/
def eachHose (f : Fin 4 → State → State) (s : State) : State := f 3 (f 2 (f 1 (f 0 s)))

/-! ### The station -/

/-- The station is running: its net state is LISTEN_IN, JOINED or ISOLATED (R59). -/
def State.running (s : State) : Bool := s.net.state != .standby

/-- Is the hose fitted? None is while no configuration is valid (R148). -/
def State.fitted (s : State) (h : Fin 4) : Bool :=
  match s.store.block with
  | none => false
  | some c => c.fitted[h]

/-- A random draw in 0..n-1 for n above 0, and the state after it. -/
def State.drawBelow (s : State) (n : Nat) : Nat × State :=
  (Config.freeDraw s.model.draws % n, { s with model := { s.model with draws := s.model.draws + 1 } })

/-- The station's own number, 0 with no valid configuration (Table 11-6). -/
def State.stationNumber (s : State) : Nat :=
  match s.store.block with
  | none => 0
  | some c => c.station

end Sys2Proof.Machine
end

