-- ==== Sys2Proof/Machine/Notices.lean ====
section
/-! DEFINITION. Sys2Proof/Machine/Notices.lean: the Notice Table (section 11.3): raising an occurrence,
reporting a condition, reading, acknowledging, enabling, and the attention output. -/

namespace Sys2Proof.Machine

/-- The fixed index of a notice source (Table 11-3). -/
def NoticeSource.index : NoticeSource → Fin 12
  | .issueEnded => 0
  | .authExpired => 1
  | .nozzleGuard => 2
  | .netState => 3
  | .watchChanged => 4
  | .viewFull => 5
  | .clockReject => 6
  | .numberClash => 7
  | .hoseOut => 8
  | .stopActive => 9
  | .recordsWaiting => 10
  | .overduePresent => 11

/-- The sources with index 8 and above are conditions (Table 11-3). -/
def isCondition (i : Fin 12) : Bool := 8 ≤ i.val

/-- The state with the table's entries replaced; the attention output follows the pending flags in the
same event (R170). -/
def State.withNotices (s : State) (entries : Vector NoticeEntry 12) : State :=
  { s with notices := { entries := entries, attention := anyTable entries (·.pending) } }

/-- The state with one entry rewritten. -/
def State.mapNotice (s : State) (i : Fin 12) (f : NoticeEntry → NoticeEntry) : State :=
  s.withNotices (s.notices.entries.set i (f s.notices.entries[i]))

/-- An occurrence raised at an entry: it sets pending while the entry is enabled, and is not remembered
otherwise (R167). -/
def NoticeEntry.raised (e : NoticeEntry) : NoticeEntry := { e with pending := e.pending || e.enabled }

/-- A condition's value reported to an entry: a change to true sets pending when the entry is enabled and
not awaiting acknowledge, a change to false leaves pending as it stands, and a report of the value it
already has changes nothing (R168). -/
def NoticeEntry.reported (value : Bool) (e : NoticeEntry) : NoticeEntry :=
  { e with
    condition := value
    pending := e.pending || (value && !e.condition && e.enabled && !e.awaiting) }

/-- Raises an occurrence notice (R167). -/
def raise (src : NoticeSource) (s : State) : State := s.mapNotice src.index NoticeEntry.raised

/-- Reports a condition's value (R168). -/
def report (src : NoticeSource) (value : Bool) (s : State) : State :=
  s.mapNotice src.index (NoticeEntry.reported value)

/-- An entry read by READ NOTICES: pending is cleared, and a condition entry that was pending becomes
awaiting (R168, R169). -/
def readEntry (i : Fin 12) (e : NoticeEntry) : NoticeEntry :=
  { e with pending := false, awaiting := e.awaiting || (isCondition i && e.pending) }

/-- An entry acknowledged: a condition entry that awaits stops awaiting and samples its condition; any
other entry is left as it was (R168, R169). -/
def ackEntry (i : Fin 12) (e : NoticeEntry) : NoticeEntry :=
  if isCondition i && e.awaiting then
    { e with awaiting := false, pending := e.pending || (e.condition && e.enabled) }
  else e

/-- An entry given a new enable (R170). -/
def enableEntry (i : Fin 12) (on : Bool) (e : NoticeEntry) : NoticeEntry :=
  match e.enabled, on with
  | true, false => { e with enabled := false, pending := false, awaiting := false }
  | false, true => { e with enabled := true, pending := e.pending || (isCondition i && e.condition) }
  | _, _ => e

/-- An entry at RESTART: pending and awaiting are cleared, and an enabled condition is sampled (R170). -/
def restartEntry (i : Fin 12) (e : NoticeEntry) : NoticeEntry :=
  { e with pending := isCondition i && e.enabled && e.condition, awaiting := false }

/-- The table rewritten entry by entry. -/
def State.mapNotices (s : State) (f : Fin 12 → NoticeEntry → NoticeEntry) : State :=
  s.withNotices (Vector.ofFn fun i => f i s.notices.entries[i])

/-- A two-byte mask with one flag per source, source 0 in the lowest bit (R169). -/
def noticeMask (entries : Vector NoticeEntry 12) (p : NoticeEntry → Bool) : Nat :=
  entries.toList.foldr (fun e acc => (p e).toNat + 2 * acc) 0

end Sys2Proof.Machine
end

