-- ==== Sys2Proof/Machine/Service.lean ====
section
/-! DEFINITION. Sys2Proof/Machine/Service.lean: the Service Interval Unit (chapter 2): the reading
checks, usage and service states, and the watch list. -/

namespace Sys2Proof.Machine

/-! ### Reading checks (section 2.2) -/

/-- The outcomes of a reading check (R26). -/
inductive CheckOutcome where
  | rise
  | hold
  | regression
  | implausible
deriving DecidableEq, Repr

/-- The elapsed time E of a reading check in seconds, 0 when the stamp is ahead of the clock (R27). -/
def elapsedTime (shiftLength : Nat) (now stamp : ClockPos) : Nat :=
  (((now.shift : Int) - stamp.shift) * shiftLength + ((now.time : Int) - stamp.time)).toNat

/-- The allowed hour rise, in tenths of an hour (R28). -/
def allowedHourRise (c : ConfigBlock) (now stamp : ClockPos) : Nat :=
  ceilDiv (elapsedTime c.shiftLength now stamp) 360 + c.hourTolerance

/-- The allowed fuel rise of a class, in litres (R29). -/
def allowedFuelRise (c : ConfigBlock) (cls : Fin 8) (now stamp : ClockPos) : Nat :=
  ceilDiv (c.classes[cls].maxBurn * elapsedTime c.shiftLength now stamp) 3600 + c.fuelTolerance

/-- A reading against a present register with its allowed rise and its tolerance (Tables 2-2, 2-3). -/
def judgeReading (register rise tolerance reading : Nat) : CheckOutcome :=
  if register + rise < reading then .implausible
  else if register < reading then .rise
  else if register ≤ reading + tolerance then .hold
  else .regression

/-- The hours check (R28). -/
def hoursCheck (c : ConfigBlock) (now : ClockPos) (register : Option Reading) (h : Nat) : CheckOutcome :=
  match register with
  | none => .rise
  | some r => judgeReading r.value (allowedHourRise c now r.stamp) c.hourTolerance h

/-- The totaliser check; an absent reading is a hold whatever the register holds (R29). -/
def totaliserCheck (c : ConfigBlock) (cls : Fin 8) (now : ClockPos) (register : Option Reading)
    (t : Option Nat) : CheckOutcome :=
  match t, register with
  | none, _ => .hold
  | some _, none => .rise
  | some t, some r => judgeReading r.value (allowedFuelRise c cls now r.stamp) c.fuelTolerance t

/-- The register after a check: it takes a risen reading, stamped with the clock (R26). -/
def takeReading (outcome : CheckOutcome) (now : ClockPos) (reading : Nat) (register : Option Reading) :
    Option Reading :=
  if outcome = .rise then some ⟨reading, now⟩ else register

/-- An optional reading taken in the same way. -/
def takeOptional (outcome : CheckOutcome) (now : ClockPos) (reading : Option Nat)
    (register : Option Reading) : Option Reading :=
  match reading with
  | none => register
  | some t => takeReading outcome now t register

/-! ### Usage and service states (sections 2.4, 2.5) -/

/-- The hours part of a type's usage (R35). -/
def hoursPart (interval : Nat) (register : Option Reading) (svc : ServiceEntry) : Nat :=
  match register with
  | none => 0
  | some r =>
    let since := if svc.epoch = 0 then 0 else svc.hours
    if interval = 0 ∨ r.value ≤ since then 0 else (r.value - since) * 100 / interval

/-- The fuel part of a type's usage (R36). -/
def fuelPart (interval : Nat) (register : Option Reading) (svc : ServiceEntry) : Nat :=
  match register, (if svc.epoch = 0 then some 0 else svc.totaliser) with
  | some r, some since => if interval = 0 ∨ r.value ≤ since then 0 else (r.value - since) * 1000 / interval
  | _, _ => 0

/-- The usage of a type: the larger part, saturating at 9999 (R37). A type whose two intervals are 0 has
usage 0 (R25). -/
def typeUsage (k : ClassConfig) (e : VehicleEntry) (i : Fin 4) : Nat :=
  min 9999 (max (hoursPart k.hoursInterval[i] e.hours e.services[i])
    (fuelPart k.fuelInterval[i] e.totaliser e.services[i]))

/-- The service state of a usage (Table 2-4). -/
def serviceStateOf (c : ConfigBlock) (usage : Nat) : ServiceState :=
  if usage < c.warn then .current
  else if usage < 1000 then .dueSoon
  else if usage < c.grace then .due
  else .overdue

/-- The largest of the four usages of an entry (R39). -/
def worstUsage (usage : Vector Nat 4) : Nat :=
  max (max usage[0] usage[1]) (max usage[2] usage[3])

/-- The entry with its usage, states, worst usage, worst state and hold computed from its registers and
service entries (R34, R38, R39). -/
def withUsage (c : ConfigBlock) (e : VehicleEntry) : VehicleEntry :=
  let usage := Vector.ofFn (typeUsage c.classes[e.cls] e)
  let worst := worstUsage usage
  { e with
    usage := usage
    states := mapTable (serviceStateOf c) usage
    worst := worst
    worstState := serviceStateOf c worst
    hold := decide (serviceStateOf c worst = .overdue) }

/-! ### The watch list (section 2.6) -/

/-- Does (usage u, vehicle n) rank ahead of (usage w, vehicle m)? (R40) -/
def ranksAhead (u n w m : Nat) : Bool := w < u || (u == w && n < m)

/-- The member that an entry makes. -/
def memberOf (e : VehicleEntry) : WatchMember := ⟨e.number, e.worst, e.worstState⟩

/-- A member inserted at its ordered place (R40). -/
def insertRanked (m : WatchMember) : List WatchMember → List WatchMember
  | [] => [m]
  | x :: xs =>
    if ranksAhead m.usage m.vehicle x.usage x.vehicle then m :: x :: xs else x :: insertRanked m xs

/-- Does the list name the vehicle? -/
def listed (members : List WatchMember) (v : Nat) : Bool := members.any (·.vehicle == v)

/-- The entries that qualify for the list: worst usage at least warn (R40). -/
def qualifying (c : ConfigBlock) (entries : List VehicleEntry) : List VehicleEntry :=
  entries.filter fun e => c.warn ≤ e.worst

/-- The better-ranked of two candidates, the first being absent at the start. -/
def betterRanked (best : Option VehicleEntry) (e : VehicleEntry) : Option VehicleEntry :=
  match best with
  | none => some e
  | some b => if ranksAhead e.worst e.number b.worst b.number then some e else some b

/-- The best unlisted vehicle: the qualifying vehicle not on the list that ranks ahead of all others not
on it (R41). -/
def bestUnlisted (c : ConfigBlock) (entries : List VehicleEntry) (members : List WatchMember) :
    Option VehicleEntry :=
  ((qualifying c entries).filter fun e => !listed members e.number).foldl betterRanked none

/-- The members after the worst usage of the vehicle of entry `e` has changed, `entries` being the view
after the change (Table 2-5). -/
def watchUpdate (c : ConfigBlock) (entries : List VehicleEntry) (e : VehicleEntry)
    (members : List WatchMember) : List WatchMember :=
  let others := members.filter fun m => m.vehicle != e.number
  let best := bestUnlisted c entries members
  let placed := insertRanked (memberOf e) others
  match listed members e.number, decide (c.warn ≤ e.worst) with
  | true, true =>
    match best with
    | none => placed
    | some b => if ranksAhead b.worst b.number e.worst e.number then others ++ [memberOf b] else placed
  | true, false =>
    match best with
    | none => others
    | some b => others ++ [memberOf b]
  | false, true => placed.take watchRoom
  | false, false => members

/-- OVERDUE_PRESENT as the watch list shows it: its first member's worst usage is at least grace (R43). -/
def overduePresent (c : ConfigBlock) (members : List WatchMember) : Bool :=
  match members with
  | [] => false
  | m :: _ => c.grace ≤ m.usage

/-- The update of R41 after the worst usage of entry `e`, already in the view, has changed: the list, the
overflow count, WATCH_CHANGED when the sequence of vehicle numbers changed (R42), OVERDUE_PRESENT
(R43). -/
def updateWatch (c : ConfigBlock) (e : VehicleEntry) (s : State) : State :=
  let members := watchUpdate c s.view.entries e s.watch.members
  let overflow := (qualifying c s.view.entries).length - members.length
  let changed := members.map (·.vehicle) != s.watch.members.map (·.vehicle)
  let s1 := { s with watch := { members := members, overflow := overflow } }
  let s2 := if changed then raise .watchChanged s1 else s1
  report .overduePresent (overduePresent c members) s2

end Sys2Proof.Machine
end

