-- ==== Sys2Proof/Machine/View.lean ====
section
/-! DEFINITION. Sys2Proof/Machine/View.lean: the Vehicle View (chapter 1): classes, entries, origin
lists, the change of a vehicle with its usage recomputation and its report to the send queue, the charge
of an issue, the merge of a tally and the cover test. -/

namespace Sys2Proof.Machine

/-! ### Classes and entries (sections 1.1 to 1.3) -/

/-- Does the class range cover the number? The range with low = high = 0 is empty (R2). -/
def ClassConfig.covers (k : ClassConfig) (v : Nat) : Bool :=
  !(k.low == 0 && k.high == 0) && k.low ≤ v && v ≤ k.high

/-- The class of a vehicle number; none when no range covers it, and so for 0 and every number above
4095 (R2). -/
def classOf (c : ConfigBlock) (v : Nat) : Option (Fin 8) :=
  if v = 0 ∨ vehicleTop < v then none
  else ([0, 1, 2, 3, 4, 5, 6, 7] : List (Fin 8)).find? fun k => c.classes[k].covers v

/-- A new vehicle entry (Table 1-1). -/
def newEntry (v : Nat) (cls : Fin 8) : VehicleEntry :=
  { number := v, cls := cls, origins := [], hours := none, totaliser := none
    services := Vector.replicate 4 ⟨0, 0, 0, none⟩, bar := ⟨false, 0, 0⟩
    usage := Vector.replicate 4 0, states := Vector.replicate 4 .current, worst := 0
    worstState := .current, hold := false }

/-- The entry of a vehicle number, if there is one. -/
def findEntry (entries : List VehicleEntry) (v : Nat) : Option VehicleEntry :=
  entries.find? fun e => e.number == v

/-- The view with an entry put at its place in vehicle-number order, replacing the vehicle's own (R1). -/
def putEntry (e : VehicleEntry) : List VehicleEntry → List VehicleEntry
  | [] => [e]
  | x :: xs =>
    if e.number < x.number then e :: x :: xs
    else if e.number = x.number then e :: xs
    else x :: putEntry e xs

/-- The entry of a vehicle in the station's view. -/
def State.entry (s : State) (v : Nat) : Option VehicleEntry := findEntry s.view.entries v

/-- The entry that a request or tally for a vehicle of class `cls` works on: its own, or a new one (R8). -/
def State.entryOrNew (s : State) (v : Nat) (cls : Fin 8) : VehicleEntry :=
  (s.entry v).getD (newEntry v cls)

/-- The view can take no new vehicle (R9). -/
def State.viewFull (s : State) : Bool := viewRoom ≤ s.view.entries.length

/-- A vehicle with no entry meets a full view (R9). -/
def State.noRoomFor (s : State) (v : Nat) : Bool := (s.entry v).isNone && s.viewFull

/-- The station's view with an entry put. -/
def State.putEntry (s : State) (e : VehicleEntry) : State :=
  { s with view := { s.view with entries := Machine.putEntry e s.view.entries } }

/-! ### Origin lists (R4) -/

/-- Is (station, tag) the key of the entry? -/
def keyIs (station tag : Nat) (o : OriginEntry) : Bool := o.station == station && o.tag == tag

/-- Lexicographic order of (station, start tag) (R4). -/
def originBefore (a b : OriginEntry) : Bool :=
  a.station < b.station || (a.station == b.station && a.tag < b.tag)

/-- The amount held under a key. -/
def amountOf (station tag : Nat) (l : List OriginEntry) : Option Nat :=
  (l.find? (keyIs station tag)).map (·.amount)

/-- An origin entry inserted at its ordered place. -/
def insertOrigin (o : OriginEntry) : List OriginEntry → List OriginEntry
  | [] => [o]
  | x :: xs => if originBefore o x then o :: x :: xs else x :: insertOrigin o xs

/-- The amount under a key rewritten, the other entries left. -/
def setAmount (station tag amount : Nat) (l : List OriginEntry) : List OriginEntry :=
  l.map fun o => if keyIs station tag o then { o with amount := amount } else o

/-- The shift total known at this station: the sum of the amounts (R4). -/
def shiftTotal (l : List OriginEntry) : Nat := (l.map (·.amount)).sum

/-! ### The send queue (sections 5.8, 1.6) -/

/-- Is the vehicle queued? -/
def queued (q : List QueueItem) (v : Nat) : Bool := q.any (·.vehicle == v)

/-- The queue after V changed: added at the tail if absent, its cover count set to 0 (R94). -/
def queueChanged (v : Nat) (q : List QueueItem) : List QueueItem :=
  if queued q v then q.map fun x => if x.vehicle = v then { x with cover := 0 } else x
  else q ++ [⟨v, 0⟩]

/-- The queue after a report that a tally covers an unchanged V: its cover count increases, and at the
suppression threshold V leaves the queue (R95). -/
def queueCovered (threshold v : Nat) (q : List QueueItem) : List QueueItem :=
  (q.map fun x => if x.vehicle = v then { x with cover := x.cover + 1 } else x).filter
    fun x => !(x.vehicle == v && threshold ≤ x.cover)

/-- "Vehicle changed" reported to the Pit Net Controller (R20, R94). -/
def vehicleChanged (v : Nat) (s : State) : State :=
  { s with radio := { s.radio with queue := queueChanged v s.radio.queue } }

/-! ### A change of a vehicle (R20, R34) -/

/-- The entry `e` put into the view with its usage recomputed; when its worst usage changed, the watch
list is updated (R34). -/
def storeEntry (c : ConfigBlock) (e : VehicleEntry) (s : State) : State :=
  let e' := withUsage c e
  let s1 := s.putEntry e'
  if e'.worst = e.worst then s1 else updateWatch c e' s1

/-- A local change of a vehicle: its entry stored and the change reported to the send queue (R20). -/
def changeEntry (c : ConfigBlock) (e : VehicleEntry) (s : State) : State :=
  vehicleChanged e.number (storeEntry c e s)

/-! ### The own origin entry (section 1.4) -/

/-- Does the list hold this station's own origin entry? (R10) -/
def hasOwn (s : State) (l : List OriginEntry) : Bool :=
  l.any (keyIs s.stationNumber s.store.startTag)

/-- The list with the own origin entry inserted with an amount. -/
def insertOwn (s : State) (amount : Nat) (l : List OriginEntry) : List OriginEntry :=
  insertOrigin ⟨s.stationNumber, s.store.startTag, amount⟩ l

/-- The volume of an ended issue charged to the vehicle's own origin entry (R11). A delivered volume of 0
changes nothing, the origin-full counter with the rest, also where the own entry is absent from a full list
(DESIGN CHOICE, notes/assumptions/29.md). A charge to an own amount that already stands at its top is a change
and is reported (DESIGN CHOICE, notes/assumptions/30.md). -/
def charge (c : ConfigBlock) (v delivered : Nat) (s : State) : State :=
  match s.entry v with
  | none => s
  | some e =>
    if delivered = 0 then s
    else match amountOf s.stationNumber s.store.startTag e.origins with
      | some a =>
        let amount := satAdd u32Max a delivered
        changeEntry c { e with origins := setAmount s.stationNumber s.store.startTag amount e.origins } s
      | none =>
        if e.origins.length < originRoom then
          changeEntry c { e with origins := insertOwn s delivered e.origins } s
        else { s with view := { s.view with originFull := bump s.view.originFull } }

/-! ### The merge of a tally (section 1.5) -/

/-- A merge under way: the entry, whether the merge has changed it, and how many received origin entries
were skipped for want of room. -/
structure MergeState where
  entry   : VehicleEntry
  changed : Bool
  skipped : Nat
deriving DecidableEq, Repr

/-- One received origin entry merged (R13). -/
def mergeOrigin (m : MergeState) (o : OriginEntry) : MergeState :=
  match amountOf o.station o.tag m.entry.origins with
  | some a =>
    if a < o.amount then
      { m with entry := { m.entry with origins := setAmount o.station o.tag o.amount m.entry.origins }
               changed := true }
    else m
  | none =>
    if m.entry.origins.length < originRoom then
      { m with entry := { m.entry with origins := insertOrigin o m.entry.origins }, changed := true }
    else { m with skipped := m.skipped + 1 }

/-- The register after a merge: the received one when it is present and the local is absent or smaller
(R14). -/
def mergeRegister (localReg received : Option Reading) : Option Reading :=
  match received, localReg with
  | none, l => l
  | some r, none => some r
  | some r, some l => if l.value < r.value then some r else some l

/-- Lexicographic order of (sequence number, origin) pairs (R6, R7). -/
def pairBelow (n1 o1 n2 o2 : Nat) : Bool := n1 < n2 || (n1 == n2 && o1 < o2)

/-- Is the received service entry taken? One with epoch 0 replaces nothing (R15). -/
def serviceTaken (localEntry received : ServiceEntry) : Bool :=
  received.epoch != 0 && pairBelow localEntry.epoch localEntry.origin received.epoch received.origin

/-- Is the received bar taken? One with version 0 replaces nothing (R16). -/
def barTaken (localBar received : Bar) : Bool :=
  received.version != 0 && pairBelow localBar.version localBar.origin received.version received.origin

/-- The service entries after a merge (R15). -/
def mergeServices (localSvc received : Vector ServiceEntry 4) : Vector ServiceEntry 4 :=
  Vector.ofFn fun i => if serviceTaken localSvc[i] received[i] then received[i] else localSvc[i]

/-- The fields of a tally merged into an entry, with S_m the station's shift number (R13 to R17). The
origin list is merged only when the tally is of the current shift. -/
def mergeTally (shift : Nat) (f : TallyFrame) (created : Bool) (e : VehicleEntry) : MergeState :=
  let m := if f.shift = shift then f.origins.foldl mergeOrigin ⟨e, created, 0⟩ else ⟨e, created, 0⟩
  let hours := mergeRegister e.hours f.hours
  let totaliser := mergeRegister e.totaliser f.totaliser
  let services := mergeServices e.services f.services
  let bar := if barTaken e.bar f.bar then f.bar else e.bar
  { m with
    entry := { m.entry with hours := hours, totaliser := totaliser, services := services, bar := bar }
    changed := m.changed || hours != e.hours || totaliser != e.totaliser || services != e.services ||
      barTaken e.bar f.bar }

/-- The tally's register holds at least what the local one holds (R18). -/
def registerCovered (localReg received : Option Reading) : Bool :=
  match localReg, received with
  | none, _ => true
  | some _, none => false
  | some l, some r => l.value ≤ r.value

/-- The tally's origin list holds the local origin entry with no smaller amount (R18). -/
def originCovered (received : List OriginEntry) (o : OriginEntry) : Bool :=
  received.any fun r => keyIs o.station o.tag r && o.amount ≤ r.amount

/-- The cover test (R18). -/
def covers (shift : Nat) (f : TallyFrame) (e : VehicleEntry) : Bool :=
  (f.shift == shift || e.origins.isEmpty) &&
    e.origins.all (originCovered f.origins) &&
    registerCovered e.hours f.hours && registerCovered e.totaliser f.totaliser &&
    ([0, 1, 2, 3] : List (Fin 4)).all (fun i =>
      !pairBelow f.services[i].epoch f.services[i].origin e.services[i].epoch e.services[i].origin) &&
    !pairBelow f.bar.version f.bar.origin e.bar.version e.bar.origin

/-- The send queue's answer to a merge report (Table 1-2). -/
def mergeReport (c : ConfigBlock) (v : Nat) (changed covered : Bool) (s : State) : State :=
  if changed then vehicleChanged v s
  else if covered then
    { s with radio := { s.radio with queue := queueCovered c.suppression v s.radio.queue } }
  else s

/-- What one station's tally of vehicle V would carry (R80). -/
def tallyOf (shift : Nat) (e : VehicleEntry) : TallyFrame :=
  { vehicle := e.number, shift := shift, bar := e.bar, hours := e.hours, totaliser := e.totaliser
    services := e.services, origins := e.origins }

end Sys2Proof.Machine
end

