-- ==== Sys2Proof/Machine/Field.lean ====
section
/-! DEFINITION. Sys2Proof/Machine/Field.lean: the outputs that follow the hose states, and the nozzle
guard (chapter 6). Every change of a hose state goes through `enterState`. -/

namespace Sys2Proof.Machine

/-- The main valve is on only in FLOWING, and never while the stop line is asserted (R108). -/
def mainValveOf (stop : Bool) (st : HoseState) : Bool := !stop && st == .flowing

/-- The slow valve is on only in FLOWING and SLOWING, and never while the stop line is asserted (R108). -/
def slowValveOf (stop : Bool) (st : HoseState) : Bool := !stop && (st == .flowing || st == .slowing)

/-- A hose has pump demand in STARTING, FLOWING and SLOWING (R109). -/
def HoseState.pumpDemand : HoseState → Bool
  | .starting => true
  | .flowing => true
  | .slowing => true
  | _ => false

/-- Some hose has pump demand (R109). -/
def State.pumpDemand (s : State) : Bool := anyTable s.hoses (·.ctl.state.pumpDemand)

/-- The two valve outputs of a hose driven as its state and the stop line ask (R108). -/
def driveValves (h : Fin 4) (s : State) : State :=
  s.mapCtl h fun x => { x with
    mainValve := mainValveOf s.field.stop.active x.state
    slowValve := slowValveOf s.field.stop.active x.state }

/-- The pump-run output driven as the demand asks; turning on starts the time since it last turned on
(R109). -/
def drivePump (s : State) : State :=
  if s.pumpDemand then
    if s.field.pumpRun then s else { s with field := { s.field with pumpRun := true, sincePumpOn := 0 } }
  else { s with field := { s.field with pumpRun := false } }

/-- A hose whose state expects its nozzle hung (R104). -/
def HoseState.expectsHung : HoseState → Bool
  | .idle => true
  | .outOfService => true
  | _ => false

/-- Does the hose offend: fitted, its nozzle lifted, and expected hung? (R104) -/
def State.offends (s : State) (h : Fin 4) : Bool :=
  s.fitted h && (s.hose h).nozzle.active && (s.hose h).ctl.state.expectsHung

/-- The guard counter of a hose that offends increments (R105). -/
def countOffence (h : Fin 4) (s : State) : State :=
  if s.offends h then s.mapHose h fun x => { x with guardCount := bump x.guardCount } else s

/-- The nozzle guard evaluated, in a running station only (R105, R106). -/
def guardEval (s : State) : State :=
  if !s.running then s
  else
    let offence := hoseIndices.any s.offends
    let s1 := { s with field := { s.field with matched := !offence } }
    if s.field.matched && offence then raise .nozzleGuard (eachHose countOffence s1) else s1

/-- A hose entering a state: its valves, the pump and the guard follow in the same event (R105, R108,
R109, R126). -/
def enterState (h : Fin 4) (st : HoseState) (s : State) : State :=
  guardEval (drivePump (driveValves h (s.mapCtl h fun x => { x with state := st })))

end Sys2Proof.Machine
end

