-- ==== Sys2Proof/Machine/Records.lean ====
section
/-! DEFINITION. Sys2Proof/Machine/Records.lean: the Issue Record Queue (chapter 10). -/

namespace Sys2Proof.Machine

/-- RECORDS_FULL: records and reservations number 32 (R162). -/
def State.recordsFull (s : State) : Bool :=
  recordRoom ≤ s.records.records.length + s.records.reservations

/-- RECORDS_WAITING reported as the queue stands (R162). -/
def reportWaiting (s : State) : State :=
  report .recordsWaiting (!s.records.records.isEmpty) s

/-- A place reserved (R158). -/
def takeReservation (s : State) : State :=
  { s with records := { s.records with reservations := s.records.reservations + 1 } }

/-- A reservation released (R158). -/
def releaseReservation (s : State) : State :=
  { s with records := { s.records with reservations := s.records.reservations - 1 } }

/-- The record of an issue, built from its context and the clock (R160). -/
def recordOf (number hose : Nat) (x : IssueContext) (now : ClockPos) : IssueRecord :=
  { number := number, hose := hose, vehicle := x.vehicle, cls := x.cls, authorised := x.authorised
    completed := now, limit := x.limit, delivered := x.delivered, overrun := x.overrun
    bound := x.bound, endReason := x.endReason, serviceState := x.serviceState
    netState := x.netState, hours := x.hours, totaliser := x.totaliser, hoursFlag := x.hoursFlag
    totaliserFlag := x.totaliserFlag }

/-- The reservation of hose `h` committed as an issue record (R159). -/
def commitRecord (h : Fin 4) (x : IssueContext) (s : State) : State :=
  let r := recordOf s.records.next (h.val + 1) x s.clock.pos
  reportWaiting { s with records := { records := s.records.records ++ [r]
                                      reservations := s.records.reservations - 1
                                      next := (s.records.next + 1) % 65536 } }

end Sys2Proof.Machine
end

