-- ==== Sys2Proof/Machine/Meter.lean ====
section
/-! DEFINITION. Sys2Proof/Machine/Meter.lean: the Meter Counter of a hose (chapter 7): what a pulse adds,
the flow it shows, and the two rate faults. These functions act on the meter alone; Machine/HoseControl
acts on what they find. -/

namespace Sys2Proof.Machine

/-- A new issue (R113). -/
def Meter.startIssue (m : Meter) : Meter :=
  { m with fraction := 512, delivered := 0, overrun := 0, overrunOver := false, fastCount := 0,
           slowCount := 0, lastFlow := 0, firstPulse := false, settle := none }

/-- Entry to FLOWING (R113). -/
def Meter.enterFlowing (m : Meter) : Meter := { m with firstPulse := true, fastCount := 0 }

/-- Entry to SLOWING, with the settle time in ticks (R113). -/
def Meter.enterSlowing (settle : Nat) (m : Meter) : Meter :=
  { m with fastCount := 0, slowCount := 0, settle := some settle }

/-- Entry to CLOSING (R113). -/
def Meter.enterClosing (m : Meter) : Meter :=
  { m with settle := none, fastCount := 0, slowCount := 0 }

/-- The interval that a pulse captures, `ticks` after the counter's present value (R116). -/
def Meter.capture (m : Meter) (ticks : Nat) : Nat := satAdd intervalTop m.interval ticks

/-- The flow of a capture valid for rate, in cL/s; an interval of 65,535 gives 0 (R117). The flow of an
interval of 0, which R116 says does not arise, is a free value. -/
def flowOf (step interval : Nat) : Nat :=
  if interval = intervalTop then 0
  else if interval = 0 then Config.flowAtZeroInterval step
  else step * 100000 / (1024 * interval)

/-- The flow limit in cL/s of a flow in L/min (R118, R119). -/
def flowLimit (perMinute : Nat) : Nat := perMinute * 100 / 60

/-- A run count after a judged capture: one more above the limit, 0 at or below it (R118, R119). -/
def judgeFlow (limit flow count : Nat) : Nat := if limit < flow then count + 1 else 0

/-- What a pulse found (R115). -/
structure PulseFindings where
  fastFlow  : Bool
  slowFault : Bool
  limit     : Bool
  slowPoint : Bool
deriving DecidableEq, Repr

/-- An issue pulse counted into delivered (R114), its interval captured (R116). Last flow follows every capture
valid for rate, one taken in CLOSING with the rest (R117; DESIGN CHOICE, notes/assumptions/35.md). -/
def Meter.countPulse (step ticks : Nat) (m : Meter) : Meter :=
  let sum := m.fraction + step
  let interval := m.capture ticks
  { m with
    fraction := sum % 1024
    delivered := m.delivered + sum / 1024
    interval := 0
    firstPulse := false
    lastFlow := if m.firstPulse then m.lastFlow else flowOf step interval }

/-- The run counts after an issue pulse taken in hose state `st`: a capture valid for rate is judged in
FLOWING, and in SLOWING once the settle timer has elapsed (R118, R119). `before` is the meter as the pulse
found it and `m` the meter after the count. -/
def Meter.judge (fastLimit slowLimit : Nat) (st : HoseState) (before m : Meter) : Meter :=
  if before.firstPulse then m
  else match st with
    | .flowing => { m with fastCount := judgeFlow fastLimit m.lastFlow before.fastCount }
    | .slowing =>
      if before.settle.isNone then
        { m with slowCount := judgeFlow slowLimit m.lastFlow before.slowCount }
      else m
    | _ => m

/-- The findings of an issue pulse in hose state `st`, `m` being the meter after it (R115). A pulse in
CLOSING finds nothing. -/
def pulseFindings (st : HoseState) (x : IssueContext) (m : Meter) : PulseFindings :=
  { fastFlow := st == .flowing && 3 ≤ m.fastCount
    slowFault := st == .slowing && 3 ≤ m.slowCount
    limit := (st == .flowing || st == .slowing) && x.limit ≤ m.delivered
    slowPoint := st == .flowing && x.slowPoint ≤ m.delivered }

/-- A creep pulse counted into the unattributed volume, its interval captured, its episode begun or
carried on (R116, R122, R123). -/
def Meter.creepPulse (step : Nat) (m : Meter) : Meter :=
  let sum := m.creepFraction + step
  { m with
    creepFraction := sum % 1024
    unattributed := satAdd u32Max m.unattributed (sum / 1024)
    interval := 0
    creep := some creepQuiet }

/-- The overrun measured at entry to ENDED against the limit and the allowance in cL (R121). -/
def Meter.measureOverrun (limit allowance : Nat) (m : Meter) : Meter :=
  { m with overrun := m.delivered - limit, overrunOver := decide (allowance < m.delivered - limit) }

end Sys2Proof.Machine
end

