-- ==== Sys2Proof/Machine/HoseControl.lean ====
section
/-! DEFINITION. Sys2Proof/Machine/HoseControl.lean: the Hose Controllers and the Hose Health Monitor
(chapters 8 and 9): cancellation, closing, the threshold freeze, completion, the start of the flow, and
the pulses. -/

namespace Sys2Proof.Machine

/-! ### Contexts and cancellation -/

/-- The issue context of a hose. -/
def State.context (s : State) (h : Fin 4) : Option IssueContext := (s.hose h).ctl.context

/-- The state with the issue context of a hose rewritten, if one is held. -/
def State.mapContext (s : State) (h : Fin 4) (f : IssueContext → IssueContext) : State :=
  s.mapCtl h fun x => { x with context := x.context.map f }

/-- The issue marked as one that raised a health event (R137, R140, R145). -/
def markIssue (h : Fin 4) (s : State) : State := s.mapContext h fun x => { x with healthEvent := true }

/-- Where a hose with no issue stands: OUT_OF_SERVICE with a frozen count, IDLE otherwise (R141, R142). -/
def restingState (frozen : Bool) : HoseState := if frozen then .outOfService else .idle

/-- A cancellation of an authorisation (R142). -/
def cancel (h : Fin 4) (s : State) : State :=
  let s1 := releaseReservation s
  let s2 := s1.mapCtl h fun x => { x with authTimer := none, context := none }
  enterState h (restingState (s.hose h).health.frozen) s2

/-- A hose moved to CLOSING with an end reason (R139). -/
def close (c : ConfigBlock) (h : Fin 4) (reason : EndReason) (s : State) : State :=
  let s1 := s.mapContext h fun x => { x with endReason := some reason }
  let s2 := s1.mapCtl h fun x => { x with
    primeTimer := none
    startTimer := none
    noFlowTimer := none
    overrunTimer := some (c.overrunWindow * second) }
  enterState h .closing (s2.mapMeter h Meter.enterClosing)

/-- The states from which an issue is closed: STARTING, FLOWING and SLOWING (Table 8-6). -/
def HoseState.issuing : HoseState → Bool
  | .starting => true
  | .flowing => true
  | .slowing => true
  | _ => false

/-- A cause that ends an issue: it cancels in AUTHORIZED, closes with the reason in STARTING, FLOWING and
SLOWING, and leaves any other state (R22, R143, R144). -/
def endIssue (c : ConfigBlock) (h : Fin 4) (reason : EndReason) (s : State) : State :=
  if (s.hose h).ctl.state = .authorized then cancel h s
  else if (s.hose h).ctl.state.issuing then close c h reason s
  else s

/-! ### Health (chapter 9) -/

/-- HOSE_OUT re-evaluated and reported (R154). -/
def reportHoseOut (s : State) : State := report .hoseOut (anyTable s.hoses (·.health.frozen)) s

/-- What the threshold freeze does to its hose (R145). -/
def freezeAction (c : ConfigBlock) (h : Fin 4) (s : State) : State :=
  match (s.hose h).ctl.state with
  | .idle => enterState h .outOfService s
  | .authorized => cancel h s
  | .starting => close c h .fault (markIssue h s)
  | .flowing => close c h .fault (markIssue h s)
  | .slowing => close c h .fault (markIssue h s)
  | .closing => s
  | .ended => s
  | .outOfService => s

/-- A health count frozen where it stands (R151). -/
def freeze (c : ConfigBlock) (h : Fin 4) (s : State) : State :=
  reportHoseOut (freezeAction c h (s.mapHealth h fun x => { x with frozen := true }))

/-- A health event: it adds one to a count that is not frozen, and a count that reaches the threshold is
frozen (R150). -/
def healthEvent (c : ConfigBlock) (h : Fin 4) (s : State) : State :=
  if (s.hose h).health.frozen then s
  else
    let n := satAdd 15 (s.hose h).health.count 1
    let s1 := s.mapHealth h fun x => { x with count := n }
    if c.healthThreshold ≤ n then freeze c h s1 else s1

/-- A health event that marks the issue that raised it (R150). -/
def issueHealthEvent (c : ConfigBlock) (h : Fin 4) (s : State) : State := healthEvent c h (markIssue h s)

/-- A count drained of one for each drip (R152). -/
def dripped (volume delivered : Nat) (x : Health) : Health :=
  { x with accumulator := (x.accumulator + delivered) % volume
           count := x.count - (x.accumulator + delivered) / volume }

/-- The drip input of a completion: nothing with the issue's flag set or the count frozen (R152). -/
def drip (c : ConfigBlock) (h : Fin 4) (delivered : Nat) (flag : Bool) (s : State) : State :=
  if flag || (s.hose h).health.frozen then s
  else s.mapHealth h (dripped (c.dripVolume * 100) delivered)

/-! ### Completion (R140, R141) -/

/-- The hose leaves ENDED: the context is discarded (R141). -/
def leaveEnded (h : Fin 4) (s : State) : State :=
  enterState h (restingState (s.hose h).health.frozen)
    (s.mapCtl h fun x => { x with context := none })

/-- In ENDED the nozzle is examined: hung, the hose leaves (R141). -/
def examineNozzle (h : Fin 4) (s : State) : State :=
  if (s.hose h).ctl.state = .ended ∧ (s.hose h).nozzle.active = false then leaveEnded h s else s

/-- The context with delivered and overrun copied from the meter (R132, R140). -/
def IssueContext.withVolumes (m : Meter) (x : IssueContext) : IssueContext :=
  { x with delivered := m.delivered, overrun := m.overrun }

/-- The hose enters ENDED, its timers stopped and its overrun measured and copied (R121, R140). -/
def enterEnded (c : ConfigBlock) (h : Fin 4) (limit : Nat) (s : State) : State :=
  let s1 := s.mapMeter h fun m => (m.measureOverrun limit (c.overrunAllowance * 10)).enterClosing
  let s2 := s1.mapCtl h fun x => { x with
    primeTimer := none
    startTimer := none
    noFlowTimer := none
    overrunTimer := none
    context := x.context.map (IssueContext.withVolumes (s1.hose h).meter) }
  enterState h .ended s2

/-- The health events of a completed issue, then its drip input (R140). -/
def completionHealth (c : ConfigBlock) (h : Fin 4) (overAllowance noStart : Bool) (delivered : Nat) (s : State) :
    State :=
  let s1 := if overAllowance then issueHealthEvent c h s else s
  let s2 := if noStart then issueHealthEvent c h s1 else s1
  match s2.context h with
  | none => s2
  | some x => drip c h delivered x.healthEvent s2

/-- The completion of the issue whose context is `x`, one event in the order of R140. -/
def complete (c : ConfigBlock) (h : Fin 4) (x : IssueContext) (s : State) : State :=
  let s1 := enterEnded c h x.limit s
  let m := (s1.hose h).meter
  let s2 := charge c x.vehicle m.delivered s1
  let s3 := commitRecord h (x.withVolumes m) s2
  let s4 := raise .issueEnded s3
  let s5 := completionHealth c h m.overrunOver (x.endReason == some .noStart) m.delivered s4
  examineNozzle h s5

/-! ### Starting the flow (section 8.3) -/

/-- Entry to SLOWING (R113, R137). -/
def enterSlowing (c : ConfigBlock) (h : Fin 4) (s : State) : State :=
  enterState h .slowing (s.mapMeter h (Meter.enterSlowing (c.settleTime * second)))

/-- Entry to FLOWING, and on into SLOWING when the slow point is 0 (R135). -/
def enterFlowing (c : ConfigBlock) (h : Fin 4) (x : IssueContext) (s : State) : State :=
  let s1 := s.mapMeter h Meter.enterFlowing
  let s2 := s1.mapCtl h fun k => { k with primeTimer := none, startTimer := some (c.startTime * second) }
  let s3 := enterState h .flowing s2
  if x.slowPoint = 0 then enterSlowing c h s3 else s3

/-- Entry to STARTING on a lift in AUTHORIZED; the hose goes on into FLOWING when the pump has already
run for the prime time (R133, R134). -/
def enterStarting (c : ConfigBlock) (h : Fin 4) (x : IssueContext) (s : State) : State :=
  let s1 := s.mapMeter h Meter.startIssue
  let s2 := enterState h .starting (s1.mapCtl h fun k => { k with authTimer := none })
  let prime := c.primeTime * second
  if prime ≤ s2.field.sincePumpOn then enterFlowing c h x s2
  else s2.mapCtl h fun k => { k with primeTimer := some (prime - s2.field.sincePumpOn) }

/-! ### Pulses (R115, R136, R137) -/

/-- The hose's timers after an issue pulse in FLOWING or SLOWING: the start timer stops and the no-flow
timer starts or restarts (R136). -/
def pulseTimers (c : ConfigBlock) (st : HoseState) (x : HoseControl) : HoseControl :=
  if st = .flowing ∨ st = .slowing then
    { x with startTimer := none, noFlowTimer := some (c.noFlowTime * second) }
  else x

/-- What the findings of an issue pulse do (R115, R137): a fault first, then the limit, then the slow
point. A fault is handed to the Hose Health Monitor whatever else was found (R120). -/
def actOnFindings (c : ConfigBlock) (h : Fin 4) (f : PulseFindings) (s : State) : State :=
  if f.fastFlow || f.slowFault then healthEvent c h (close c h .fault (markIssue h s))
  else if f.limit then close c h .limit s
  else if f.slowPoint then enterSlowing c h s
  else s

/-- An issue pulse of the issue whose context is `x` (R112 to R119). -/
def issuePulse (c : ConfigBlock) (h : Fin 4) (x : IssueContext) (ticks : Nat) (s : State) : State :=
  let st := (s.hose h).ctl.state
  let before := (s.hose h).meter
  let counted := before.countPulse c.pulseStep[h] ticks
  let after := Meter.judge (flowLimit c.maxFlow[h]) (flowLimit c.slowFlow[h]) st before counted
  let s1 := (s.mapMeter h fun _ => after).mapCtl h (pulseTimers c st)
  actOnFindings c h (pulseFindings st x after) s1

/-- A creep pulse; the first of an episode hands CREEP to the Hose Health Monitor (R122, R123). -/
def creepPulse (c : ConfigBlock) (h : Fin 4) (s : State) : State :=
  let first := (s.hose h).meter.creep.isNone
  let s1 := s.mapMeter h (Meter.creepPulse c.pulseStep[h])
  if first then healthEvent c h s1 else s1

/-- The hose states in which a pulse is an issue pulse (R112). -/
def HoseState.takesIssuePulse : HoseState → Bool
  | .flowing => true
  | .slowing => true
  | .closing => true
  | _ => false

/-- A counted pulse taken by its hose's Meter Counter (R112). -/
def takePulse (c : ConfigBlock) (h : Fin 4) (ticks : Nat) (s : State) : State :=
  match (s.hose h).ctl.state.takesIssuePulse, s.context h with
  | true, some x => issuePulse c h x ticks s
  | _, _ => creepPulse c h s

/-! ### Bars and the stop line -/

/-- A bar turned barred acts on the issue of the vehicle at one hose (R22). -/
def barHose (c : ConfigBlock) (v : Nat) (h : Fin 4) (s : State) : State :=
  match s.context h with
  | none => s
  | some x => if x.vehicle = v then endIssue c h .barred s else s

/-- A bar turned barred acts on the vehicle's issue in flight (R22). -/
def barEndsIssue (c : ConfigBlock) (v : Nat) (s : State) : State := eachHose (barHose c v) s

/-- Does the vehicle have an issue in flight at this station? (R126) -/
def State.vehicleActive (s : State) (v : Nat) : Bool :=
  anyTable s.hoses fun x => match x.ctl.context with
    | none => false
    | some k => k.vehicle == v

end Sys2Proof.Machine
end

