-- ==== Sys2Proof/Machine/Clock.lean ====
section
/-! DEFINITION. Sys2Proof/Machine/Clock.lean: the Shift Clock (chapter 3): positions, the shift change,
the second, START, beacons and tallies at the clock, and the class allowances. -/

namespace Sys2Proof.Machine

/-- Is position `p` ahead of position `q`? Lexicographic order (R46). -/
def ClockPos.ahead (p q : ClockPos) : Bool := q.shift < p.shift || (q.shift == p.shift && q.time < p.time)

/-- At the last second of the last shift the clock is held for good (R47). -/
def holdsAt (c : ConfigBlock) (p : ClockPos) : Bool := p.shift == u24Max && c.shiftLength ≤ p.time + 1

/-- The clock at a position taken otherwise than by its own counting: the second count restarts (R47). -/
def placeClock (c : ConfigBlock) (p : ClockPos) (s : State) : State :=
  { s with clock := { s.clock with pos := p, phase := 0, held := s.clock.held || holdsAt c p } }

/-- The effects of a shift change: every origin list is emptied, staged allowances become active and are
removed (R51). -/
def shiftEffects (s : State) : State :=
  { s with
    view := { s.view with entries := s.view.entries.map fun e => { e with origins := [] } }
    clock := { s.clock with
      active := Vector.ofFn fun i => (s.clock.staged[i]).getD s.clock.active[i]
      staged := Vector.replicate 8 none } }

/-- The clock moved to a position, with a shift change when the shift number grows (R48, R49, R50). -/
def moveClock (c : ConfigBlock) (p : ClockPos) (s : State) : State :=
  let s1 := placeClock c p s
  if s.clock.pos.shift < p.shift then shiftEffects s1 else s1

/-- One second counted (R47). An unset or held clock does not count. -/
def countSecond (c : ConfigBlock) (s : State) : State :=
  let p := s.clock.pos
  if !s.clock.set || s.clock.held then s
  else if p.time + 1 < c.shiftLength then placeClock c ⟨p.shift, p.time + 1⟩ s
  else if p.shift < u24Max then moveClock c ⟨p.shift + 1, 0⟩ s
  else placeClock c p s

/-- The position given by START at the clock (R48). -/
def startClock (c : ConfigBlock) (p : ClockPos) (s : State) : State :=
  if !s.clock.set then
    placeClock c p { s with clock := { s.clock with set := true } }
  else if ClockPos.ahead p s.clock.pos then moveClock c p s
  else s

/-- The difference D of R49, in seconds, exact and with its sign. -/
def clockLead (shiftLength : Nat) (p q : ClockPos) : Int :=
  ((p.shift : Int) - q.shift) * shiftLength + ((p.time : Int) - q.time)

/-- A beacon's position at the clock (Table 3-1). A held clock does not move on (R47). -/
def beaconAtClock (c : ConfigBlock) (p : ClockPos) (s : State) : State :=
  let d := clockLead c.shiftLength p s.clock.pos
  if d ≤ 2 then s
  else if d ≤ c.shiftLength then (if s.clock.held then s else moveClock c p s)
  else raise .clockReject { s with clock := { s.clock with reject := bump s.clock.reject } }

/-- A tally's shift number at the clock (R50). -/
def tallyAtClock (c : ConfigBlock) (shift : Nat) (s : State) : State :=
  if shift = s.clock.pos.shift + 1 then moveClock c ⟨shift, 0⟩ s else s

/-- The clock under a newly installed configuration (R56). A clock that is not held and whose time lies below
the new shift length counts on, also at the last second of the last shift, where its next second holds it
(DESIGN CHOICE, notes/assumptions/31.md). -/
def clockUnderConfig (c : ConfigBlock) (s : State) : State :=
  let p := s.clock.pos
  if !s.clock.set || p.time < c.shiftLength then s
  else if s.clock.held || p.shift = u24Max then placeClock c ⟨p.shift, c.shiftLength - 1⟩ s
  else moveClock c ⟨p.shift + 1, 0⟩ s

end Sys2Proof.Machine
end

