-- ==== Sys2Proof/Machine/PeerTable.lean ====
section
/-! DEFINITION. Sys2Proof/Machine/PeerTable.lean: the Peer Table and the net state machine (chapter 4). -/

namespace Sys2Proof.Machine

/-- An entry is PRESENT or FADING, and so counts toward A (R66). -/
def Peer.active (p : Peer) : Bool := p.state == .present || p.state == .fading

/-- The active peer count A (R66). -/
def activePeers (peers : Vector Peer 16) : Nat := (peers.toList.filter Peer.active).length

/-- Some entry is PRESENT. -/
def somePresent (peers : Vector Peer 16) : Bool := anyTable peers fun p => p.state == .present

/-- The state that a bucket shows, for a peer that has been heard (R61). -/
def bucketState (bucket : Nat) : PeerState :=
  if bucket ≤ 2 then .present else if bucket ≤ 7 then .fading else .lost

/-- 1.5 times an advertised interval in seconds, in ticks (R60). -/
def missTime (interval : Nat) : Nat := interval * (second + second / 2)

/-- The state with one peer entry rewritten. -/
def State.mapPeer (s : State) (i : Fin 16) (f : Peer → Peer) : State :=
  { s with net := { s.net with peers := s.net.peers.set i (f s.net.peers[i]) } }

/-- The net state set; a change raises NET_STATE (R67). -/
def setNetState (st : NetState) (s : State) : State :=
  if s.net.state = st then s else raise .netState { s with net := { s.net with state := st } }

/-- The listen timer set or stopped. -/
def setListen (t : Option Nat) (s : State) : State := { s with net := { s.net with listen := t } }

/-- The peer table cleared (R58). -/
def clearPeers (s : State) : State :=
  { s with net := { s.net with peers := Vector.replicate 16 Peer.cleared } }

/-- A valid frame of any kind at its sender's entry (R60, R64). -/
def Peer.heard (p : Peer) : Peer := { p with frames := bump p.frames, since := some 0 }

/-- The bucket after a beacon (Table 4-2). -/
def bucketAfterBeacon (p : Peer) : Nat :=
  match p.state with
  | .neverHeard => 0
  | .present => p.bucket - 1
  | .fading => p.bucket - 1
  | .lost => 2

/-- An entry after its peer's beacon, `now` being the clock after the Shift Clock took it (R60). -/
def Peer.beacon (now : ClockPos) (interval : Nat) (p : Peer) : Peer :=
  { p.heard with
    lastHeard := now
    interval := interval
    missTimer := some (missTime interval)
    bucket := bucketAfterBeacon p
    state := bucketState (bucketAfterBeacon p)
    rejoins := if p.state = .lost then bump p.rejoins else p.rejoins }

/-- An entry after a miss (R62). -/
def Peer.miss (p : Peer) : Peer :=
  { p with
    bucket := p.bucket + 1
    state := bucketState (p.bucket + 1)
    missTimer := if p.bucket < 7 then some (missTime p.interval) else none }

/-- A beacon at its sender's entry, and at the net state: in ISOLATED, an entry that becomes PRESENT takes
the station to LISTEN_IN with the rejoin time (R60, R70). -/
def beaconAtPeer (c : ConfigBlock) (i : Fin 16) (interval : Nat) (s : State) : State :=
  let before := s.net.peers[i]
  let after := before.beacon s.clock.pos interval
  let s1 := s.mapPeer i fun _ => after
  if s.net.state = .isolated ∧ before.state ≠ .present ∧ after.state = .present then
    setNetState .listenIn (setListen (some (c.rejoinTime * second)) s1)
  else s1

/-- A miss at an entry, and at the net state: in JOINED, A becoming 0 takes the station to ISOLATED (R62,
R69). -/
def missAtPeer (i : Fin 16) (s : State) : State :=
  let s1 := s.mapPeer i Peer.miss
  if s.net.state = .joined ∧ activePeers s1.net.peers = 0 then setNetState .isolated s1 else s1

/-- The listen timer runs out (R68). -/
def leaveListenIn (s : State) : State :=
  setNetState (if somePresent s.net.peers then .joined else .isolated) (setListen none s)

/-- The table cleared and LISTEN_IN entered with the listen-in time, by START and RESTART (R71). -/
def enterListenIn (c : ConfigBlock) (s : State) : State :=
  setNetState .listenIn (setListen (some (c.listenInTime * second)) (clearPeers s))

/-- The table cleared and STANDBY entered (R71). -/
def enterStandby (s : State) : State := setNetState .standby (setListen none (clearPeers s))

end Sys2Proof.Machine
end

