-- ==== Sys2Proof/Machine/Radio.lean ====
section
/-! DEFINITION. Sys2Proof/Machine/Radio.lean: the Pit Net Controller (chapter 5): the transmitter, its
schedules, channel access, the send decision and the refresh rotation, and the taking of a checked frame. -/

namespace Sys2Proof.Machine

/-- KEY is asserted while a frame is on air (R85). -/
def Transmitter.key : Transmitter → Bool
  | .sending _ => true
  | _ => false

/-- The receiver takes bits: the station is running and KEY is released (R75, R81). -/
def State.receiving (s : State) : Bool := s.running && !s.radio.tx.key

/-- The state with the Pit Net Controller rewritten. -/
def State.mapRadio (s : State) (f : RadioBlock → RadioBlock) : State := { s with radio := f s.radio }

/-! ### Frames on air (R76) -/

/-- The preamble and the sync word (Table 5-2). -/
def airHeader : List Byte := [0x55#8, 0x55#8, 0x55#8, 0x55#8, 0xB3#8, 0x4E#8]

/-- The ticks for which a frame holds the channel: the key-up delay and its bytes at 19,200 bit/s (R76),
rounded up to a whole tick. -/
def airTime (c : ConfigBlock) (bytes : List Byte) : Nat :=
  c.keyUpDelay * millisecond + ceilDiv (bytes.length * 8 * second) 19200

/-- The level of TXD while a frame is on air: none during the key-up delay, then the bits of its bytes,
most significant first, paced at 19,200 bit/s (R75, R76). -/
def Transmitter.txd (c : ConfigBlock) : Transmitter → Option Bool
  | .sending f =>
    if f.elapsed < c.keyUpDelay * millisecond then none
    else
      let bit := (f.elapsed - c.keyUpDelay * millisecond) * 19200 / second
      f.bytes[bit / 8]?.map fun b => b.getLsbD (7 - bit % 8)
  | _ => none

/-! ### Access attempts (R85, R89, R90) -/

/-- A quiet wait begun now: the quiet time counts at once when CD is clear, and from its fall otherwise
(R89). -/
def quietFrom (cd : Bool) (frozen : Option Nat) : Transmitter :=
  .quiet (if cd then none else some quietTime) frozen

/-- A frame has become due: an IDLE transmitter enters ACCESS with a fresh attempt; in ACCESS or SENDING
the frame joins or waits (R85). -/
def beginAccess (r : RadioBlock) : RadioBlock :=
  match r.tx with
  | .idle => { r with tx := quietFrom r.cd none }
  | _ => r

/-- Some frame is due. -/
def RadioBlock.someDue (r : RadioBlock) : Bool := r.dueBeacon.isSome || r.dueTally.isSome

/-- After a send or an abandonment outside an attempt: a fresh attempt while a frame is due, IDLE
otherwise (R85, R86). -/
def nextAttempt (r : RadioBlock) : RadioBlock :=
  { r with tx := if r.someDue then quietFrom r.cd none else .idle }

/-! ### The send decision (R86, R97) -/

/-- The next vehicle of the refresh rotation: the lowest number above the pointer, or the lowest of all
(R97). -/
def refreshEntry (pointer : Nat) (entries : List VehicleEntry) : Option VehicleEntry :=
  (entries.find? fun e => pointer < e.number).or entries.head?

/-- A frame goes on air: KEY is asserted, a body being taken is abandoned (R81), CW returns to 16 (R86). -/
def putOnAir (kind : OnAirKind) (body : List Byte) (r : RadioBlock) : RadioBlock :=
  { r with tx := .sending { kind := kind, bytes := airHeader ++ body, elapsed := 0 }
           cw := cwLow
           receiver := .hunt 0 }

/-- The beacon sent at the opportunity (R79, R86). -/
def sendBeacon (c : ConfigBlock) (s : State) : State :=
  s.mapRadio fun r =>
    putOnAir .beacon (beaconBody c.station s.clock.pos c.beaconInterval) { r with dueBeacon := none }

/-- The body of the tally of an entry (R80). -/
def tallyBodyOf (c : ConfigBlock) (s : State) (e : VehicleEntry) : List Byte :=
  tallyBody c.station (tallyOf s.clock.pos.shift e)

/-- The tally sent at the opportunity: the head of the send queue, which leaves it, or with the queue empty
the refresh vehicle, to which the pointer moves (R86). With neither, no frame is left due. The gap clock
stops while the station's own tally is on air and runs again from its end, so that its tallies stand a whole
gap apart (R88; DEDUCED, notes/assumptions/28.md). -/
def sendTally (c : ConfigBlock) (s : State) : State :=
  match s.radio.queue with
  | q :: rest =>
    match s.entry q.vehicle with
    | some e => s.mapRadio fun r =>
        putOnAir (.fromQueue q.vehicle) (tallyBodyOf c s e)
          { r with dueTally := none, gapClock := none, queue := rest }
    | none => s.mapRadio fun r => nextAttempt { r with dueTally := none, queue := rest }
  | [] =>
    match refreshEntry s.radio.refresh s.view.entries with
    | some e => s.mapRadio fun r =>
        putOnAir (.refresh e.number r.refresh) (tallyBodyOf c s e)
          { r with dueTally := none, gapClock := none, refresh := e.number }
    | none => s.mapRadio fun r => nextAttempt { r with dueTally := none }

/-- The opportunity to send: the beacon when one is due, otherwise the tally (R85). -/
def opportunity (c : ConfigBlock) (s : State) : State :=
  if s.radio.dueBeacon.isSome then sendBeacon c s
  else if s.radio.dueTally.isSome then sendTally c s
  else s.mapRadio nextAttempt

/-! ### Schedules (R87, R88) -/

/-- The first beacon's time after START or RESTART, in 0..1000 ms, and the state after its draw (R87). -/
def startSchedules (s : State) : State :=
  let (d, s1) := s.drawBelow 1001
  s1.mapRadio fun r => { r with schedule := some (d * millisecond), gapClock := some 0 }

/-- The next beacon's time, from I × 875 to I × 1125 ms (R87). -/
def nextBeacon (c : ConfigBlock) (s : State) : State :=
  let (d, s1) := s.drawBelow (c.beaconInterval * 250 + 1)
  s1.mapRadio fun r => { r with schedule := some ((c.beaconInterval * 875 + d) * millisecond) }

/-- The gap that the gap clock must reach, scaled by 1 + A; none with nothing to send (R88). -/
def State.tallyGap (c : ConfigBlock) (s : State) : Option Nat :=
  let scale := 1 + activePeers s.net.peers
  if !s.radio.queue.isEmpty then some (c.baseGap * millisecond * scale)
  else if !s.view.entries.isEmpty then some (c.refreshGap * second * scale)
  else none

/-! ### Stopping (R92) -/

/-- What a cut-off frame puts back: a tally sent from the head returns there with cover count 0 unless its
vehicle is queued, a refresh puts the pointer back (R92). -/
def putBack (kind : OnAirKind) (r : RadioBlock) : RadioBlock :=
  match kind with
  | .beacon => r
  | .fromQueue v => if queued r.queue v then r else { r with queue := ⟨v, 0⟩ :: r.queue }
  | .refresh _ pointer => { r with refresh := pointer }

/-- The transmitter stopped where it stands: due frames are dropped uncounted, a frame on air is cut off
(R92). -/
def stopTransmitter (r : RadioBlock) : RadioBlock :=
  let r1 := match r.tx with
    | .sending f => putBack f.kind r
    | _ => r
  { r1 with tx := .idle, cw := cwLow, dueBeacon := none, dueTally := none, schedule := none,
            gapClock := none }

/-! ### Received frames (R82, R84) -/

/-- A dropped frame counted once, under the counter of its failing check (R82). -/
def countDrop (cause : DropCause) (s : State) : State :=
  match cause with
  | .crc => s.mapRadio fun r => { r with badCrc := bump r.badCrc }
  | _ => s.mapRadio fun r => { r with malformed := bump r.malformed }

/-- A valid beacon (R59, R65, R84). -/
def takeBeacon (c : ConfigBlock) (i : Fin 16) (pos : ClockPos) (interval : Nat) (s : State) : State :=
  if i.val + 1 = c.station then
    raise .numberClash { s with net := { s.net with clash := bump s.net.clash } }
  else beaconAtPeer c i interval (beaconAtClock c pos s)

/-- A valid tally of a vehicle of class `cls` for which there is room, merged into the view (R12 stages 4 to
7). -/
def mergeIntoView (c : ConfigBlock) (cls : Fin 8) (f : TallyFrame) (s : State) : State :=
  let old := s.entryOrNew f.vehicle cls
  let m := mergeTally s.clock.pos.shift f (s.entry f.vehicle).isNone old
  let stale := if f.shift = s.clock.pos.shift then s.view.staleShift else bump s.view.staleShift
  let s1 := { s with view := { s.view with
    staleShift := stale
    originFull := satAdd u16Max s.view.originFull m.skipped } }
  let s2 := if m.changed then storeEntry c m.entry s1 else s1
  let s3 := if !old.bar.barred && m.entry.bar.barred then barEndsIssue c f.vehicle s2 else s2
  mergeReport c f.vehicle m.changed (covers s.clock.pos.shift f m.entry) s3

/-- A tally taken by the view, after the Shift Clock has examined it (R9, R12). -/
def tallyAtView (c : ConfigBlock) (f : TallyFrame) (s : State) : State :=
  match classOf c f.vehicle with
  | none => { s with view := { s.view with noClass := bump s.view.noClass } }
  | some cls =>
    if s.noRoomFor f.vehicle then
      raise .viewFull { s with view := { s.view with viewFull := bump s.view.viewFull } }
    else mergeIntoView c cls f s

/-- A valid tally from station `i`: the Shift Clock, the view, and the sender's peer entry unless it bears
the own number (R12, R64, R84). -/
def takeTally (c : ConfigBlock) (i : Fin 16) (f : TallyFrame) (s : State) : State :=
  let s1 := tallyAtView c f (tallyAtClock c f.shift s)
  if i.val + 1 = c.station then s1 else s1.mapPeer i Peer.heard

end Sys2Proof.Machine
end

