-- ==== Sys2Proof/Machine/Link.lean ====
section
/-! DEFINITION. Sys2Proof/Machine/Link.lean: the terminal link (sections 11.1, 11.2): codes, responses,
and the serving of one request. -/

namespace Sys2Proof.Machine

/-! ### Codes -/

/-- Result codes (Table 11-2). -/
def Result.code : Result → Nat
  | .ok => 0x00
  | .badRequest => 0x01
  | .notRunning => 0x02
  | .noConfig => 0x03
  | .badConfig => 0x04
  | .hosesActive => 0x05
  | .notFitted => 0x06
  | .hoseOut => 0x07
  | .busy => 0x08
  | .nozzleLifted => 0x09
  | .estop => 0x0A
  | .recordsFull => 0x0B
  | .unknownClass => 0x0C
  | .vehicleActive => 0x0D
  | .viewFull => 0x0E
  | .barred => 0x0F
  | .hoursImplausible => 0x10
  | .hoursRegression => 0x11
  | .totaliserImplausible => 0x12
  | .totaliserRegression => 0x13
  | .originFull => 0x14
  | .allowanceUsed => 0x15
  | .serviceHold => 0x16
  | .netCap => 0x17
  | .preset => 0x18
  | .notActive => 0x19
  | .ending => 0x1A
  | .notFrozen => 0x1B
  | .notJoined => 0x1C
  | .sequenceLimit => 0x1D
  | .noMatch => 0x1E
  | .noEntry => 0x1F
  | .empty => 0x20

/-- Net state codes (Table 4-3). -/
def NetState.code : NetState → Nat
  | .standby => 0
  | .listenIn => 1
  | .joined => 2
  | .isolated => 3

/-- Hose state codes (Table 8-2). -/
def HoseState.code : HoseState → Nat
  | .outOfService => 0
  | .idle => 1
  | .authorized => 2
  | .starting => 3
  | .flowing => 4
  | .slowing => 5
  | .closing => 6
  | .ended => 7

/-- Bound codes (Table 8-4). -/
def Bound.code : Bound → Nat
  | .allowance => 1
  | .hold => 2
  | .net => 3
  | .tank => 4
  | .preset => 5

/-- End reason codes; 0 until set (Tables 8-7, 8-8). -/
def endReasonCode : Option EndReason → Nat
  | none => 0
  | some .limit => 1
  | some .hung => 2
  | some .noStart => 3
  | some .noFlow => 4
  | some .fault => 5
  | some .stop => 6
  | some .estop => 7
  | some .barred => 8
  | some .restart => 9

/-- Service state codes (Table 2-4). -/
def ServiceState.code : ServiceState → Nat
  | .current => 0
  | .dueSoon => 1
  | .due => 2
  | .overdue => 3

/-- Peer state codes (R73). -/
def PeerState.code : PeerState → Nat
  | .neverHeard => 0
  | .present => 1
  | .fading => 2
  | .lost => 3

/-- Reading flags: 00h none, 01h hours, 02h totaliser, 03h both (R131). -/
def readingFlags (hours totaliser : Bool) : Nat := hours.toNat + 2 * totaliser.toNat

/-! ### Responses -/

/-- What a request answers: the state after it, its result and its payload. -/
abbrev Reply := State × Result × List Byte

/-- A refusal that changes nothing and carries no payload (R166). -/
def refuse (r : Result) (s : State) : Reply := (s, r, [])

/-- An OK response. -/
def accept (s : State) (payload : List Byte) : Reply := (s, .ok, payload)

/-- The link error counter increments (R165). -/
def linkError (s : State) : State := { s with link := { s.link with errors := bump s.link.errors } }

/-- A request served: with four responses held it is discarded without being taken, and otherwise it is
dealt with and its response joins those to be sent (R166). -/
def serve (kind : Nat) (s : State) (request : State → Reply) : State :=
  if responseRoom ≤ s.link.responses.length then linkError s
  else
    let (s1, r, p) := request s
    { s1 with link := { s1.link with responses := s1.link.responses ++ [⟨kind, r, p⟩] } }

/-- A response in its link envelope (R164). -/
def responseFrame (r : Response) : List Byte :=
  let covered := beBytes 1 (r.payload.length + 2) ++ beBytes 1 r.kind ++ beBytes 1 r.result.code ++ r.payload
  0xC3#8 :: covered ++ crcField covered

/-- The ticks a response takes on the line: ten bits for each byte at 115,200 bit/s (R164), rounded up. -/
def responseTime (r : Response) : Nat := ceilDiv ((responseFrame r).length * 10 * second) 115200

/-! ### Fields of the responses -/

/-- The three masks of R169 as the table stands, with the first mask given. -/
def noticeMasks (pending : Nat) (entries : Vector NoticeEntry 12) : List Byte :=
  beBytes 2 pending ++ beBytes 2 (noticeMask entries (·.condition)) ++
    beBytes 2 (noticeMask entries (·.awaiting))

/-- A clock position in six bytes. -/
def posField (p : ClockPos) : List Byte := beBytes 3 p.shift ++ beBytes 3 p.time

/-- The eight active and staged allowances (R54). -/
def allowanceFields (s : State) : List Byte :=
  ([0, 1, 2, 3, 4, 5, 6, 7] : List (Fin 8)).flatMap fun k =>
    beBytes 3 s.clock.active[k] ++ flagByte s.clock.staged[k].isSome ++
      beBytes 3 (s.clock.staged[k].getD 0)

/-- A service entry with its usage and state (R23, R33). -/
def serviceReport (e : VehicleEntry) (i : Fin 4) : List Byte :=
  serviceField e.services[i] ++ beBytes 2 e.usage[i] ++ beBytes 1 e.states[i].code

/-- The four service entries with their usage, then worst usage, worst state and hold (R23, R33). -/
def serviceReports (e : VehicleEntry) : List Byte :=
  hoseIndices.flatMap (serviceReport e) ++ beBytes 2 e.worst ++ beBytes 1 e.worstState.code ++
    flagByte e.hold

end Sys2Proof.Machine
end

