-- ==== Sys2Proof/Machine/ConfigLoad.lean ====
section
/-! DEFINITION. Sys2Proof/Machine/ConfigLoad.lean: the configuration block (section 11.4): its field
table, its validation and its installation. -/

namespace Sys2Proof.Machine

/-- A field of the configuration block: bytes, range and default (Table 11-5). -/
structure FieldSpec where
  width  : Nat
  low    : Nat
  high   : Nat
  preset : Option Nat
deriving DecidableEq, Repr

/-- Fields 1 to 14 of Table 11-5. -/
def fieldsStation : List FieldSpec :=
  [⟨1, 1, 16, none⟩, ⟨1, 0, 15, none⟩, ⟨2, 0, 511, none⟩, ⟨1, 5, 200, some 30⟩, ⟨1, 1, 50, some 5⟩,
   ⟨1, 2, 20, some 3⟩] ++ List.replicate 4 ⟨2, 128, 32767, none⟩ ++ List.replicate 4 ⟨1, 0, 2, none⟩

/-- Fields 15 to 32 of Table 11-5. -/
def fieldsHose : List FieldSpec :=
  List.replicate 4 ⟨2, 20, 1500, none⟩ ++ List.replicate 4 ⟨2, 5, 300, none⟩ ++
  [⟨1, 1, 10, some 3⟩, ⟨1, 0, 100, some 20⟩, ⟨1, 1, 10, some 2⟩, ⟨1, 5, 200, some 30⟩,
   ⟨2, 10, 300, some 90⟩, ⟨1, 2, 60, some 15⟩, ⟨1, 5, 120, some 30⟩, ⟨1, 0, 20, some 3⟩,
   ⟨1, 2, 15, some 6⟩, ⟨2, 1000, 50000, some 5000⟩]

/-- Fields 33 to 47 of Table 11-5. -/
def fieldsNet : List FieldSpec :=
  [⟨2, 500, 999, some 900⟩, ⟨2, 1000, 1500, some 1100⟩, ⟨2, 0, 5000, none⟩, ⟨1, 0, 50, some 10⟩,
   ⟨2, 0, 2000, some 50⟩, ⟨1, 1, 100, some 10⟩, ⟨2, 0, 5000, none⟩, ⟨3, 3600, 86400, some 43200⟩,
   ⟨1, 5, 60, some 10⟩, ⟨2, 100, 2000, some 250⟩, ⟨1, 1, 30, some 3⟩, ⟨1, 2, 50, some 8⟩,
   ⟨2, 30, 600, some 90⟩, ⟨2, 10, 300, some 20⟩, ⟨1, 1, 3, some 2⟩]

/-- The thirteen fields of a class group of Table 11-5. -/
def fieldsClass : List FieldSpec :=
  [⟨2, 0, 4095, none⟩, ⟨2, 0, 4095, none⟩, ⟨3, 0, 100000, none⟩, ⟨2, 50, 20000, none⟩,
   ⟨2, 1, 800, none⟩] ++ List.replicate 4 ⟨2, 0, 20000, none⟩ ++ List.replicate 4 ⟨3, 0, 2000000, none⟩

/-- The 151 fields of Table 11-5 in index order. -/
def blockFields : List FieldSpec :=
  fieldsStation ++ fieldsHose ++ fieldsNet ++ (List.replicate 8 fieldsClass).flatten

/-- The byte count of part 1, fields 1 to 47 (R171). -/
def part1Bytes : Nat := 72

/-- The byte count of part 2, fields 48 to 151 (R171). -/
def part2Bytes : Nat := 248

/-- A field's value as sent: all its bytes FFh stand for the default, where it has one (R172). -/
def FieldSpec.value (f : FieldSpec) (raw : Nat) : Nat :=
  if raw = 256 ^ f.width - 1 then f.preset.getD raw else raw

/-- Does a field fail its own range? All its bytes FFh fail it where it has no default (R172). -/
def FieldSpec.fails (f : FieldSpec) (raw : Nat) : Bool :=
  (raw == 256 ^ f.width - 1 && f.preset.isNone) || f.value raw < f.low || f.high < f.value raw

/-- The numbers that the fields' bytes spell, in index order. -/
def rawFields : List FieldSpec → List Byte → List Nat
  | [], _ => []
  | f :: fs, bs => ofBytes (bs.take f.width) :: rawFields fs (bs.drop f.width)

/-- The raw numbers of the whole block, fields 1 to 151. -/
def rawBlock (part1 part2 : List Byte) : List Nat := rawFields blockFields (part1 ++ part2)

/-- The values of the whole block, defaults taken. -/
def blockValues (raws : List Nat) : List Nat := (blockFields.zip raws).map fun x => x.1.value x.2

/-- The value of the field with an index of Table 11-5. -/
def valueAt (values : List Nat) (i : Nat) : Nat := values.getD (i - 1) 0

/-- The indices of the fields that fail their own range. -/
def rangeFailures (raws : List Nat) : List Nat :=
  ((blockFields.zip raws).zipIdx 1).filterMap fun x => if x.1.1.fails x.1.2 then some x.2 else none

/-- The range of class k: low and high (fields 48 + 13k, 49 + 13k). -/
def rangeAt (values : List Nat) (k : Nat) : Nat × Nat :=
  (valueAt values (48 + 13 * k), valueAt values (49 + 13 * k))

/-- Two non-empty ranges overlap: some number stands in both (R2, R172). -/
def rangesOverlap (a b : Nat × Nat) : Bool :=
  a != (0, 0) && b != (0, 0) && max a.1 b.1 ≤ min a.2 b.2

/-- The fields named by the cross-checks of one class (R172): its range, its overlap with a lower class,
its tank capacity below the minimum issue. -/
def classFailures (values : List Nat) (k : Nat) : List Nat :=
  let r := rangeAt values k
  (if r.2 < r.1 ∨ (r.1 = 0 ∧ r.2 ≠ 0) then [49 + 13 * k] else []) ++
  (if (List.range k).any (fun j => rangesOverlap (rangeAt values j) r) then [48 + 13 * k] else []) ++
  (if valueAt values (51 + 13 * k) < valueAt values 38 then [51 + 13 * k] else [])

/-- The fields named by the cross-checks of R172. -/
def crossFailures (values : List Nat) : List Nat :=
  (if valueAt values 40 % 60 ≠ 0 then [40] else []) ++ (List.range 8).flatMap (classFailures values)

/-- The fields that a block's validation names (R172). -/
def blockFailures (raws : List Nat) : List Nat := rangeFailures raws ++ crossFailures (blockValues raws)

/-- The lowest index among the fields named, none when every field passes (R172). -/
def lowestFailure (failures : List Nat) : Option Nat := failures.min?

/-- An edge mode code (Table 11-5). -/
def edgeModeOf (n : Nat) : EdgeMode := if n = 0 then .rising else if n = 1 then .falling else .both

/-- The settings of class k in a block's values. -/
def classConfigOf (v : Nat → Nat) (k : Nat) : ClassConfig :=
  { low := v (48 + 13 * k), high := v (49 + 13 * k), allowance := v (50 + 13 * k)
    tank := v (51 + 13 * k), maxBurn := v (52 + 13 * k)
    hoursInterval := Vector.ofFn fun i : Fin 4 => v (53 + 13 * k + i.val)
    fuelInterval := Vector.ofFn fun i : Fin 4 => v (57 + 13 * k + i.val) }

/-- The configuration that a block's values make (Table 11-5). Hose 1, nozzle 1 stand in the lowest bit
of their masks; in the polarity word the meters follow the nozzles and the stop line the meters. -/
def configOf (v : Nat → Nat) : ConfigBlock :=
  { station := v 1
    fitted := Vector.ofFn fun i : Fin 4 => (v 2).testBit i.val
    nozzleHigh := Vector.ofFn fun i : Fin 4 => (v 3).testBit i.val
    meterHigh := Vector.ofFn fun i : Fin 4 => (v 3).testBit (4 + i.val)
    stopHigh := (v 3).testBit 8
    nozzleFilter := v 4, stopFilter := v 5, meterFilter := v 6
    pulseStep := Vector.ofFn fun i : Fin 4 => v (7 + i.val)
    edgeMode := Vector.ofFn fun i : Fin 4 => edgeModeOf (v (11 + i.val))
    maxFlow := Vector.ofFn fun i : Fin 4 => v (15 + i.val)
    slowFlow := Vector.ofFn fun i : Fin 4 => v (19 + i.val)
    settleTime := v 23, slowdown := v 24, overrunWindow := v 25, overrunAllowance := v 26
    authTime := v 27, startTime := v 28, noFlowTime := v 29, primeTime := v 30
    healthThreshold := v 31, dripVolume := v 32, warn := v 33, grace := v 34, holdCap := v 35
    hourTolerance := v 36, fuelTolerance := v 37, minimumIssue := v 38, netCap := v 39
    shiftLength := v 40, beaconInterval := v 41, baseGap := v 42, refreshGap := v 43
    keyUpDelay := v 44, listenInTime := v 45, rejoinTime := v 46, suppression := v 47
    classes := Vector.ofFn fun k : Fin 8 => classConfigOf v k.val }

/-- The configuration of two held parts. -/
def configOfParts (part1 part2 : List Byte) : ConfigBlock :=
  configOf (valueAt (blockValues (rawBlock part1 part2)))

/-- The lowest index that the validation of two held parts names (R172). -/
def partsFailure (part1 part2 : List Byte) : Option Nat :=
  lowestFailure (blockFailures (rawBlock part1 part2))

/-! ### Installation (R172) -/

/-- The view, watch list, send queue and refresh pointer emptied, OVERDUE_PRESENT made false. -/
def emptyView (s : State) : State :=
  report .overduePresent false { s with
    view := { s.view with entries := [] }
    watch := { members := [], overflow := 0 }
    radio := { s.radio with queue := [], refresh := 0 } }

/-- The active allowances taken from the block and every staged one removed (R53). -/
def loadAllowances (c : ConfigBlock) (s : State) : State :=
  { s with clock := { s.clock with
      active := mapTable (·.allowance) c.classes
      staged := Vector.replicate 8 none } }

/-- Every input filter started again (R101). -/
def restartFilters (s : State) : State :=
  report .stopActive false { s with
    field := { s.field with stop := .started s.field.stop.level }
    hoses := mapTable (fun x => { x with
      nozzle := .started x.nozzle.level
      meterInput := .started x.meterInput.level }) s.hoses }

/-- A hose under a newly installed configuration: its count frozen at the new threshold, its state from
the fitted mask and the frozen flag (R148, R156). -/
def hoseUnderConfig (c : ConfigBlock) (h : Fin 4) (s : State) : State :=
  let s1 := s.mapHealth h fun x => { x with frozen := x.frozen || c.healthThreshold ≤ x.count }
  enterState h (if c.fitted[h] then restingState (s1.hose h).health.frozen else .outOfService) s1

/-- A valid block installed (R172). -/
def installConfig (c : ConfigBlock) (s : State) : State :=
  let s1 := { s with store := { s.store with block := some c, part1 := none, part2 := none } }
  let s2 := clockUnderConfig c (loadAllowances c (emptyView s1))
  reportHoseOut (eachHose (hoseUnderConfig c) (restartFilters s2))

/-- The held parts discarded. -/
def dropParts (s : State) : State := { s with store := { s.store with part1 := none, part2 := none } }

/-- Both parts held: the block is validated, and installed or refused (R171, R172). -/
def loadBlock (part1 part2 : List Byte) (s : State) : Reply :=
  match partsFailure part1 part2 with
  | some i => (dropParts s, .badConfig, beBytes 1 i)
  | none => accept (installConfig (configOfParts part1 part2) s) (beBytes 1 0)

/-- LOAD CONFIG (R171). -/
def loadConfig (part : Nat) (bytes : List Byte) (s : State) : Reply :=
  if bytes.length ≠ part1Bytes ∧ bytes.length ≠ part2Bytes then refuse .badRequest s
  else if s.running then refuse .notRunning s
  else if part = 1 ∧ bytes.length = part1Bytes then
    match s.store.part2 with
    | none => accept { s with store := { s.store with part1 := some bytes } } (beBytes 1 1)
    | some p2 => loadBlock bytes p2 s
  else if part = 2 ∧ bytes.length = part2Bytes then
    match s.store.part1 with
    | none => accept { s with store := { s.store with part2 := some bytes } } (beBytes 1 2)
    | some p1 => loadBlock p1 bytes s
  else refuse .badRequest s

end Sys2Proof.Machine
end

