-- ==== Sys2Proof/Machine/StationRequests.lean ====
section
/-! DEFINITION. Sys2Proof/Machine/StationRequests.lean: POWER_ON, LOAD_CONFIG, START, STANDBY, RESTART and
READ_STATUS (sections 11.4 to 11.7). -/

namespace Sys2Proof.Machine

/-! ### POWER_ON (R177) -/

/-- Power-on: a new start tag is drawn and every block takes its power-on state. The queue of commands,
the levels of the lines outside the part and the model's counters stand. -/
def powerOn (s : State) : State :=
  State.powerOn s.pending (startTagOf (Config.freeDraw s.model.draws))
    (mapTable (·.nozzle.level) s.hoses) (mapTable (·.meterInput.level) s.hoses) s.field.stop.level
    s.radio.cd s.radio.rxd s.link.line
    { draws := s.model.draws + 1, orders := s.model.orders, arrived := [] }

/-- POWER_ON (R177). -/
def execPowerOn (s : State) : Host.Outcome State Fault Refusal := .next (powerOn s)

/-! ### LOAD_CONFIG (R171, R172) -/

/-- LOAD_CONFIG (R171). -/
def execLoadConfig (part : Nat) (bytes : List Byte) (s : State) : Host.Outcome State Fault Refusal :=
  .next (serve 0x01 s (loadConfig part bytes))

/-! ### START (R173) -/

/-- An accepted START (R173). -/
def startStation (c : ConfigBlock) (p : ClockPos) (s : State) : State :=
  let s1 := dropParts (startClock c p s)
  let s2 := startSchedules (enterListenIn c s1)
  let s3 := s2.mapRadio fun r => { r with tx := .idle, cw := cwLow }
  guardEval { s3 with field := { s3.field with matched := true } }

/-- START (R173): its checks in order, then its effects. -/
def start (shift time : Nat) (s : State) : Reply :=
  if s.running then refuse .notRunning s
  else match s.store.block with
    | none => refuse .noConfig s
    | some c =>
      if c.shiftLength ≤ time ∨ u24Max < shift then refuse .badRequest s
      else
        let s1 := startStation c ⟨shift, time⟩ s
        accept s1 (posField s1.clock.pos)

/-- START (R173). -/
def execStart (shift time : Nat) (s : State) : Host.Outcome State Fault Refusal :=
  .next (serve 0x02 s (start shift time))

/-! ### STANDBY (R174) -/

/-- Some hose is in a state other than IDLE or OUT_OF_SERVICE (R174). -/
def State.hosesActive (s : State) : Bool := anyTable s.hoses fun x => !x.ctl.state.expectsHung

/-- An accepted STANDBY; in STANDBY it changes nothing (R174). A frame of the radio taken whole and not yet dealt
with stands as it did (DESIGN CHOICE, notes/assumptions/34.md). -/
def standbyStation (s : State) : State :=
  if s.running then
    (enterStandby s).mapRadio fun r => { stopTransmitter r with receiver := .hunt 0 }
  else s

/-- STANDBY (R174). -/
def standby (s : State) : Reply :=
  if s.hosesActive then refuse .hosesActive s else accept (standbyStation s) []

/-- STANDBY (R174). -/
def execStandby (s : State) : Host.Outcome State Fault Refusal := .next (serve 0x03 s standby)

/-! ### RESTART (R146, R175) -/

/-- An issue in STARTING, FLOWING, SLOWING or CLOSING taken straight to ENDED with reason RESTART (R146). -/
def endByRestart (c : ConfigBlock) (h : Fin 4) (x : IssueContext) (s : State) : State :=
  complete c h { x with endReason := some .restart }
    (s.mapContext h fun k => { k with endReason := some .restart })

/-- What RESTART does to one hose (R146). -/
def restartHose (c : ConfigBlock) (h : Fin 4) (s : State) : State :=
  if (s.hose h).ctl.state = .authorized then cancel h s
  else if (s.hose h).ctl.state.issuing || (s.hose h).ctl.state == .closing then
    match s.context h with
    | none => s
    | some x => endByRestart c h x s
  else s

/-- The radio at RESTART: the transmitter stopped, the send queue emptied, the pointer at 0 (R92, R98).
A body that the receiver is taking is taken on (DESIGN CHOICE, notes/assumptions/32.md). -/
def restartRadio (r : RadioBlock) : RadioBlock := { stopTransmitter r with queue := [], refresh := 0 }

/-- An accepted RESTART, in the order of R175. -/
def restartStation (c : ConfigBlock) (s : State) : State :=
  let s1 := s.mapNotices restartEntry
  let s2 := eachHose (restartHose c) s1
  startSchedules (enterListenIn c (s2.mapRadio restartRadio))

/-- RESTART (R175). The response carries the number of records committed. -/
def restart (s : State) : Reply :=
  match s.running, s.store.block with
  | true, some c =>
    let s1 := restartStation c s
    accept s1 (beBytes 1 (s1.records.records.length - s.records.records.length))
  | _, _ => refuse .notRunning s

/-- RESTART (R175). -/
def execRestart (s : State) : Host.Outcome State Fault Refusal := .next (serve 0x04 s restart)

/-! ### READ_STATUS (R176) -/

/-- The ten counters in the order of Table 11-6. -/
def statusCounters (s : State) : List Nat :=
  [s.radio.badCrc, s.radio.malformed, s.net.clash, s.clock.reject, s.view.staleShift,
   s.view.originFull, s.view.viewFull, s.view.noClass, s.radio.abandoned, s.link.errors]

/-- The READ STATUS response (Table 11-6). -/
def statusFields (s : State) : List Byte :=
  beBytes 1 s.net.state.code ++ flagByte s.store.block.isSome ++ beBytes 1 s.stationNumber ++
    beBytes 2 s.store.startTag ++ flagByte s.clock.set ++ posField s.clock.pos ++
    beBytes 2 s.view.entries.length ++ beBytes 2 s.radio.queue.length ++
    beBytes 1 s.records.records.length ++ beBytes 1 s.records.reservations ++
    flagByte s.recordsFull ++ beBytes 1 (activePeers s.net.peers) ++
    (statusCounters s).flatMap (beBytes 2)

/-- READ_STATUS (R176). -/
def execReadStatus (s : State) : Host.Outcome State Fault Refusal :=
  .next (serve 0x05 s fun s => accept s (statusFields s))

end Sys2Proof.Machine
end

