-- ==== Sys2Proof/Machine/HoseRequests.lean ====
section
/-! DEFINITION. Sys2Proof/Machine/HoseRequests.lean: PRESENT_VEHICLE, STOP_HOSE, READ_HOSE and
CLEAR_HOSE_FAULT (chapters 8 and 9). -/

namespace Sys2Proof.Machine

/-! ### The issue limit (R129, R130) -/

/-- What the allowance leaves: the active allowance less the shift total, or 0 (R53, R129). -/
def remainingAllowance (active : Nat) (origins : List OriginEntry) : Nat :=
  active * 100 - shiftTotal origins

/-- The bounds that apply to an issue, in the order in which ties are broken (Table 8-4). -/
def candidateBounds (c : ConfigBlock) (cls : Fin 8) (active : Nat) (net : NetState)
    (origins : List OriginEntry) (hold : Bool) (preset : Nat) : List (Bound × Nat) :=
  [(.allowance, remainingAllowance active origins)] ++
    (if hold then [(.hold, c.holdCap * 100)] else []) ++
    (if net = .listenIn ∨ net = .isolated then [(.net, c.netCap * 100)] else []) ++
    [(.tank, c.classes[cls].tank * 100)] ++
    (if preset ≠ 0 then [(.preset, preset)] else [])

/-- The first of the smallest among bounds, starting from one of them (R129). -/
def smallestBound (first : Bound × Nat) (rest : List (Bound × Nat)) : Bound × Nat :=
  rest.foldl (fun best b => if b.2 < best.2 then b else best) first

/-- The limit of an issue and its bound (R129). -/
def issueLimit (c : ConfigBlock) (cls : Fin 8) (active : Nat) (net : NetState)
    (origins : List OriginEntry) (hold : Bool) (preset : Nat) : Bound × Nat :=
  match candidateBounds c cls active net origins hold preset with
  | [] => (.allowance, remainingAllowance active origins)
  | b :: rest => smallestBound b rest

/-- The slow point of a limit (R129). -/
def slowPointOf (c : ConfigBlock) (limit : Nat) : Nat := limit - c.slowdown * 100

/-- The code of a presentation refused at check 16 (R130). Tank capacity is never the smallest bound
there, since no tank capacity is below the minimum issue. -/
def limitRefusal : Bound → Result
  | .allowance => .allowanceUsed
  | .hold => .serviceHold
  | .net => .netCap
  | .tank => .allowanceUsed
  | .preset => .preset

/-! ### PRESENT VEHICLE (R128, R131) -/

/-- A presentation's operands, the totaliser reading absent when its flag is 00h. -/
structure Presentation where
  vehicle   : Nat
  hours     : Nat
  totaliser : Option Nat
  preset    : Nat
deriving DecidableEq, Repr

/-- Checks 3 to 8, of the hose and the station (Table 8-3). -/
def hoseRefusal (h : Fin 4) (s : State) : Option Result :=
  if !s.fitted h then some .notFitted
  else if (s.hose h).ctl.state = .outOfService then some .hoseOut
  else if (s.hose h).ctl.state ≠ .idle then some .busy
  else if (s.hose h).nozzle.active then some .nozzleLifted
  else if s.field.stop.active then some .estop
  else if s.recordsFull then some .recordsFull
  else none

/-- Checks 10 to 12, of a vehicle of a class (Table 8-3). -/
def vehicleRefusal (v : Nat) (e : VehicleEntry) (s : State) : Option Result :=
  if s.vehicleActive v then some .vehicleActive
  else if s.noRoomFor v then some .viewFull
  else if e.bar.barred then some .barred
  else none

/-- What a refused reading check carries: the register's reading and the bound crossed (R30, R32). -/
def readingBounds (width register bound : Nat) : List Byte := beBytes width register ++ beBytes width bound

/-- The payload of a refusal HOURS_IMPLAUSIBLE (R30). -/
def hoursTooHigh (c : ConfigBlock) (now : ClockPos) : Option Reading → List Byte
  | none => []
  | some r => readingBounds 3 r.value (r.value + allowedHourRise c now r.stamp)

/-- The payload of a refusal TOTALISER_IMPLAUSIBLE (R30). -/
def totaliserTooHigh (c : ConfigBlock) (cls : Fin 8) (now : ClockPos) : Option Reading → List Byte
  | none => []
  | some r => readingBounds 4 r.value (r.value + allowedFuelRise c cls now r.stamp)

/-- What a presentation finds at its checks 13 to 16. -/
structure PresentCheck where
  hours     : CheckOutcome
  totaliser : CheckOutcome
  worst     : ServiceState
  bound     : Bound
  limit     : Nat
deriving DecidableEq, Repr

/-- The entry with each register as it would stand on acceptance, its usage computed on it (R31). -/
def entryOnAcceptance (c : ConfigBlock) (now : ClockPos) (p : Presentation) (e : VehicleEntry) :
    VehicleEntry :=
  withUsage c { e with
    hours := takeReading (hoursCheck c now e.hours p.hours) now p.hours e.hours
    totaliser := takeOptional (totaliserCheck c e.cls now e.totaliser p.totaliser) now p.totaliser
      e.totaliser }

/-- The readings, the hold and the limit of a presentation (R28 to R31, R129). -/
def presentCheck (c : ConfigBlock) (p : Presentation) (e : VehicleEntry) (s : State) : PresentCheck :=
  let judged := entryOnAcceptance c s.clock.pos p e
  let l := issueLimit c e.cls s.clock.active[e.cls] s.net.state e.origins judged.hold p.preset
  { hours := hoursCheck c s.clock.pos e.hours p.hours
    totaliser := totaliserCheck c e.cls s.clock.pos e.totaliser p.totaliser
    worst := judged.worstState
    bound := l.1
    limit := l.2 }

/-- The issue context frozen at acceptance (R132). Delivered and overrun are written on entry to ENDED, and read 0
until then (DESIGN CHOICE, notes/assumptions/37.md). -/
def contextOf (c : ConfigBlock) (p : Presentation) (e : VehicleEntry) (k : PresentCheck) (s : State) :
    IssueContext :=
  { vehicle := p.vehicle, cls := e.cls, limit := k.limit, bound := k.bound
    slowPoint := slowPointOf c k.limit, hours := p.hours, totaliser := p.totaliser
    hoursFlag := decide (k.hours = .regression), totaliserFlag := decide (k.totaliser = .regression)
    serviceState := k.worst, netState := s.net.state, authorised := s.clock.pos, healthEvent := false
    endReason := none, delivered := 0, overrun := 0 }

/-- The entry that an accepted presentation leaves, before its usage is recomputed (R131). -/
def presentedEntry (c : ConfigBlock) (p : Presentation) (e : VehicleEntry) (s : State) : VehicleEntry :=
  { e with
    hours := takeReading (hoursCheck c s.clock.pos e.hours p.hours) s.clock.pos p.hours e.hours
    totaliser := takeOptional (totaliserCheck c e.cls s.clock.pos e.totaliser p.totaliser) s.clock.pos
      p.totaliser e.totaliser
    origins := if hasOwn s e.origins then e.origins else insertOwn s 0 e.origins }

/-- The vehicle's entry after an accepted presentation: created, its registers raised, its own origin entry
inserted; a change is recomputed and reported, and where nothing changed nothing is (R20, R131). -/
def storePresented (c : ConfigBlock) (p : Presentation) (e : VehicleEntry) (s : State) : State :=
  let e' := presentedEntry c p e s
  if (s.entry p.vehicle).isNone || e' != e then changeEntry c e' s else s

/-- An accepted presentation, one act in the order of R131. -/
def acceptPresentation (c : ConfigBlock) (h : Fin 4) (p : Presentation) (e : VehicleEntry)
    (k : PresentCheck) (s : State) : State :=
  let x := contextOf c p e k s
  let s1 := takeReservation (storePresented c p e s)
  enterState h .authorized (s1.mapCtl h fun q => { q with
    context := some x
    authTimer := some (c.authTime * second) })

/-- The response to an accepted presentation (R131). -/
def presentResponse (c : ConfigBlock) (k : PresentCheck) : List Byte :=
  beBytes 4 k.limit ++ beBytes 1 k.bound.code ++ beBytes 4 (slowPointOf c k.limit) ++
    beBytes 1 k.worst.code ++
    beBytes 1 (readingFlags (decide (k.hours = .regression)) (decide (k.totaliser = .regression)))

/-- Checks 13 to 16 of a presentation, and its acceptance (Table 8-3, R131). -/
def presentReadings (c : ConfigBlock) (h : Fin 4) (p : Presentation) (e : VehicleEntry) (s : State) :
    Reply :=
  let k := presentCheck c p e s
  if k.hours = .implausible then (s, .hoursImplausible, hoursTooHigh c s.clock.pos e.hours)
  else if k.totaliser = .implausible then
    (s, .totaliserImplausible, totaliserTooHigh c e.cls s.clock.pos e.totaliser)
  else if !hasOwn s e.origins && originRoom ≤ e.origins.length then refuse .originFull s
  else if k.limit < c.minimumIssue * 100 then
    (s, limitRefusal k.bound, beBytes 4 k.limit ++ beBytes 1 k.bound.code)
  else accept (acceptPresentation c h p e k s) (presentResponse c k)

/-- Checks 3 to 16 of a presentation at hose `h` (Table 8-3). -/
def presentAt (c : ConfigBlock) (h : Fin 4) (p : Presentation) (s : State) : Reply :=
  match hoseRefusal h s, classOf c p.vehicle with
  | some r, _ => refuse r s
  | none, none => refuse .unknownClass s
  | none, some cls =>
    let e := s.entryOrNew p.vehicle cls
    match vehicleRefusal p.vehicle e s with
    | some r => refuse r s
    | none => presentReadings c h p e s

/-- A reading, a flag or a preset that its field cannot carry or the request does not allow (R26, R128). -/
def badReadings (hours flag totaliser : Nat) : Bool :=
  9999999 < hours || 1 < flag || (flag == 1 && 99999999 < totaliser)

/-- The totaliser reading given: none when the flag is 00h, its field being ignored then (R166). -/
def givenReading (flag totaliser : Nat) : Option Nat := if flag = 0 then none else some totaliser

/-- A vehicle number outside 1..4095. -/
def badVehicle (v : Nat) : Bool := v == 0 || vehicleTop < v

/-- PRESENT VEHICLE (R128). -/
def presentVehicle (hose vehicle hours flag totaliser preset : Nat) (s : State) : Reply :=
  match s.running, s.store.block with
  | true, some c =>
    match indexOf 4 hose with
    | none => refuse .badRequest s
    | some h =>
      if badVehicle vehicle || badReadings hours flag totaliser || u32Max < preset then
        refuse .badRequest s
      else presentAt c h ⟨vehicle, hours, givenReading flag totaliser, preset⟩ s
  | _, _ => refuse .notRunning s

/-- PRESENT_VEHICLE (R128). -/
def execPresentVehicle (hose vehicle hours flag totaliser preset : Nat) (s : State) :
    Host.Outcome State Fault Refusal :=
  .next (serve 0x10 s (presentVehicle hose vehicle hours flag totaliser preset))

/-! ### STOP HOSE (R143) -/

/-- The result of STOP HOSE by the hose state it finds (R143). -/
def stopResult : HoseState → Result
  | .authorized => .ok
  | .starting => .ok
  | .flowing => .ok
  | .slowing => .ok
  | .closing => .ending
  | .ended => .ending
  | .idle => .notActive
  | .outOfService => .notActive

/-- STOP HOSE (R143). -/
def stopHose (hose : Nat) (s : State) : Reply :=
  match indexOf 4 hose, s.store.block with
  | none, _ => refuse .badRequest s
  | some _, none => refuse .notFitted s
  | some h, some c =>
    if !s.fitted h then refuse .notFitted s
    else
      let s1 := endIssue c h .stop s
      (s1, stopResult (s.hose h).ctl.state, beBytes 1 (s1.hose h).ctl.state.code)

/-- STOP_HOSE (R143). -/
def execStopHose (hose : Nat) (s : State) : Host.Outcome State Fault Refusal :=
  .next (serve 0x11 s (stopHose hose))

/-! ### READ HOSE (R147) -/

/-- The fields of Table 8-7 that come from the issue context. -/
def contextFields : Option IssueContext → List Byte
  | none => beBytes 2 0 ++ beBytes 4 0 ++ beBytes 1 0 ++ beBytes 4 0 ++ beBytes 1 0
  | some x => beBytes 2 x.vehicle ++ beBytes 4 x.limit ++ beBytes 1 x.bound.code ++
      beBytes 4 x.slowPoint ++ beBytes 1 (endReasonCode x.endReason)

/-- The READ HOSE response (Table 8-7). -/
def hoseFields (h : Fin 4) (s : State) : List Byte :=
  let x := s.hose h
  beBytes 1 (h.val + 1) ++ flagByte (s.fitted h) ++ beBytes 1 x.ctl.state.code ++
    flagByte x.nozzle.active ++ contextFields x.ctl.context ++ beBytes 4 x.meter.delivered ++
    beBytes 4 x.meter.lastFlow ++ beBytes 4 x.meter.unattributed ++ beBytes 1 x.health.count ++
    flagByte x.health.frozen ++ beBytes 2 x.guardCount

/-- READ HOSE (R147). -/
def readHose (hose : Nat) (s : State) : Reply :=
  match indexOf 4 hose with
  | none => refuse .badRequest s
  | some h => accept s (hoseFields h s)

/-- READ_HOSE (R147). -/
def execReadHose (hose : Nat) (s : State) : Host.Outcome State Fault Refusal :=
  .next (serve 0x12 s (readHose hose))

/-! ### CLEAR HOSE FAULT (R155) -/

/-- A hose thawed: a fitted hose in OUT_OF_SERVICE goes to IDLE (Table 9-3). -/
def thawHose (h : Fin 4) (s : State) : State :=
  if (s.hose h).ctl.state = .outOfService ∧ s.fitted h = true then enterState h .idle s else s

/-- An accepted CLEAR HOSE FAULT (R155). -/
def thaw (h : Fin 4) (s : State) : State :=
  thawHose h (reportHoseOut (s.mapHealth h fun _ => ⟨0, false, 0⟩))

/-- CLEAR HOSE FAULT (R155). -/
def clearHoseFault (hose : Nat) (s : State) : Reply :=
  match indexOf 4 hose with
  | none => refuse .badRequest s
  | some h =>
    if (s.hose h).health.frozen then
      let s1 := thaw h s
      accept s1 (beBytes 1 (s1.hose h).ctl.state.code ++ beBytes 1 (s1.hose h).health.count)
    else refuse .notFrozen s

/-- CLEAR_HOSE_FAULT (R155). -/
def execClearHoseFault (hose : Nat) (s : State) : Host.Outcome State Fault Refusal :=
  .next (serve 0x13 s (clearHoseFault hose))

end Sys2Proof.Machine
end

