-- ==== Sys2Proof/Machine/VehicleRequests.lean ====
section
/-! DEFINITION. Sys2Proof/Machine/VehicleRequests.lean: READ_VEHICLE, BAR_VEHICLE, CLEAR_BAR,
RECORD_SERVICE, STAGE_ALLOWANCE, CLEAR_STAGED and READ_WATCH_LIST (chapters 1, 2 and 3). -/

namespace Sys2Proof.Machine

/-! ### READ VEHICLE (R23) -/

/-- The READ VEHICLE response (R23). -/
def vehicleFields (e : VehicleEntry) : List Byte :=
  beBytes 2 e.number ++ beBytes 1 e.cls.val ++ barField e.bar ++ registerField 3 e.hours ++
    registerField 4 e.totaliser ++ serviceReports e ++ beBytes 1 e.origins.length ++
    e.origins.flatMap originField

/-- READ VEHICLE (R23). -/
def readVehicle (v : Nat) (s : State) : Reply :=
  if badVehicle v then refuse .badRequest s
  else match s.entry v with
    | none => refuse .noEntry s
    | some e => accept s (vehicleFields e)

/-- READ_VEHICLE (R23). -/
def execReadVehicle (vehicle : Nat) (s : State) : Host.Outcome State Fault Refusal :=
  .next (serve 0x20 s (readVehicle vehicle))

/-! ### Bars (R21, R22) -/

/-- An accepted bar request: the bar takes the state with its version advanced; turning barred acts on
the issue in flight (R21, R22). -/
def setBar (c : ConfigBlock) (barred : Bool) (e : VehicleEntry) (s : State) : State :=
  let s1 := changeEntry c { e with bar := ⟨barred, e.bar.version + 1, c.station⟩ } s
  if barred && !e.bar.barred then barEndsIssue c e.number s1 else s1

/-- BAR VEHICLE and CLEAR BAR: the checks of R21 in order, then their effect. -/
def barRequest (barred : Bool) (v : Nat) (s : State) : Reply :=
  match s.running, s.store.block with
  | true, some c =>
    if badVehicle v then refuse .badRequest s
    else match classOf c v with
      | none => refuse .unknownClass s
      | some cls =>
        let e := s.entryOrNew v cls
        if s.noRoomFor v then refuse .viewFull s
        else if u16Max ≤ e.bar.version then refuse .sequenceLimit s
        else accept (setBar c barred e s) (barField ⟨barred, e.bar.version + 1, c.station⟩)
  | _, _ => refuse .notRunning s

/-- BAR_VEHICLE (R21). -/
def execBarVehicle (vehicle : Nat) (s : State) : Host.Outcome State Fault Refusal :=
  .next (serve 0x21 s (barRequest true vehicle))

/-- CLEAR_BAR (R21). -/
def execClearBar (vehicle : Nat) (s : State) : Host.Outcome State Fault Refusal :=
  .next (serve 0x22 s (barRequest false vehicle))

/-! ### RECORD SERVICE (R32, R33) -/

/-- A service's operands: its type 0..3, the hours reading and the totaliser reading. -/
structure ServiceRecord where
  type      : Fin 4
  hours     : Nat
  totaliser : Option Nat
deriving DecidableEq, Repr

/-- Some type from A up to and including the named one stands at the last epoch (R32). -/
def sequenceLimit (e : VehicleEntry) (type : Fin 4) : Bool :=
  hoseIndices.any fun i => i ≤ type && u16Max ≤ e.services[i].epoch

/-- The totaliser at service: the reading given, or the register's when none is given (R33). -/
def totaliserAtService (given : Option Nat) (register : Option Reading) : Option Nat :=
  match given with
  | some t => some t
  | none => register.map (·.value)

/-- The service entries after a recorded service (R33). -/
def servicesAfter (station : Nat) (r : ServiceRecord) (total : Option Nat)
    (services : Vector ServiceEntry 4) : Vector ServiceEntry 4 :=
  Vector.ofFn fun i =>
    if i ≤ r.type then ⟨services[i].epoch + 1, station, r.hours, total⟩ else services[i]

/-- The entry that a recorded service leaves, before its usage is recomputed (R33). -/
def servicedEntry (c : ConfigBlock) (now : ClockPos) (r : ServiceRecord) (e : VehicleEntry) :
    VehicleEntry :=
  let total := takeOptional (totaliserCheck c e.cls now e.totaliser r.totaliser) now r.totaliser
    e.totaliser
  { e with
    hours := takeReading (hoursCheck c now e.hours r.hours) now r.hours e.hours
    totaliser := total
    services := servicesAfter c.station r (totaliserAtService r.totaliser total) e.services }

/-- The hours or totaliser bound that a refusal of RECORD SERVICE carries: the highest acceptable reading
for an implausible one, the lowest for a regression (R32). -/
def crossedBound (width : Nat) (outcome : CheckOutcome) (rise tolerance : Nat) :
    Option Reading → List Byte
  | none => []
  | some r => readingBounds width r.value
      (if outcome = .implausible then r.value + rise else r.value - tolerance)

/-- The allowed hour rise over an entry's register, 0 with none. -/
def hourRiseOf (c : ConfigBlock) (now : ClockPos) : Option Reading → Nat
  | none => 0
  | some r => allowedHourRise c now r.stamp

/-- The allowed fuel rise over an entry's register, 0 with none. -/
def fuelRiseOf (c : ConfigBlock) (cls : Fin 8) (now : ClockPos) : Option Reading → Nat
  | none => 0
  | some r => allowedFuelRise c cls now r.stamp

/-- The refusal of a reading check in RECORD SERVICE: implausible and regression refuse (R32). -/
def readingRefusal (outcome : CheckOutcome) (implausible regression : Result) : Option Result :=
  match outcome with
  | .implausible => some implausible
  | .regression => some regression
  | .rise => none
  | .hold => none

/-- The response to an accepted RECORD SERVICE, from the entry as it now stands (R33). -/
def serviceResponse (v : Nat) (s : State) : List Byte :=
  match s.entry v with
  | none => []
  | some e => serviceReports e

/-- Checks 6 to 8 of RECORD SERVICE and its acceptance (R32, R33). -/
def recordAt (c : ConfigBlock) (r : ServiceRecord) (e : VehicleEntry) (s : State) : Reply :=
  let now := s.clock.pos
  let hoursFound := hoursCheck c now e.hours r.hours
  let fuelFound := totaliserCheck c e.cls now e.totaliser r.totaliser
  match readingRefusal hoursFound .hoursImplausible .hoursRegression,
      readingRefusal fuelFound .totaliserImplausible .totaliserRegression with
  | some x, _ => (s, x, crossedBound 3 hoursFound (hourRiseOf c now e.hours) c.hourTolerance e.hours)
  | none, some x =>
    (s, x, crossedBound 4 fuelFound (fuelRiseOf c e.cls now e.totaliser) c.fuelTolerance e.totaliser)
  | none, none =>
    if sequenceLimit e r.type then refuse .sequenceLimit s
    else
      let s1 := changeEntry c (servicedEntry c now r e) s
      accept s1 (serviceResponse e.number s1)

/-- RECORD SERVICE (R32). -/
def recordService (v type hours flag totaliser : Nat) (s : State) : Reply :=
  match s.running, s.store.block with
  | true, some c =>
    if s.net.state = .listenIn then refuse .notJoined s
    else match indexFrom0 4 type with
      | none => refuse .badRequest s
      | some t =>
        if badVehicle v || badReadings hours flag totaliser then refuse .badRequest s
        else match classOf c v with
          | none => refuse .unknownClass s
          | some cls =>
            if s.noRoomFor v then refuse .viewFull s
            else recordAt c ⟨t, hours, givenReading flag totaliser⟩ (s.entryOrNew v cls) s
  | _, _ => refuse .notRunning s

/-- RECORD_SERVICE (R32). -/
def execRecordService (vehicle type hours flag totaliser : Nat) (s : State) :
    Host.Outcome State Fault Refusal :=
  .next (serve 0x23 s (recordService vehicle type hours flag totaliser))

/-! ### Staged allowances (R54, R55) -/

/-- The staged allowance of a class set or removed. -/
def setStaged (k : Fin 8) (value : Option Nat) (s : State) : State :=
  { s with clock := { s.clock with staged := s.clock.staged.set k value } }

/-- STAGE ALLOWANCE (R54). -/
def stageAllowance (cls litres : Nat) (s : State) : Reply :=
  match s.store.block, indexFrom0 8 cls with
  | none, _ => refuse .noConfig s
  | some _, none => refuse .badRequest s
  | some _, some k =>
    if 100000 < litres then refuse .badRequest s
    else
      let s1 := setStaged k (some litres) s
      accept s1 (allowanceFields s1)

/-- STAGE_ALLOWANCE (R54). -/
def execStageAllowance (cls litres : Nat) (s : State) : Host.Outcome State Fault Refusal :=
  .next (serve 0x24 s (stageAllowance cls litres))

/-- CLEAR STAGED (R55). -/
def clearStaged (cls : Nat) (s : State) : Reply :=
  match s.store.block, indexFrom0 8 cls with
  | none, _ => refuse .noConfig s
  | some _, none => refuse .badRequest s
  | some _, some k =>
    let s1 := setStaged k none s
    accept s1 (allowanceFields s1)

/-- CLEAR_STAGED (R55). -/
def execClearStaged (cls : Nat) (s : State) : Host.Outcome State Fault Refusal :=
  .next (serve 0x25 s (clearStaged cls))

/-! ### READ WATCH LIST (R44) -/

/-- The READ WATCH LIST response (R44). -/
def watchFields (w : WatchBlock) : List Byte :=
  beBytes 1 w.members.length ++
    w.members.flatMap (fun m => beBytes 2 m.vehicle ++ beBytes 2 m.usage ++ beBytes 1 m.state.code) ++
    beBytes 1 w.overflow

/-- READ_WATCH_LIST (R44). -/
def execReadWatchList (s : State) : Host.Outcome State Fault Refusal :=
  .next (serve 0x26 s fun s => accept s (watchFields s.watch))

end Sys2Proof.Machine
end

