-- ==== Sys2Proof/Machine/RecordRequests.lean ====
section
/-! DEFINITION. Sys2Proof/Machine/RecordRequests.lean: READ_OLDEST, RELEASE_RECORD, READ_PEERS,
READ_NOTICES, ACK_NOTICE, SET_NOTICE_ENABLES, and the link's own events: UNKNOWN_REQUEST_KIND,
LINK_FRAME_DISCARD, RESPONSE_BACKLOG_DISCARD, RESPONSE_SENT_WHOLE (chapters 4, 10 and 11). -/

namespace Sys2Proof.Machine

/-! ### Issue records (R161) -/

/-- An issue record in its 43 bytes (Table 10-1). -/
def recordFields (r : IssueRecord) : List Byte :=
  beBytes 2 r.number ++ beBytes 1 r.hose ++ beBytes 2 r.vehicle ++ beBytes 1 r.cls.val ++
    posField r.authorised ++ posField r.completed ++ beBytes 4 r.limit ++ beBytes 4 r.delivered ++
    beBytes 4 r.overrun ++ beBytes 1 r.bound.code ++ beBytes 1 (endReasonCode r.endReason) ++
    beBytes 1 r.serviceState.code ++ beBytes 1 r.netState.code ++ beBytes 3 r.hours ++
    optionField r.totaliser ++ beBytes 1 (readingFlags r.hoursFlag r.totaliserFlag)

/-- READ OLDEST (R161). -/
def readOldest (s : State) : Reply :=
  match s.records.records with
  | [] => refuse .empty s
  | r :: _ => accept s (beBytes 1 s.records.records.length ++ recordFields r)

/-- READ_OLDEST (R161). -/
def execReadOldest (s : State) : Host.Outcome State Fault Refusal := .next (serve 0x30 s readOldest)

/-- The oldest record removed (R161, R162). -/
def releaseOldest (rest : List IssueRecord) (s : State) : State :=
  reportWaiting { s with records := { s.records with records := rest } }

/-- RELEASE RECORD (R161). -/
def releaseRecord (number : Nat) (s : State) : Reply :=
  if u16Max < number then refuse .badRequest s
  else match s.records.records with
    | [] => (s, .noMatch, beBytes 1 0 ++ beBytes 2 0)
    | r :: rest =>
      if r.number = number then accept (releaseOldest rest s) (beBytes 1 rest.length)
      else (s, .noMatch, beBytes 1 s.records.records.length ++ beBytes 2 r.number)

/-- RELEASE_RECORD (R161). -/
def execReleaseRecord (number : Nat) (s : State) : Host.Outcome State Fault Refusal :=
  .next (serve 0x31 s (releaseRecord number))

/-! ### READ PEERS (R73) -/

/-- A running timer's ticks, 0 when stopped. -/
def ticksLeft (t : Option Nat) : Nat := t.getD 0

/-- The seconds since a peer's last valid frame, saturating (Table 4-1). -/
def secondsSince (p : Peer) : Nat := min u16Max (ticksLeft p.since / second)

/-- A peer entry in its 18 bytes (R73). -/
def peerFields (station : Nat) (p : Peer) : List Byte :=
  beBytes 1 station ++ beBytes 1 p.state.code ++ beBytes 1 p.bucket ++ beBytes 1 p.interval ++
    beBytes 2 (ceilDiv (ticksLeft p.missTimer) (second / 10)) ++ posField p.lastHeard ++
    beBytes 2 p.frames ++ beBytes 2 (secondsSince p) ++ beBytes 2 p.rejoins

/-- The listen timer's remaining whole seconds, rounded up; 0 outside LISTEN_IN (R73). -/
def listenSeconds (n : NetBlock) : Nat :=
  if n.state = .listenIn then ceilDiv (ticksLeft n.listen) second else 0

/-- The eight entries of a group: group 0 from station 1, group 1 from station 9 (R73). -/
def groupFields (group : Fin 2) (peers : Vector Peer 16) : List Byte :=
  ((peers.toList.zipIdx 1).filter fun x => decide (group.val * 8 < x.2 ∧ x.2 ≤ group.val * 8 + 8)).flatMap
    fun x => peerFields x.2 x.1

/-- READ PEERS (R73). -/
def readPeers (group : Nat) (s : State) : Reply :=
  match indexFrom0 2 group with
  | none => refuse .badRequest s
  | some g =>
    accept s (beBytes 1 group ++ beBytes 1 s.net.state.code ++ beBytes 2 (listenSeconds s.net) ++
      beBytes 1 (activePeers s.net.peers) ++ groupFields g s.net.peers)

/-- READ_PEERS (R73). -/
def execReadPeers (group : Nat) (s : State) : Host.Outcome State Fault Refusal :=
  .next (serve 0x40 s (readPeers group))

/-! ### Notices (R169, R170) -/

/-- READ NOTICES (R169): the first mask is the entries that were pending, the third those awaiting after
the request. -/
def readNotices (s : State) : Reply :=
  let s1 := s.mapNotices readEntry
  accept s1 (noticeMasks (noticeMask s.notices.entries (·.pending)) s1.notices.entries)

/-- READ_NOTICES (R169). -/
def execReadNotices (s : State) : Host.Outcome State Fault Refusal := .next (serve 0x50 s readNotices)

/-- The three masks as they stand after a request (R169). -/
def currentMasks (s : State) : List Byte :=
  noticeMasks (noticeMask s.notices.entries (·.pending)) s.notices.entries

/-- ACK NOTICE (R169). -/
def ackNotice (source : Nat) (s : State) : Reply :=
  match indexFrom0 12 source with
  | none => refuse .badRequest s
  | some i =>
    let s1 := s.mapNotice i (ackEntry i)
    accept s1 (currentMasks s1)

/-- ACK_NOTICE (R169). -/
def execAckNotice (source : Nat) (s : State) : Host.Outcome State Fault Refusal :=
  .next (serve 0x51 s (ackNotice source))

/-- SET NOTICE ENABLES: a mask with any of its top four flags set is refused (R170). -/
def setNoticeEnables (mask : Nat) (s : State) : Reply :=
  if 4096 ≤ mask then refuse .badRequest s
  else
    let s1 := s.mapNotices fun i => enableEntry i (mask.testBit i.val)
    accept s1 (currentMasks s1)

/-- SET_NOTICE_ENABLES (R170). -/
def execSetNoticeEnables (mask : Nat) (s : State) : Host.Outcome State Fault Refusal :=
  .next (serve 0x52 s (setNoticeEnables mask))

/-! ### The link's own events (R165, R166) -/

/-- UNKNOWN_REQUEST_KIND: BAD_REQUEST with no payload (R166). -/
def execUnknownRequestKind (kind : Nat) (s : State) : Host.Outcome State Fault Refusal :=
  .next (serve kind s (refuse .badRequest))

/-- LINK_FRAME_DISCARD: no response, the link error counter increments, whatever the cause (R165). -/
def execLinkFrameDiscard (_cause : DiscardCause) (s : State) : Host.Outcome State Fault Refusal :=
  .next (linkError s)

/-- RESPONSE_BACKLOG_DISCARD: with four responses held the request is discarded and counted; with fewer
held this cannot come about, and nothing happens (R166). -/
def execResponseBacklogDiscard (s : State) : Host.Outcome State Fault Refusal :=
  .next (if responseRoom ≤ s.link.responses.length then linkError s else s)

/-- RESPONSE_SENT_WHOLE: the oldest response has left (R166). -/
def execResponseSentWhole (s : State) : Host.Outcome State Fault Refusal :=
  .next { s with link := { s.link with responses := s.link.responses.tail, sending := 0 } }

end Sys2Proof.Machine
end

