-- ==== Sys2Proof/Machine/RadioEvents.lean ====
section
/-! DEFINITION. Sys2Proof/Machine/RadioEvents.lean: BEACON, TALLY, RADIO_FRAME_DROP, SHIFT_CLOCK_SECOND,
the two timers of the peer table, and the events of channel access (chapters 3, 4 and 5). -/

namespace Sys2Proof.Machine

/-! ### Frames received (R82, R84) -/

/-- BEACON (R59, R82, R83): a frame that the receiver has taken whole (R81), dealt with in every running net
state, whatever the transmitter does by then (R84); one outside the ranges of R83 is dropped as malformed. -/
def execBeacon (station : Nat) (pos : ClockPos) (interval : Nat) (s : State) :
    Host.Outcome State Fault Refusal :=
  match s.running, s.store.block with
  | true, some c =>
    match indexOf 16 station with
    | none => .next (countDrop .station s)
    | some i =>
      if beaconInRange c.shiftLength pos interval then .next (takeBeacon c i pos interval s)
      else .next (countDrop .fieldRange s)
  | _, _ => .next s

/-- TALLY (R12, R82, R83), taken under the same conditions; one of the same moment as a send decision may be
taken before or after it (R94, R95). -/
def execTally (station : Nat) (frame : TallyFrame) (s : State) : Host.Outcome State Fault Refusal :=
  match s.running, s.store.block with
  | true, some c =>
    match indexOf 16 station with
    | none => .next (countDrop .station s)
    | some i =>
      if frame.inRange c.shiftLength then .next (takeTally c i frame s)
      else .next (countDrop .fieldRange s)
  | _, _ => .next s

/-- RADIO_FRAME_DROP (R82): counted once in a running station. -/
def execRadioFrameDrop (cause : DropCause) (s : State) : Host.Outcome State Fault Refusal :=
  .next (if s.running then countDrop cause s else s)

/-! ### The shift clock and the peer table's timers -/

/-- SHIFT_CLOCK_SECOND (R47). -/
def execShiftClockSecond (s : State) : Host.Outcome State Fault Refusal :=
  match s.store.block with
  | none => .next s
  | some c => .next (countSecond c s)

/-- MISS_TIMER_EXPIRY: a miss at an entry whose timer runs (R62). -/
def execMissTimerExpiry (station : Nat) (s : State) : Host.Outcome State Fault Refusal :=
  match indexOf 16 station with
  | none => .next s
  | some i => .next (if s.net.peers[i].missTimer.isSome then missAtPeer i s else s)

/-- LISTEN_TIMER_EXPIRY: in LISTEN_IN, with the timer running (R68). -/
def execListenTimerExpiry (s : State) : Host.Outcome State Fault Refusal :=
  .next (if s.net.state = .listenIn ∧ s.net.listen.isSome = true then leaveListenIn s else s)

/-! ### Schedules (R87, R88) -/

/-- BEACON_DUE: the running schedule brings a beacon due and draws the next interval (R87). -/
def execBeaconDue (s : State) : Host.Outcome State Fault Refusal :=
  match s.store.block, s.radio.schedule with
  | some c, some _ =>
    .next ((nextBeacon c s).mapRadio fun r => beginAccess { r with dueBeacon := some accessLimit })
  | _, _ => .next s

/-- A tally can fall due: the gap clock runs, none is due, and there is one to send (R88). -/
def State.tallyCanFallDue (s : State) : Bool :=
  s.radio.gapClock.isSome && s.radio.dueTally.isNone &&
    (!s.radio.queue.isEmpty || !s.view.entries.isEmpty)

/-- TALLY_DUE: a tally falls due (R88). -/
def execTallyDue (s : State) : Host.Outcome State Fault Refusal :=
  .next (if s.tallyCanFallDue then
    s.mapRadio fun r => beginAccess { r with dueTally := some accessLimit }
  else s)

/-! ### Channel access (R89, R90, R91) -/

/-- The countdown begun or resumed; at 0 the opportunity has come (R90). -/
def runCountdown (c : ConfigBlock) (slots : Nat) (s : State) : State :=
  if slots = 0 then opportunity c s else s.mapRadio fun r => { r with tx := .countdown slots slotTime }

/-- QUIET_TIME_PASSED: in the quiet wait with CD clear, a backoff is drawn from 0..CW-1, or the frozen
countdown resumes (R89, R90). -/
def execQuietTimePassed (s : State) : Host.Outcome State Fault Refusal :=
  match s.store.block, s.radio.tx with
  | some c, .quiet (some _) none =>
    .next (runCountdown c (s.drawBelow s.radio.cw).1 (s.drawBelow s.radio.cw).2)
  | some c, .quiet (some _) (some slots) => .next (runCountdown c slots s)
  | _, _ => .next s

/-- BACKOFF_SLOT_END: a slot in which CD stayed clear is counted (R90). -/
def execBackoffSlotEnd (s : State) : Host.Outcome State Fault Refusal :=
  match s.store.block, s.radio.tx with
  | some c, .countdown slots _ => .next (if s.radio.cd then s else runCountdown c (slots - 1) s)
  | _, _ => .next s

/-- The transmitter at a rise of CD: a countdown freezes with its remaining count and CW doubles, a quiet
wait starts again (R89, R90). -/
def carrierRise (r : RadioBlock) : RadioBlock :=
  match r.tx with
  | .countdown slots _ => { r with cd := true, tx := .quiet none (some slots), cw := min cwHigh (2 * r.cw) }
  | .quiet _ frozen => { r with cd := true, tx := .quiet none frozen }
  | _ => { r with cd := true }

/-- CARRIER_DETECT_RISE: CD, which was clear, is asserted (R89, R90). -/
def execCarrierDetectRise (s : State) : Host.Outcome State Fault Refusal :=
  .next (if s.radio.cd then s else s.mapRadio carrierRise)

/-- The transmitter at a fall of CD: a quiet wait counts its 10 ms from now (R89). -/
def carrierFall (r : RadioBlock) : RadioBlock :=
  match r.tx with
  | .quiet _ frozen => { r with cd := false, tx := .quiet (some quietTime) frozen }
  | _ => { r with cd := false }

/-- CARRIER_DETECT_FALL: CD, which was asserted, clears (R89). -/
def execCarrierDetectFall (s : State) : Host.Outcome State Fault Refusal :=
  .next (if s.radio.cd then s.mapRadio carrierFall else s)

/-- A due frame abandoned and counted; an abandoned tally restarts the gap clock (R91). -/
def abandon (frame : DueFrame) (r : RadioBlock) : RadioBlock :=
  match frame with
  | .beacon => { r with dueBeacon := none, abandoned := bump r.abandoned }
  | .tally => { r with dueTally := none, abandoned := bump r.abandoned, gapClock := some 0 }

/-- The transmitter after an abandonment: an attempt goes on while a frame is due, otherwise it returns to
IDLE; a frame on air runs to its end (R91). -/
def afterAbandon (r : RadioBlock) : RadioBlock :=
  if r.tx.key || r.someDue then r else { r with tx := .idle }

/-- Is the frame due? -/
def RadioBlock.isDue (r : RadioBlock) : DueFrame → Bool
  | .beacon => r.dueBeacon.isSome
  | .tally => r.dueTally.isSome

/-- ACCESS_LIMIT_EXPIRY: a due frame is abandoned (R91). -/
def execAccessLimitExpiry (frame : DueFrame) (s : State) : Host.Outcome State Fault Refusal :=
  .next (if s.radio.isDue frame then s.mapRadio fun r => afterAbandon (abandon frame r) else s)

/-- TRANSMISSION_END: KEY is released, the gap clock restarts, and a fresh attempt begins for a frame that is
due (R86). -/
def execTransmissionEnd (s : State) : Host.Outcome State Fault Refusal :=
  .next (if s.radio.tx.key then s.mapRadio fun r => nextAttempt { r with gapClock := some 0 } else s)

end Sys2Proof.Machine
end

