-- ==== Sys2Proof/Machine/FieldEvents.lean ====
section
/-! DEFINITION. Sys2Proof/Machine/FieldEvents.lean: NOZZLE_CHANGE, STOP_LINE_CHANGE, METER_PULSE and the
expiries of the hose timers (chapters 6, 7 and 8). An event at a hose that is not fitted, or before the
first valid configuration, does not come about, since its inputs are not sampled (R99); an expiry whose
timer does not run does not come about (R127). Neither changes anything. -/

namespace Sys2Proof.Machine

/-- The configuration in force and the hose, where a field event names a fitted hose. -/
def State.fieldHose (s : State) (hose : Nat) : Option (ConfigBlock × Fin 4) :=
  match s.store.block, indexOf 4 hose with
  | some c, some h => if c.fitted[h] then some (c, h) else none
  | _, _ => none

/-! ### NOZZLE_CHANGE (R102, R133, R138, R141) -/

/-- What a lift does to its hose: an authorisation starts (R133). -/
def liftAt (c : ConfigBlock) (h : Fin 4) (s : State) : State :=
  match (s.hose h).ctl.state == .authorized, s.context h with
  | true, some x => enterStarting c h x s
  | _, _ => s

/-- What a hang does to its hose: an issue closes HUNG, an ended one is left (R138, R141). -/
def hangAt (c : ConfigBlock) (h : Fin 4) (s : State) : State :=
  if (s.hose h).ctl.state.issuing then close c h .hung s
  else if (s.hose h).ctl.state = .ended then leaveEnded h s
  else s

/-- The filtered nozzle state set; the line stands at the level that shows it. -/
def setNozzle (c : ConfigBlock) (h : Fin 4) (lifted : Bool) (s : State) : State :=
  s.mapHose h fun x => { x with
    nozzle := { active := lifted, run := 0, level := lifted == c.nozzleHigh[h] } }

/-- A change of a filtered nozzle state, its guard evaluation, and what it does to its hose (R102, R105). -/
def changeNozzle (c : ConfigBlock) (h : Fin 4) (lifted : Bool) (s : State) : State :=
  let s1 := guardEval (setNozzle c h lifted s)
  if lifted then liftAt c h s1 else hangAt c h s1

/-- NOZZLE_CHANGE (R102). A report of the state the nozzle already has is no change. -/
def execNozzleChange (hose : Nat) (lifted : Bool) (s : State) : Host.Outcome State Fault Refusal :=
  match s.fieldHose hose with
  | none => .next s
  | some (c, h) => .next (if (s.hose h).nozzle.active = lifted then s else changeNozzle c h lifted s)

/-! ### STOP_LINE_CHANGE (R107, R144) -/

/-- The filtered stop line set; the line stands at the level that shows it, and STOP_ACTIVE follows. -/
def setStop (c : ConfigBlock) (asserted : Bool) (s : State) : State :=
  report .stopActive asserted { s with field := { s.field with
    stop := { active := asserted, run := 0, level := asserted == c.stopHigh } } }

/-- A change of the filtered stop line: an assertion ends every issue; every valve output is driven in the
same event (R107, R108, R144). -/
def changeStop (c : ConfigBlock) (asserted : Bool) (s : State) : State :=
  let s1 := eachHose driveValves (setStop c asserted s)
  if asserted then eachHose (fun h => endIssue c h .estop) s1 else s1

/-- STOP_LINE_CHANGE (R107). A report of the state the line already has is no change. -/
def execStopLineChange (asserted : Bool) (s : State) : Host.Outcome State Fault Refusal :=
  match s.store.block with
  | none => .next s
  | some c => .next (if s.field.stop.active = asserted then s else changeStop c asserted s)

/-! ### METER_PULSE (R103, R112) -/

/-- The filtered state of a meter input after a counted edge, by the hose's edge mode (R103). Of an input that has
taken no first sample no edge can come (R101); a pulse given as a command is counted all the same, and in edge mode
both it leaves the state active (DESIGN CHOICE, notes/assumptions/36.md). -/
def edgeState (mode : EdgeMode) (before : Option Bool) : Bool :=
  match mode with
  | .rising => true
  | .falling => false
  | .both => !before.getD false

/-- The meter input after a counted edge; the line stands at the level that shows it. -/
def setMeterInput (c : ConfigBlock) (h : Fin 4) (s : State) : State :=
  s.mapHose h fun x =>
    let a := edgeState c.edgeMode[h] x.meterInput.active
    { x with meterInput := { active := some a, run := 0, level := a == c.meterHigh[h] } }

/-- METER_PULSE (R112). -/
def execMeterPulse (hose ticks : Nat) (s : State) : Host.Outcome State Fault Refusal :=
  match s.fieldHose hose with
  | none => .next s
  | some (c, h) => .next (takePulse c h ticks (setMeterInput c h s))

/-! ### Timers of the hoses (R127) -/

/-- AUTH_TIMER_EXPIRY: the authorisation is cancelled and AUTH_EXPIRED raised (R133). -/
def execAuthTimerExpiry (hose : Nat) (s : State) : Host.Outcome State Fault Refusal :=
  match s.fieldHose hose with
  | none => .next s
  | some (_, h) =>
    .next (if (s.hose h).ctl.state = .authorized ∧ (s.hose h).ctl.authTimer.isSome = true then
      raise .authExpired (cancel h s)
    else s)

/-- The prime wait of a hose over: the pump has then run for the prime time (R134), and the hose enters
FLOWING (R135). -/
def endPrimeWait (c : ConfigBlock) (h : Fin 4) (x : IssueContext) (s : State) : State :=
  enterFlowing c h x { s with field := { s.field with
    sincePumpOn := max s.field.sincePumpOn (c.primeTime * second) } }

/-- PRIME_WAIT_EXPIRY (R134). -/
def execPrimeWaitExpiry (hose : Nat) (s : State) : Host.Outcome State Fault Refusal :=
  match s.fieldHose hose with
  | none => .next s
  | some (c, h) =>
    match (s.hose h).ctl.state == .starting && (s.hose h).ctl.primeTimer.isSome, s.context h with
    | true, some x => .next (endPrimeWait c h x s)
    | _, _ => .next s

/-- START_TIMER_EXPIRY: the hose closes with reason NO_START (R136). -/
def execStartTimerExpiry (hose : Nat) (s : State) : Host.Outcome State Fault Refusal :=
  match s.fieldHose hose with
  | none => .next s
  | some (c, h) =>
    .next (if (s.hose h).ctl.state.issuing = true ∧ (s.hose h).ctl.startTimer.isSome = true then
      close c h .noStart s
    else s)

/-- NO_FLOW_TIMER_EXPIRY: the hose closes with reason NO_FLOW (R136). -/
def execNoFlowTimerExpiry (hose : Nat) (s : State) : Host.Outcome State Fault Refusal :=
  match s.fieldHose hose with
  | none => .next s
  | some (c, h) =>
    .next (if (s.hose h).ctl.state.issuing = true ∧ (s.hose h).ctl.noFlowTimer.isSome = true then
      close c h .noFlow s
    else s)

/-- SETTLE_TIMER_EXPIRY: the settle timer has elapsed (R119). -/
def execSettleTimerExpiry (hose : Nat) (s : State) : Host.Outcome State Fault Refusal :=
  match s.fieldHose hose with
  | none => .next s
  | some (_, h) => .next (s.mapMeter h fun m => { m with settle := none })

/-- CREEP_QUIET_TIMER_EXPIRY: the creep state becomes QUIET (R123). The quiet timer of a hose since left out
of the fitted mask runs out as any other. -/
def execCreepQuietTimerExpiry (hose : Nat) (s : State) : Host.Outcome State Fault Refusal :=
  match indexOf 4 hose with
  | none => .next s
  | some h => .next (s.mapMeter h fun m => { m with creep := none })

/-- OVERRUN_WINDOW_EXPIRY: the hose enters ENDED and the issue is completed (R140). -/
def execOverrunWindowExpiry (hose : Nat) (s : State) : Host.Outcome State Fault Refusal :=
  match s.fieldHose hose with
  | none => .next s
  | some (c, h) =>
    match (s.hose h).ctl.state == .closing && (s.hose h).ctl.overrunTimer.isSome, s.context h with
    | true, some x => .next (complete c h x s)
    | _, _ => .next s

end Sys2Proof.Machine
end

