-- ==== Sys2Proof/Machine/Dispatch.lean ====
section
/-! DEFINITION. Sys2Proof/Machine/Dispatch.lean: what each command does, one arm for each row of
spec/opcode_table.json, in its order. -/

namespace Sys2Proof.Machine

def exec (i : Instr) (s : State) : Host.Outcome State Fault Refusal :=
  match i with
  | .powerOn => Sys2Proof.Machine.execPowerOn s
  | .loadConfig part bytes => Sys2Proof.Machine.execLoadConfig part bytes s
  | .start shift time => Sys2Proof.Machine.execStart shift time s
  | .standby => Sys2Proof.Machine.execStandby s
  | .restart => Sys2Proof.Machine.execRestart s
  | .readStatus => Sys2Proof.Machine.execReadStatus s
  | .presentVehicle hose vehicle hours flag total preset => Sys2Proof.Machine.execPresentVehicle hose vehicle hours flag total preset s
  | .stopHose hose => Sys2Proof.Machine.execStopHose hose s
  | .readHose hose => Sys2Proof.Machine.execReadHose hose s
  | .clearHoseFault hose => Sys2Proof.Machine.execClearHoseFault hose s
  | .readVehicle vehicle => Sys2Proof.Machine.execReadVehicle vehicle s
  | .barVehicle vehicle => Sys2Proof.Machine.execBarVehicle vehicle s
  | .clearBar vehicle => Sys2Proof.Machine.execClearBar vehicle s
  | .recordService vehicle type hours flag total => Sys2Proof.Machine.execRecordService vehicle type hours flag total s
  | .stageAllowance cls litres => Sys2Proof.Machine.execStageAllowance cls litres s
  | .clearStaged cls => Sys2Proof.Machine.execClearStaged cls s
  | .readWatchList => Sys2Proof.Machine.execReadWatchList s
  | .readOldest => Sys2Proof.Machine.execReadOldest s
  | .releaseRecord number => Sys2Proof.Machine.execReleaseRecord number s
  | .readPeers group => Sys2Proof.Machine.execReadPeers group s
  | .readNotices => Sys2Proof.Machine.execReadNotices s
  | .ackNotice source => Sys2Proof.Machine.execAckNotice source s
  | .setNoticeEnables mask => Sys2Proof.Machine.execSetNoticeEnables mask s
  | .unknownRequestKind kind => Sys2Proof.Machine.execUnknownRequestKind kind s
  | .linkFrameDiscard cause => Sys2Proof.Machine.execLinkFrameDiscard cause s
  | .responseBacklogDiscard => Sys2Proof.Machine.execResponseBacklogDiscard s
  | .beacon station pos interval => Sys2Proof.Machine.execBeacon station pos interval s
  | .tally station frame => Sys2Proof.Machine.execTally station frame s
  | .radioFrameDrop cause => Sys2Proof.Machine.execRadioFrameDrop cause s
  | .shiftClockSecond => Sys2Proof.Machine.execShiftClockSecond s
  | .missTimerExpiry station => Sys2Proof.Machine.execMissTimerExpiry station s
  | .listenTimerExpiry => Sys2Proof.Machine.execListenTimerExpiry s
  | .beaconDue => Sys2Proof.Machine.execBeaconDue s
  | .tallyDue => Sys2Proof.Machine.execTallyDue s
  | .quietTimePassed => Sys2Proof.Machine.execQuietTimePassed s
  | .backoffSlotEnd => Sys2Proof.Machine.execBackoffSlotEnd s
  | .carrierDetectRise => Sys2Proof.Machine.execCarrierDetectRise s
  | .carrierDetectFall => Sys2Proof.Machine.execCarrierDetectFall s
  | .accessLimitExpiry frame => Sys2Proof.Machine.execAccessLimitExpiry frame s
  | .transmissionEnd => Sys2Proof.Machine.execTransmissionEnd s
  | .nozzleChange hose lifted => Sys2Proof.Machine.execNozzleChange hose lifted s
  | .stopLineChange asserted => Sys2Proof.Machine.execStopLineChange asserted s
  | .meterPulse hose ticks => Sys2Proof.Machine.execMeterPulse hose ticks s
  | .authTimerExpiry hose => Sys2Proof.Machine.execAuthTimerExpiry hose s
  | .primeWaitExpiry hose => Sys2Proof.Machine.execPrimeWaitExpiry hose s
  | .startTimerExpiry hose => Sys2Proof.Machine.execStartTimerExpiry hose s
  | .noFlowTimerExpiry hose => Sys2Proof.Machine.execNoFlowTimerExpiry hose s
  | .settleTimerExpiry hose => Sys2Proof.Machine.execSettleTimerExpiry hose s
  | .creepQuietTimerExpiry hose => Sys2Proof.Machine.execCreepQuietTimerExpiry hose s
  | .overrunWindowExpiry hose => Sys2Proof.Machine.execOverrunWindowExpiry hose s
  | .responseSentWhole => Sys2Proof.Machine.execResponseSentWhole s

end Sys2Proof.Machine
end

