-- ==== Sys2Proof/Machine/Receivers.lean ====
section
/-! DEFINITION. Sys2Proof/Machine/Receivers.lean: what the two receivers do with the bits and bytes on
their lines (R81, R165), and the filters of the field inputs (R99, R100). -/

namespace Sys2Proof.Machine

/-! ### The radio receiver (R81) -/

/-- The sync word B3h 4Eh, as the last sixteen bits of the hunt. -/
def syncWord : Nat := 0xB34E

/-- The hunt with one more bit: sixteen bits are kept. -/
def huntBit (window : Nat) (b : Bool) : RadioReceiver :=
  let w := (2 * window + b.toNat) % 65536
  if w = syncWord then .taking 0 0 [] else .hunt w

/-- The body with one more byte: a bad length ends it at once, a whole one is checked (R81, R82). -/
def bodyByte (shiftLength : Nat) (bytes : List Byte) (b : Byte) : RadioReceiver × List BodyCheck :=
  match bytes with
  | [] => if b.toNat < 3 ∨ 198 < b.toNat then (.hunt 0, [.drop .length]) else (.taking 0 0 [b], [])
  | len :: rest =>
    let body := len :: rest ++ [b]
    if body.length = len.toNat + 3 then (.hunt 0, [checkBody shiftLength body])
    else (.taking 0 0 body, [])

/-- The receiver takes one bit (R81). -/
def RadioReceiver.takeBit (shiftLength : Nat) (r : RadioReceiver) (b : Bool) :
    RadioReceiver × List BodyCheck :=
  match r with
  | .hunt w => (huntBit w b, [])
  | .taking acc n bytes =>
    let a := 2 * acc + b.toNat
    if n = 7 then bodyByte shiftLength bytes (BitVec.ofNat 8 a) else (.taking a (n + 1) bytes, [])

/-! ### The link receiver (R165) -/

/-- The hunt meets a byte: C3h begins a frame. -/
def huntByte (b : LineByte) : LinkReceiver × List Instr :=
  if b.value = 0xC3#8 then
    (if b.stop then (.length, []) else (.hunt, [.linkFrameDiscard .noStopBit]))
  else (.hunt, [])

/-- A whole frame: with the right CRC it is a request, otherwise it is discarded (R165, R166). -/
def wholeFrame (bytes : List Byte) : List Instr :=
  match bytes with
  | [] => [.linkFrameDiscard .badLength]
  | len :: rest =>
    let content := rest.take len.toNat
    if rest.drop len.toNat = crcField (len :: content) then
      match content with
      | [] => [.linkFrameDiscard .badLength]
      | kind :: payload => [requestOf kind payload]
    else [.linkFrameDiscard .badCrc]

/-- A gap of more than 10 ms before a byte (R165). -/
def LineByte.late (b : LineByte) : Bool := 10 * millisecond < b.gap

/-- A byte inside a frame: a gap before it discards the frame and the hunt takes the byte; a missing stop bit
discards the frame; otherwise `next` says how the frame goes on (R165). -/
def frameByte (b : LineByte) (next : LinkReceiver × List Instr) : LinkReceiver × List Instr :=
  if b.late then ((huntByte b).1, .linkFrameDiscard .gap :: (huntByte b).2)
  else if !b.stop then (.hunt, [.linkFrameDiscard .noStopBit])
  else next

/-- The receiver takes one byte (R165). -/
def LinkReceiver.takeByte (r : LinkReceiver) (b : LineByte) : LinkReceiver × List Instr :=
  match r with
  | .hunt => huntByte b
  | .length => frameByte b
      (if b.value.toNat = 0 ∨ 250 < b.value.toNat then (.hunt, [.linkFrameDiscard .badLength])
       else (.taking (b.value.toNat + 2) [b.value], []))
  | .taking need bytes => frameByte b
      (if need ≤ 1 then (.hunt, wholeFrame (bytes ++ [b.value]))
       else (.taking (need - 1) (bytes ++ [b.value]), []))

/-! ### The filters (R99, R100) -/

/-- A sample taken through the input's polarity: active or inactive (R99). -/
def throughPolarity (activeHigh level : Bool) : Bool := level == activeHigh

/-- The run count after a sample: 0 when it equals the filtered state, one more when it differs (R100). -/
def LineInput.sampled (activeHigh : Bool) (x : LineInput) : LineInput :=
  { x with run := if throughPolarity activeHigh x.level = x.active then 0 else x.run + 1 }

/-- Does the edge mode count an edge to this filtered state? (R103) -/
def EdgeMode.counts (mode : EdgeMode) (active : Bool) : Bool :=
  match mode with
  | .rising => active
  | .falling => !active
  | .both => true

/-- A meter input after a sample: the first one is its filtered state (R101); an edge that the mode does not
count changes the filtered state and is handed nowhere (R103); one that it counts stands with its run
complete until the pulse is taken. -/
def MeterInput.sampled (length : Nat) (mode : EdgeMode) (activeHigh : Bool) (x : MeterInput) : MeterInput :=
  let a := throughPolarity activeHigh x.level
  match x.active with
  | none => { x with active := some a, run := 0 }
  | some f =>
    if a = f then { x with run := 0 }
    else if length ≤ x.run + 1 ∧ mode.counts a = false then { x with active := some a, run := 0 }
    else { x with run := x.run + 1 }

end Sys2Proof.Machine
end

