-- ==== Sys2Proof/Machine/Tick.lean ====
section
/-! DEFINITION. Sys2Proof/Machine/Tick.lean: the part's own time. With no command waiting, an event of the
part that has come about is taken; with none, a tick of 10 µs passes: the inputs are sampled, the lines
bring their bits and bytes, every timer and clock moves on. -/

namespace Sys2Proof.Machine

/-! ### One tick -/

/-- A Hose Controller's timers one tick later (R127). -/
def HoseControl.tick (x : HoseControl) : HoseControl :=
  { x with
    authTimer := countDown x.authTimer
    primeTimer := countDown x.primeTimer
    startTimer := countDown x.startTimer
    noFlowTimer := countDown x.noFlowTimer
    overrunTimer := countDown x.overrunTimer }

/-- A Meter Counter's interval counter and timers one tick later (R116, R119, R123). -/
def Meter.tick (m : Meter) : Meter :=
  { m with
    interval := satAdd intervalTop m.interval 1
    settle := countDown m.settle
    creep := countDown m.creep }

/-- A peer entry's miss timer and seconds counter one tick later (R62, R64). -/
def Peer.tick (p : Peer) : Peer :=
  { p with
    missTimer := countDown p.missTimer
    since := p.since.map (satAdd (u16Max * second) · 1) }

/-- A hose one tick later; its inputs are sampled while it is fitted, the meter input at every tick and the
nozzle input when a millisecond begins (R99). -/
def Hose.tick (c : Option ConfigBlock) (h : Fin 4) (newMs : Bool) (x : Hose) : Hose :=
  let y := { x with ctl := x.ctl.tick, meter := x.meter.tick }
  match c with
  | none => y
  | some c =>
    if c.fitted[h] then
      { y with
        nozzle := if newMs then x.nozzle.sampled c.nozzleHigh[h] else x.nozzle
        meterInput := x.meterInput.sampled c.meterFilter c.edgeMode[h] c.meterHigh[h] }
    else y

/-- The station's field lines one tick later; the stop line is sampled when a millisecond begins, once a
configuration is installed (R99). -/
def FieldBlock.tick (c : Option ConfigBlock) (newMs : Bool) (f : FieldBlock) : FieldBlock :=
  let g := { f with sincePumpOn := f.sincePumpOn + 1, samplePhase := (f.samplePhase + 1) % millisecond }
  match c with
  | none => g
  | some c => if newMs then { g with stop := f.stop.sampled c.stopHigh } else g

/-- The transmitter one tick later. -/
def Transmitter.tick : Transmitter → Transmitter
  | .idle => .idle
  | .quiet left frozen => .quiet (countDown left) frozen
  | .countdown slots slotLeft => .countdown slots (slotLeft - 1)
  | .sending f => .sending { f with elapsed := f.elapsed + 1 }

/-- The timers of the Pit Net Controller one tick later. -/
def RadioBlock.tick (r : RadioBlock) : RadioBlock :=
  { r with
    tx := r.tx.tick
    dueBeacon := countDown r.dueBeacon
    dueTally := countDown r.dueTally
    schedule := countDown r.schedule
    gapClock := countUp r.gapClock
    bitPhase := (r.bitPhase + 19200) % second }

/-- The shift clock's second count one tick later: an unset or held clock does not count (R46, R47). -/
def ClockBlock.tick (k : ClockBlock) : ClockBlock :=
  if k.set && !k.held then { k with phase := k.phase + 1 } else k

/-- One bit of RXD taken at the bit clock: the receiver takes it while the port takes frames, and otherwise
it is lost (R75, R81). -/
def radioBit (s : State) : State :=
  match s.radio.rxd, s.store.block with
  | b :: rest, some c =>
    if s.receiving then
      let r := s.radio.receiver.takeBit c.shiftLength b
      { s with
        radio := { s.radio with rxd := rest, receiver := r.1 }
        model := { s.model with arrived := s.model.arrived ++ r.2.map BodyCheck.command } }
    else { s with radio := { s.radio with rxd := rest, receiver := .hunt 0 } }
  | _ :: rest, none => { s with radio := { s.radio with rxd := rest } }
  | [], _ => s

/-- The link's receive line one tick later: a byte whose gap has passed is taken (R165). -/
def linkByte (s : State) : State :=
  match s.link.line with
  | [] => { s with link := { s.link with waited := s.link.waited + 1 } }
  | b :: rest =>
    if b.gap ≤ s.link.waited then
      let r := s.link.receiver.takeByte b
      { s with
        link := { s.link with line := rest, receiver := r.1, waited := 0 }
        model := { s.model with arrived := s.model.arrived ++ r.2 } }
    else { s with link := { s.link with waited := s.link.waited + 1 } }

/-- The response under way one tick later (R166). -/
def LinkBlock.tickSending (l : LinkBlock) : LinkBlock :=
  if l.responses.isEmpty then l else { l with sending := l.sending + 1 }

/-- A tick of 10 µs passes. -/
def tick (s : State) : State :=
  let newMs := s.field.samplePhase == 0
  let newBit := decide (second ≤ s.radio.bitPhase + 19200)
  let s1 := { s with
    clock := s.clock.tick
    net := { s.net with listen := countDown s.net.listen, peers := mapTable Peer.tick s.net.peers }
    radio := s.radio.tick
    field := s.field.tick s.store.block newMs
    hoses := Vector.ofFn fun h => s.hoses[h].tick s.store.block h newMs
    link := s.link.tickSending }
  linkByte (if newBit then radioBit s1 else s1)

/-! ### Events of the part that have come about -/

/-- A running timer has run out. -/
def runOut (t : Option Nat) : Bool := t == some 0

/-- A command when a condition holds. -/
def dueWhen (b : Bool) (c : Instr) : List Instr := if b then [c] else []

/-- The events of one hose that have come about. -/
def hoseDue (c : ConfigBlock) (s : State) (h : Fin 4) : List Instr :=
  let x := s.hose h
  let n := h.val + 1
  dueWhen (runOut x.meter.creep) (.creepQuietTimerExpiry n) ++
  if c.fitted[h] then
    dueWhen (c.nozzleFilter ≤ x.nozzle.run) (.nozzleChange n (!x.nozzle.active)) ++
    dueWhen (c.meterFilter ≤ x.meterInput.run) (.meterPulse n 0) ++
    dueWhen (x.ctl.state == .authorized && runOut x.ctl.authTimer) (.authTimerExpiry n) ++
    dueWhen (x.ctl.state == .starting && x.ctl.context.isSome && runOut x.ctl.primeTimer)
      (.primeWaitExpiry n) ++
    dueWhen (x.ctl.state.issuing && runOut x.ctl.startTimer) (.startTimerExpiry n) ++
    dueWhen (x.ctl.state.issuing && runOut x.ctl.noFlowTimer) (.noFlowTimerExpiry n) ++
    dueWhen (runOut x.meter.settle) (.settleTimerExpiry n) ++
    dueWhen (x.ctl.state == .closing && x.ctl.context.isSome && runOut x.ctl.overrunTimer)
      (.overrunWindowExpiry n)
  else []

/-- The transmitter's events that have come about. -/
def transmitterDue (c : ConfigBlock) (r : RadioBlock) : List Instr :=
  match r.tx with
  | .idle => []
  | .quiet left _ => dueWhen (runOut left) .quietTimePassed
  | .countdown _ slotLeft => dueWhen (slotLeft == 0 && !r.cd) .backoffSlotEnd
  | .sending f => dueWhen (airTime c f.bytes ≤ f.elapsed) .transmissionEnd

/-- The gap clock has reached the gap in use (R88). -/
def State.gapReached (c : ConfigBlock) (s : State) : Bool :=
  match s.radio.gapClock, s.tallyGap c with
  | some t, some gap => gap ≤ t
  | _, _ => false

/-- The radio's events that have come about. -/
def radioDue (c : ConfigBlock) (s : State) : List Instr :=
  dueWhen (runOut s.radio.schedule) .beaconDue ++
  dueWhen (s.tallyCanFallDue && s.gapReached c) .tallyDue ++
  dueWhen (runOut s.radio.dueBeacon) (.accessLimitExpiry .beacon) ++
  dueWhen (runOut s.radio.dueTally) (.accessLimitExpiry .tally) ++
  transmitterDue c s.radio

/-- The events of the clock, the peer table and the link that have come about. -/
def stationDue (c : ConfigBlock) (s : State) : List Instr :=
  dueWhen (s.clock.set && !s.clock.held && second ≤ s.clock.phase) .shiftClockSecond ++
  dueWhen (s.net.state == .listenIn && runOut s.net.listen) .listenTimerExpiry ++
  (s.net.peers.toList.zipIdx 1).flatMap (fun x => dueWhen (runOut x.1.missTimer) (.missTimerExpiry x.2)) ++
  dueWhen (c.stopFilter ≤ s.field.stop.run) (.stopLineChange (!s.field.stop.active))

/-- The oldest response has been sent whole. -/
def responseDue (s : State) : List Instr :=
  match s.link.responses with
  | [] => []
  | r :: _ => dueWhen (responseTime r ≤ s.link.sending) .responseSentWhole

/-- The part's own events that have come about at this moment. -/
def ownDue (s : State) : List Instr :=
  responseDue s ++
  match s.store.block with
  | none => []
  | some c => stationDue c s ++ radioDue c s ++ hoseIndices.flatMap (hoseDue c s)

/-- The arrivals that come from the radio; the others come from the terminal link. -/
def fromRadio : Instr → Bool
  | .beacon _ _ _ => true
  | .tally _ _ => true
  | .radioFrameDrop _ => true
  | _ => false

/-- The oldest frame taken whole from one of the two lines and not yet dealt with, with the state that it is
taken in, which it has left. -/
def oldestFrom (line : Instr → Bool) (s : State) : List (Instr × State) :=
  match s.model.arrived.find? line with
  | none => []
  | some i => [(i, { s with model := { s.model with arrived := s.model.arrived.eraseP line } })]

/-- The events that may be taken now, each with the state it is taken in: the oldest frame of each line, either
of which may be taken first (R67), and the part's own events. -/
def candidates (s : State) : List (Instr × State) :=
  oldestFrom fromRadio s ++ oldestFrom (fun i => !fromRadio i) s ++ (ownDue s).map fun i => (i, s)

/-- The state after a free order has been taken. -/
def State.orderTaken (s : State) : State := { s with model := { s.model with orders := s.model.orders + 1 } }

/-- The event taken next, if one has come about; which of several comes first is free (R63, R67, R68, R90,
R112, R133, R140). -/
def nextEvent (s : State) : Option (Instr × State) :=
  let l := candidates s
  let i := Config.freeOrder s.model.orders % l.length
  (l[i]?).map fun x => (x.1, x.2.orderTaken)

end Sys2Proof.Machine
end

