-- ==== Sys2Proof/Safety.lean ====
section
/-! DEFINITION. Sys2Proof/Safety.lean: what counts as a safe station, in the terms the statements use: the
ranges of a configuration, and the relations between the blocks that the spec says always hold. Each is a
proposition over one state. -/

namespace Sys2Proof.Machine

open Sys2Proof

/-! ### Configuration (Table 11-5) -/

/-- A value in a..b, both ends included (section 0.5). -/
def within (a b n : Nat) : Prop := a ≤ n ∧ n ≤ b

/-- The settings of a class in their ranges, with the cross-checks of R172 that concern one class. -/
def ClassConfig.inRange (minimumIssue : Nat) (k : ClassConfig) : Prop :=
  ((k.low = 0 ∧ k.high = 0) ∨ (1 ≤ k.low ∧ k.low ≤ k.high)) ∧ k.high ≤ vehicleTop ∧
  k.allowance ≤ 100000 ∧ within 50 20000 k.tank ∧ minimumIssue ≤ k.tank ∧ within 1 800 k.maxBurn ∧
  (∀ i : Fin 4, k.hoursInterval[i] ≤ 20000) ∧ (∀ i : Fin 4, k.fuelInterval[i] ≤ 2000000)

/-- Two classes cover no number in common (R2). -/
def ClassConfig.apart (a b : ClassConfig) : Prop := ∀ v, a.covers v = true → b.covers v = false

/-- Every field of a configuration block in the range of Table 11-5, with the cross-checks of R172. -/
def ConfigBlock.inRange (c : ConfigBlock) : Prop :=
  within 1 16 c.station ∧ within 5 200 c.nozzleFilter ∧ within 1 50 c.stopFilter ∧
  within 2 20 c.meterFilter ∧ (∀ h : Fin 4, within 128 32767 c.pulseStep[h]) ∧
  (∀ h : Fin 4, within 20 1500 c.maxFlow[h]) ∧ (∀ h : Fin 4, within 5 300 c.slowFlow[h]) ∧
  within 1 10 c.settleTime ∧ c.slowdown ≤ 100 ∧ within 1 10 c.overrunWindow ∧
  within 5 200 c.overrunAllowance ∧ within 10 300 c.authTime ∧ within 2 60 c.startTime ∧
  within 5 120 c.noFlowTime ∧ c.primeTime ≤ 20 ∧ within 2 15 c.healthThreshold ∧
  within 1000 50000 c.dripVolume ∧ within 500 999 c.warn ∧ within 1000 1500 c.grace ∧
  c.holdCap ≤ 5000 ∧ c.hourTolerance ≤ 50 ∧ c.fuelTolerance ≤ 2000 ∧ within 1 100 c.minimumIssue ∧
  c.netCap ≤ 5000 ∧ within 3600 86400 c.shiftLength ∧ c.shiftLength % 60 = 0 ∧
  within 5 60 c.beaconInterval ∧ within 100 2000 c.baseGap ∧ within 1 30 c.refreshGap ∧
  within 2 50 c.keyUpDelay ∧ within 30 600 c.listenInTime ∧ within 10 300 c.rejoinTime ∧
  within 1 3 c.suppression ∧ (∀ k : Fin 8, c.classes[k].inRange c.minimumIssue) ∧
  (∀ j k : Fin 8, j ≠ k → c.classes[j].apart c.classes[k])

/-- The configuration in force, if there is one, is in range (R172), and a running station has one (R173). -/
def ConfigSound (s : State) : Prop :=
  (∀ c, s.store.block = some c → c.inRange) ∧ (s.running = true → s.store.block.isSome = true) ∧
  within 1 u16Max s.store.startTag

/-! ### Outputs (R108, R109) -/

/-- Each valve and the pump-run output stand as the hose states and the stop line ask: the main valve open
only in FLOWING, the slow valve only in FLOWING or SLOWING, neither while the stop line is asserted; the pump
on exactly while some hose is in STARTING, FLOWING or SLOWING. -/
def OutputsFollow (s : State) : Prop :=
  (∀ h : Fin 4,
    ((s.hose h).ctl.mainValve = true ↔
      (s.hose h).ctl.state = .flowing ∧ s.field.stop.active = false) ∧
    ((s.hose h).ctl.slowValve = true ↔
      ((s.hose h).ctl.state = .flowing ∨ (s.hose h).ctl.state = .slowing) ∧
        s.field.stop.active = false)) ∧
  (s.field.pumpRun = true ↔
    ∃ h : Fin 4, (s.hose h).ctl.state = .starting ∨ (s.hose h).ctl.state = .flowing ∨
      (s.hose h).ctl.state = .slowing)

/-! ### The nozzle guard (R104 to R106) -/

/-- While the station runs, the guard stands matched exactly when no fitted hose in IDLE or OUT_OF_SERVICE has
its nozzle lifted. -/
def GuardSound (s : State) : Prop :=
  s.running = true → (s.field.matched = true ↔ ∀ h : Fin 4, s.fitted h = true → (s.hose h).nozzle.active = true →
    (s.hose h).ctl.state ≠ .idle ∧ (s.hose h).ctl.state ≠ .outOfService)

/-! ### Issues and reservations (R126, R157, R158) -/

/-- A hose state with an issue context: AUTHORIZED to ENDED (Table 8-2). -/
def HoseState.inFlight : HoseState → Bool
  | .outOfService => false
  | .idle => false
  | _ => true

/-- A hose state that holds a reservation: AUTHORIZED to CLOSING (R158). -/
def HoseState.reserved : HoseState → Bool
  | .ended => false
  | st => st.inFlight

/-- How many hoses hold a reservation. -/
def State.reservedHoses (s : State) : Nat :=
  (hoseIndices.filter fun h => (s.hose h).ctl.state.reserved).length

/-- An issue context is held exactly in AUTHORIZED to ENDED, the reservation count is the number of hoses in
AUTHORIZED to CLOSING, records and reservations never exceed 32, and no hose is active in STANDBY. -/
def IssuesAccounted (s : State) : Prop :=
  (∀ h : Fin 4, (s.context h).isSome = (s.hose h).ctl.state.inFlight) ∧
  s.records.reservations = s.reservedHoses ∧
  s.records.records.length + s.records.reservations ≤ recordRoom ∧
  (s.net.state = .standby → ∀ h : Fin 4, (s.hose h).ctl.state.inFlight = false)

/-! ### Hose health (R126, R145, R149) -/

/-- A hose left out of the fitted mask is OUT_OF_SERVICE; a fitted hose is OUT_OF_SERVICE only while its
count is frozen; with its count frozen a hose is in CLOSING, ENDED or OUT_OF_SERVICE; a count lies in
0..15. -/
def HealthSound (s : State) : Prop :=
  ∀ h : Fin 4,
    (s.fitted h = false → (s.hose h).ctl.state = .outOfService) ∧
    ((s.hose h).ctl.state = .outOfService → s.fitted h = true → (s.hose h).health.frozen = true) ∧
    ((s.hose h).health.frozen = true →
      (s.hose h).ctl.state = .closing ∨ (s.hose h).ctl.state = .ended ∨
        (s.hose h).ctl.state = .outOfService) ∧
    (s.hose h).health.count ≤ 15

/-! ### Notices (R43, R107, R154, R162, R167, R168, R170) -/

/-- OVERDUE_PRESENT as the watch list shows it under the configuration in force (R43). -/
def State.overdueShown (s : State) : Bool :=
  match s.store.block with
  | none => false
  | some c => overduePresent c s.watch.members

/-- The attention output is asserted exactly while an entry is pending; a disabled entry is neither pending
nor awaiting; only conditions await; and each condition entry holds what is true of its source. -/
def NoticesTrue (s : State) : Prop :=
  (s.notices.attention = true ↔ ∃ i : Fin 12, s.notices.entries[i].pending = true) ∧
  (∀ i : Fin 12, s.notices.entries[i].enabled = false →
    s.notices.entries[i].pending = false ∧ s.notices.entries[i].awaiting = false) ∧
  (∀ i : Fin 12, s.notices.entries[i].awaiting = true → 8 ≤ i.val) ∧
  (∀ i : Fin 12, i.val < 8 → s.notices.entries[i].condition = false) ∧
  (s.notices.entries[8].condition = true ↔ ∃ h : Fin 4, (s.hose h).health.frozen = true) ∧
  s.notices.entries[9].condition = s.field.stop.active ∧
  (s.notices.entries[10].condition = true ↔ s.records.records ≠ []) ∧
  s.notices.entries[11].condition = s.overdueShown

/-! ### The Vehicle View (R1, R2, R4) -/

/-- An origin list is in strictly ascending order of (station, start tag) and holds at most 16 entries (R4). -/
def OriginsOrdered (l : List OriginEntry) : Prop :=
  l.Pairwise (fun a b => originBefore a b = true) ∧ l.length ≤ originRoom

/-- The entries stand in strictly ascending order of vehicle number, at most 256 of them, each of the class
that the configuration in force gives its number, each with an ordered origin list, each with the usage and
states that its registers and service entries give (R34). -/
def ViewOrdered (s : State) : Prop :=
  s.view.entries.Pairwise (fun a b => a.number < b.number) ∧ s.view.entries.length ≤ viewRoom ∧
  ∀ e ∈ s.view.entries, OriginsOrdered e.origins ∧
    ∃ c, s.store.block = some c ∧ classOf c e.number = some e.cls ∧ withUsage c e = e

/-! ### The Shift Clock (R46) -/

/-- A set clock stands below the shift length in force, with a shift number of at most 16,777,215; an unset
one reads shift 0, time 0; and a running station's clock is set. -/
def ClockSound (s : State) : Prop :=
  (s.clock.set = true → ∃ c, s.store.block = some c ∧ s.clock.pos.time < c.shiftLength) ∧
  s.clock.pos.shift ≤ u24Max ∧ (s.clock.set = false → s.clock.pos = ⟨0, 0⟩) ∧
  (s.running = true → s.clock.set = true)

/-- Position `p` is at or ahead of position `q` (R46). -/
def ClockPos.notBehind (p q : ClockPos) : Prop := q.shift < p.shift ∨ (q.shift = p.shift ∧ q.time ≤ p.time)

/-! ### Peers and net state (R58, R61, R62, R69, R70, R74) -/

/-- A peer entry whose state follows its bucket and whose miss timer runs in every state but NEVER_HEARD and
LOST. -/
def Peer.sound (p : Peer) : Prop :=
  match p.state with
  | .neverHeard => p.bucket = 0 ∧ p.missTimer = none
  | .present => p.bucket ≤ 2 ∧ p.missTimer.isSome = true
  | .fading => within 3 7 p.bucket ∧ p.missTimer.isSome = true
  | .lost => p.bucket = 8 ∧ p.missTimer = none

/-- Every entry is sound and the own entry is cleared; JOINED has a peer PRESENT or FADING, ISOLATED none
PRESENT; the listen timer runs exactly in LISTEN_IN; in STANDBY the table is clear. -/
def PeersSound (s : State) : Prop :=
  (∀ i : Fin 16, s.net.peers[i].sound) ∧
  (∀ c, s.store.block = some c → ∀ i : Fin 16, i.val + 1 = c.station → s.net.peers[i] = Peer.cleared) ∧
  (s.net.state = .joined → 0 < activePeers s.net.peers) ∧
  (s.net.state = .isolated → ∀ i : Fin 16, s.net.peers[i].state ≠ .present) ∧
  (s.net.listen.isSome = true ↔ s.net.state = .listenIn) ∧
  (s.net.state = .standby → ∀ i : Fin 16, s.net.peers[i] = Peer.cleared)

/-! ### The Pit Net Controller (R85, R90, R93, R95, R98) -/

/-- The vehicle of a tally on air. -/
def OnAirKind.vehicle : OnAirKind → Option Nat
  | .beacon => none
  | .fromQueue v => some v
  | .refresh v _ => some v

/-- A vehicle number has an entry in the view. -/
def State.hasEntry (s : State) (v : Nat) : Prop := ∃ e ∈ s.view.entries, e.number = v

/-- The send queue names each vehicle once, only vehicles with an entry, each with a cover count below the
suppression threshold; the contention window is one of 16, 32, 64, 128 and 256; in STANDBY the transmitter is
idle with nothing due and its schedules stopped. -/
def RadioSound (s : State) : Prop :=
  (s.radio.queue.map (·.vehicle)).Nodup ∧
  (∀ q ∈ s.radio.queue, s.hasEntry q.vehicle ∧ ∃ c, s.store.block = some c ∧ q.cover < c.suppression) ∧
  s.radio.cw ∈ [16, 32, 64, 128, 256] ∧
  (∀ f, s.radio.tx = .sending f → ∀ v, f.kind.vehicle = some v → s.hasEntry v) ∧
  (s.net.state = .standby → s.radio.tx = .idle ∧ s.radio.dueBeacon = none ∧ s.radio.dueTally = none ∧
    s.radio.schedule = none ∧ s.radio.gapClock = none)

/-! ### The watch list (R40) -/

/-- Member order of the watch list: higher worst usage first, equal usages by ascending number (R40). -/
def WatchMember.before (a b : WatchMember) : Prop := ranksAhead a.usage a.vehicle b.usage b.vehicle = true

/-- The four conditions of R40 on a list and its overflow count, over the entries of the view: the members
stand in order, each is a qualifying vehicle with its worst usage and state, no more than 24; every qualifying
vehicle not listed stands behind every member, and there is one only when the list is full; the overflow count
is the number of qualifying vehicles not listed. -/
def WatchExact (c : ConfigBlock) (entries : List VehicleEntry) (w : WatchBlock) : Prop :=
  w.members.Pairwise WatchMember.before ∧ w.members.length ≤ watchRoom ∧
  (∀ m ∈ w.members, ∃ e ∈ entries, m = memberOf e ∧ c.warn ≤ e.worst) ∧
  (∀ e ∈ entries, c.warn ≤ e.worst → memberOf e ∉ w.members →
    w.members.length = watchRoom ∧ ∀ m ∈ w.members, m.before (memberOf e)) ∧
  w.overflow = (qualifying c entries).length - w.members.length

/-- The watch list is exact under the configuration in force, and empty without one. -/
def WatchSound (s : State) : Prop :=
  match s.store.block with
  | none => s.watch = { members := [], overflow := 0 }
  | some c => WatchExact c s.view.entries s.watch

/-! ### Terms of the statements -/

/-- Fewer than four responses are held, so a request is taken (R166). -/
def State.canAnswer (s : State) : Prop := s.link.responses.length < 4

/-- The state with one more response made (R166). -/
def State.respond (s : State) (kind : Nat) (r : Result) (payload : List Byte) : State :=
  { s with link := { s.link with responses := s.link.responses ++ [⟨kind, r, payload⟩] } }

/-- Fields of the given widths in bytes, one after another, each high byte first (R164). -/
def fieldBytes (fields : List (Nat × Nat)) : List Byte := fields.flatMap fun x => beBytes x.1 x.2

/-- The commands queue, the configuration, the view, the watch list, the clock, the peer table and the radio
stand as before. -/
def KeepsStation (s t : State) : Prop :=
  t.pending = s.pending ∧ t.store = s.store ∧ t.view = s.view ∧ t.watch = s.watch ∧ t.clock = s.clock ∧
    t.net = s.net ∧ t.radio = s.radio

/-- The field lines, the hoses and the record queue stand as before. -/
def KeepsForecourt (s t : State) : Prop :=
  t.field = s.field ∧ t.hoses = s.hoses ∧ t.records = s.records

/-- A hose stands as before but for its guard counter. -/
def Hose.same (x y : Hose) : Prop :=
  x.ctl = y.ctl ∧ x.meter = y.meter ∧ x.health = y.health ∧ x.nozzle = y.nozzle ∧
    x.meterInput = y.meterInput

/-- The notice of a source was raised (R167): pending when its entry is enabled, as it was otherwise. -/
def Raised (src : NoticeSource) (s t : State) : Prop :=
  t.notices.entries[src.index].pending =
    (s.notices.entries[src.index].pending || s.notices.entries[src.index].enabled)

/-! ### The configuration block (Table 11-5, R172) -/

/-- The value of the field with an index of Table 11-5 in the bytes of the two parts: all its bytes FFh stand for
the default, where the field has one (R172). The columns of the table are `blockFields`. -/
def fieldValue (part1 part2 : List Byte) (index : Nat) : Nat :=
  match blockFields[index - 1]? with
  | none => 0
  | some f =>
    let offset := ((blockFields.take (index - 1)).map (·.width)).sum
    let raw := fieldAt offset f.width (part1 ++ part2)
    if raw = 256 ^ f.width - 1 then f.preset.getD raw else raw

/-- A cross-check of R172 on the class groups that fails, and the index that it names. -/
def ClassNamed (v : Nat → Nat) (k : Fin 8) (index : Nat) : Prop :=
  (index = 49 + 13 * k.val ∧
    (v (49 + 13 * k.val) < v (48 + 13 * k.val) ∨ v (48 + 13 * k.val) = 0 ∧ v (49 + 13 * k.val) ≠ 0)) ∨
  (index = 48 + 13 * k.val ∧ ∃ i : Fin 8, i < k ∧
    (v (48 + 13 * i.val), v (49 + 13 * i.val)) ≠ (0, 0) ∧ (v (48 + 13 * k.val), v (49 + 13 * k.val)) ≠ (0, 0) ∧
    ∃ n, v (48 + 13 * i.val) ≤ n ∧ n ≤ v (49 + 13 * i.val) ∧
      v (48 + 13 * k.val) ≤ n ∧ n ≤ v (49 + 13 * k.val)) ∨
  (index = 51 + 13 * k.val ∧ v (51 + 13 * k.val) < v 38)

/-- The validation of two parts names an index: the field is outside its range or has all its bytes FFh and no
default, or a cross-check fails (R172). -/
def FieldNamed (part1 part2 : List Byte) (index : Nat) : Prop :=
  (1 ≤ index ∧ ∃ f, blockFields[index - 1]? = some f ∧
    (fieldValue part1 part2 index < f.low ∨ f.high < fieldValue part1 part2 index ∨
      f.preset = none ∧ fieldValue part1 part2 index = 256 ^ f.width - 1)) ∨
  (index = 40 ∧ fieldValue part1 part2 40 % 60 ≠ 0) ∨
  ∃ k : Fin 8, ClassNamed (fieldValue part1 part2) k index

/-- A configuration holds the values of the fields of Table 11-5, each under its name. -/
def InstalledFrom (v : Nat → Nat) (c : ConfigBlock) : Prop :=
  c.station = v 1 ∧ (∀ h : Fin 4, c.fitted[h] = (v 2).testBit h.val) ∧
  (∀ h : Fin 4, c.nozzleHigh[h] = (v 3).testBit h.val) ∧
  (∀ h : Fin 4, c.meterHigh[h] = (v 3).testBit (4 + h.val)) ∧ c.stopHigh = (v 3).testBit 8 ∧
  c.nozzleFilter = v 4 ∧ c.stopFilter = v 5 ∧ c.meterFilter = v 6 ∧
  (∀ h : Fin 4, c.pulseStep[h] = v (7 + h.val)) ∧
  (∀ h : Fin 4, (v (11 + h.val) = 0 → c.edgeMode[h] = .rising) ∧
    (v (11 + h.val) = 1 → c.edgeMode[h] = .falling) ∧ (v (11 + h.val) = 2 → c.edgeMode[h] = .both)) ∧
  (∀ h : Fin 4, c.maxFlow[h] = v (15 + h.val)) ∧ (∀ h : Fin 4, c.slowFlow[h] = v (19 + h.val)) ∧
  c.settleTime = v 23 ∧ c.slowdown = v 24 ∧ c.overrunWindow = v 25 ∧ c.overrunAllowance = v 26 ∧
  c.authTime = v 27 ∧ c.startTime = v 28 ∧ c.noFlowTime = v 29 ∧ c.primeTime = v 30 ∧
  c.healthThreshold = v 31 ∧ c.dripVolume = v 32 ∧ c.warn = v 33 ∧ c.grace = v 34 ∧ c.holdCap = v 35 ∧
  c.hourTolerance = v 36 ∧ c.fuelTolerance = v 37 ∧ c.minimumIssue = v 38 ∧ c.netCap = v 39 ∧
  c.shiftLength = v 40 ∧ c.beaconInterval = v 41 ∧ c.baseGap = v 42 ∧ c.refreshGap = v 43 ∧
  c.keyUpDelay = v 44 ∧ c.listenInTime = v 45 ∧ c.rejoinTime = v 46 ∧ c.suppression = v 47 ∧
  (∀ k : Fin 8, c.classes[k].low = v (48 + 13 * k.val) ∧ c.classes[k].high = v (49 + 13 * k.val) ∧
    c.classes[k].allowance = v (50 + 13 * k.val) ∧ c.classes[k].tank = v (51 + 13 * k.val) ∧
    c.classes[k].maxBurn = v (52 + 13 * k.val) ∧
    (∀ i : Fin 4, c.classes[k].hoursInterval[i] = v (53 + 13 * k.val + i.val)) ∧
    ∀ i : Fin 4, c.classes[k].fuelInterval[i] = v (57 + 13 * k.val + i.val))

/-! ### Completions (R11, R140, R146) -/

/-- A hose whose issue RESTART completes: in STARTING, FLOWING, SLOWING or CLOSING (R146). -/
def State.completesAtRestart (s : State) (h : Fin 4) : Bool :=
  (s.hose h).ctl.state.reserved && (s.hose h).ctl.state != .authorized

/-- The record of the issue of a hose completed by RESTART, the n-th of them, its volumes as the meter has counted
them (R121, R146, R160). -/
def restartRecord (s : State) (n : Nat) (h : Fin 4) (x : IssueContext) : IssueRecord :=
  { number := (s.records.next + n) % 65536, hose := h.val + 1, vehicle := x.vehicle, cls := x.cls
    authorised := x.authorised, completed := s.clock.pos, limit := x.limit
    delivered := (s.hose h).meter.delivered, overrun := (s.hose h).meter.delivered - x.limit, bound := x.bound
    endReason := some .restart, serviceState := x.serviceState, netState := x.netState, hours := x.hours
    totaliser := x.totaliser, hoursFlag := x.hoursFlag, totaliserFlag := x.totaliserFlag }

/-- A volume finds no place in the origin list of an entry: the own entry is absent and the list is full (R11). -/
def VehicleEntry.noPlace (station tag : Nat) (e : VehicleEntry) : Prop :=
  amountOf station tag e.origins = none ∧ originRoom ≤ e.origins.length

/-- An entry after a delivered volume above 0 was charged to it: the own amount grows, up to 4,294,967,295, or is
inserted; the other amounts and fields stand, and the usage is that of its registers (R11). -/
def ChargedTo (c : ConfigBlock) (tag delivered : Nat) (e e' : VehicleEntry) : Prop :=
  amountOf c.station tag e'.origins = some (match amountOf c.station tag e.origins with
    | none => delivered
    | some a => min 4294967295 (a + delivered)) ∧
  (∀ st k, ¬ (st = c.station ∧ k = tag) → amountOf st k e'.origins = amountOf st k e.origins) ∧
  e'.hours = e.hours ∧ e'.totaliser = e.totaliser ∧ e'.services = e.services ∧ e'.bar = e.bar ∧
  withUsage c e' = e'

/-! ### Readings at a request (R27 to R29, R128) -/

/-- The seconds from a stamp to a clock position, 0 when the stamp is ahead (R27). -/
def elapsedSeconds (shiftLength : Nat) (now stamp : ClockPos) : Nat :=
  (max 0 (((now.shift : Int) - stamp.shift) * shiftLength + ((now.time : Int) - stamp.time))).toNat

/-- The highest hours reading that a present register accepts (R28). -/
def hoursTop (c : ConfigBlock) (now : ClockPos) (r : Reading) : Nat :=
  r.value + ((elapsedSeconds c.shiftLength now r.stamp + 359) / 360 + c.hourTolerance)

/-- The highest totaliser reading that a present register accepts (R29). -/
def totaliserTop (c : ConfigBlock) (cls : Fin 8) (now : ClockPos) (r : Reading) : Nat :=
  r.value + ((c.classes[cls].maxBurn * elapsedSeconds c.shiftLength now r.stamp + 3599) / 3600 +
    c.fuelTolerance)

/-- The readings that a request may carry (R26). -/
def ReadingsInRange (hours flag total : Nat) : Prop :=
  hours ≤ 9999999 ∧ flag ≤ 1 ∧ (flag = 1 → total ≤ 99999999)

/-- A presentation of vehicle `v` at hose `h` passes checks 1 to 12 of Table 8-3, but for the ranges of its
readings; `e` is the entry that it works on. -/
def PassesToReadings (s : State) (c : ConfigBlock) (h : Fin 4) (v : Nat) (e : VehicleEntry) : Prop :=
  s.net.state ≠ .standby ∧ s.store.block = some c ∧ within 1 4095 v ∧ c.fitted[h] = true ∧
  (s.hose h).ctl.state = .idle ∧ (s.hose h).nozzle.active = false ∧ s.field.stop.active = false ∧
  s.records.records.length + s.records.reservations < 32 ∧
  (∃ cls, classOf c v = some cls ∧ e = s.entryOrNew v cls) ∧
  (∀ k : Fin 4, ∀ x, s.context k = some x → x.vehicle ≠ v) ∧
  (s.entry v = none → s.view.entries.length < 256) ∧ e.bar.barred = false

/-! ### Tallies (R18, R94) -/

/-- The tally, as received, holds all that the local entry holds (R18). -/
def TallyCovers (shift : Nat) (f : TallyFrame) (e : VehicleEntry) : Prop :=
  (f.shift = shift ∨ e.origins = []) ∧
  (∀ o ∈ e.origins, ∃ r ∈ f.origins, r.station = o.station ∧ r.tag = o.tag ∧ o.amount ≤ r.amount) ∧
  (∀ l, e.hours = some l → ∃ r, f.hours = some r ∧ l.value ≤ r.value) ∧
  (∀ l, e.totaliser = some l → ∃ r, f.totaliser = some r ∧ l.value ≤ r.value) ∧
  (∀ i : Fin 4, e.services[i].epoch < f.services[i].epoch ∨
    e.services[i].epoch = f.services[i].epoch ∧ e.services[i].origin ≤ f.services[i].origin) ∧
  (e.bar.version < f.bar.version ∨
    e.bar.version = f.bar.version ∧ e.bar.origin ≤ f.bar.origin)

/-- The send queue after vehicle `v` changed: its cover count 0, at the tail if it was absent (R94). -/
def queueWith (v : Nat) (q : List QueueItem) : List QueueItem :=
  if ∃ x ∈ q, x.vehicle = v then q.map fun x => if x.vehicle = v then ⟨v, 0⟩ else x
  else q ++ [⟨v, 0⟩]

/-- The send queue after an unchanged vehicle `v` was covered: its cover count one higher, and out of the
queue at the suppression threshold (R95). -/
def queueHeard (threshold v : Nat) (q : List QueueItem) : List QueueItem :=
  q.filterMap fun x =>
    if x.vehicle = v then (if threshold ≤ x.cover + 1 then none else some ⟨v, x.cover + 1⟩) else some x

/-! ### Frames that fail a field check (Table 5-4, R83) -/

/-- A register of a TALLY payload fails: its flag, its reading, or the time of its stamp. -/
def RegisterBad (shiftLength offset width top : Nat) (p : List Byte) : Prop :=
  1 < fieldAt offset 1 p ∨
    fieldAt offset 1 p = 1 ∧
      (top < fieldAt (offset + 1) width p ∨ shiftLength ≤ fieldAt (offset + 4 + width) 3 p)

/-- A service entry of a TALLY payload fails: its origin, its hours, its flag, or its totaliser. -/
def ServiceBad (offset : Nat) (p : List Byte) : Prop :=
  16 < fieldAt (offset + 2) 1 p ∨ (fieldAt (offset + 2) 1 p = 0 ∧ 0 < fieldAt offset 2 p) ∨
    9999999 < fieldAt (offset + 3) 3 p ∨ 1 < fieldAt (offset + 6) 1 p ∨
    fieldAt (offset + 6) 1 p = 1 ∧ 99999999 < fieldAt (offset + 7) 4 p

/-- Some field of a TALLY payload of a right length is outside Table 5-4. -/
def TallyBad (shiftLength : Nat) (p : List Byte) : Prop :=
  1 < fieldAt 5 1 p ∨ 16 < fieldAt 8 1 p ∨ RegisterBad shiftLength 9 3 9999999 p ∨
  RegisterBad shiftLength 19 4 99999999 p ∨ (∃ i : Fin 4, ServiceBad (30 + 11 * i.val) p) ∨
  ∃ j < fieldAt 74 1 p, fieldAt (75 + 7 * j) 1 p = 0 ∨ 16 < fieldAt (75 + 7 * j) 1 p ∨
    fieldAt (76 + 7 * j) 2 p = 0

/-! ### The send decision (R85, R86, R97) -/

/-- The entry whose turn it is in the refresh rotation: the lowest number above the pointer, or the lowest of
all when none lies above it (R97). -/
def NextInRotation (pointer : Nat) (entries : List VehicleEntry) (e : VehicleEntry) : Prop :=
  e ∈ entries ∧
    ((pointer < e.number ∧ ∀ x ∈ entries, pointer < x.number → e.number ≤ x.number) ∨
      ((∀ x ∈ entries, x.number ≤ pointer) ∧ ∀ x ∈ entries, e.number ≤ x.number))

/-- A frame is due that the station can make: a beacon, or a tally of the queue's head, which has an entry, or
with the queue empty of some entry of the view (R85, R86). -/
def CanSend (s : State) : Prop :=
  s.radio.dueBeacon.isSome = true ∨
    (s.radio.dueTally.isSome = true ∧
      ((∃ q rest e, s.radio.queue = q :: rest ∧ s.entry q.vehicle = some e) ∨
        (s.radio.queue = [] ∧ s.view.entries ≠ [])))

/-- The radio with a frame of the given kind and body on air: preamble and sync word before the body, KEY just
asserted, CW at 16 and the receiver hunting (R76, R81, R86). -/
def OnAirWith (kind : OnAirKind) (body : List Byte) (r : RadioBlock) : RadioBlock :=
  { r with
    tx := .sending { kind := kind, elapsed := 0
                     bytes := [0x55#8, 0x55#8, 0x55#8, 0x55#8, 0xB3#8, 0x4E#8] ++ body }
    cw := 16, receiver := .hunt 0 }

/-- `t` is `u` after the send decision (R86): the beacon when one is due; otherwise the tally of the queue's
head, which leaves the queue; with the queue empty the tally of the entry next in the rotation, to which the
pointer moves. The frame sent is no longer due, and the gap clock stands while a tally is on air
(notes/assumptions/28.md). -/
def SentAtOpportunity (c : ConfigBlock) (u t : State) : Prop :=
  (u.radio.dueBeacon.isSome = true ∧
    t = u.mapRadio fun r => OnAirWith .beacon (beaconBody c.station u.clock.pos c.beaconInterval)
      { r with dueBeacon := none }) ∨
  (u.radio.dueBeacon = none ∧ u.radio.dueTally.isSome = true ∧
    ((∃ q rest e, u.radio.queue = q :: rest ∧ u.entry q.vehicle = some e ∧
        t = u.mapRadio fun r =>
          OnAirWith (.fromQueue q.vehicle) (tallyBody c.station (tallyOf u.clock.pos.shift e))
            { r with dueTally := none, gapClock := none, queue := rest }) ∨
      (∃ e, u.radio.queue = [] ∧ NextInRotation u.radio.refresh u.view.entries e ∧
        t = u.mapRadio fun r =>
          OnAirWith (.refresh e.number u.radio.refresh)
            (tallyBody c.station (tallyOf u.clock.pos.shift e))
            { r with dueTally := none, gapClock := none, refresh := e.number })))

/-! ### Lines and receivers (R81, R100, R165) -/

/-- No command waits and no event of the part has come about, so that a step is a tick of 10 µs. -/
def AtRest (s : State) : Prop := s.pending = [] ∧ candidates s = []

/-- An event of the part has come about, and a step with no command waiting may take it. -/
def ComesAbout (c : Instr) (s : State) : Prop := (c, s) ∈ candidates s

/-- A timer a tick later; a stopped one stays stopped. -/
def tickDown (timer : Option Nat) : Option Nat := timer.map (· - 1)

/-- The bits of a byte in the order sent, most significant first (R75). -/
def bitsOf (b : Byte) : List Bool := [7, 6, 5, 4, 3, 2, 1, 0].map b.getLsbD

/-- The radio receiver after bits, and what it made of the bodies among them, in order (R81). -/
def takeBits (shiftLength : Nat) (r : RadioReceiver) (bits : List Bool) : RadioReceiver × List BodyCheck :=
  bits.foldl (fun a b =>
    ((a.1.takeBit shiftLength b).1, a.2 ++ (a.1.takeBit shiftLength b).2)) (r, [])

/-- The link receiver after bytes, and what it made of them, in order (R165). -/
def takeBytes (r : LinkReceiver) (bytes : List LineByte) : LinkReceiver × List Instr :=
  bytes.foldl (fun a b => ((a.1.takeByte b).1, a.2 ++ (a.1.takeByte b).2)) (r, [])

/-- The run count of a filter after a sample: 0 when it equals the filtered state, one more when it differs
(R100). -/
def runAfter (sample active : Bool) (run : Nat) : Nat := if sample = active then 0 else run + 1

/-! ### Kinds of commands -/

/-- The requests of the terminal link (Table 11-1), with the requests of unknown kind. -/
def isRequest : Instr → Bool
  | .loadConfig _ _ => true
  | .start _ _ => true
  | .standby => true
  | .restart => true
  | .readStatus => true
  | .presentVehicle _ _ _ _ _ _ => true
  | .stopHose _ => true
  | .readHose _ => true
  | .clearHoseFault _ => true
  | .readVehicle _ => true
  | .barVehicle _ => true
  | .clearBar _ => true
  | .recordService _ _ _ _ _ => true
  | .stageAllowance _ _ => true
  | .clearStaged _ => true
  | .readWatchList => true
  | .readOldest => true
  | .releaseRecord _ => true
  | .readPeers _ => true
  | .readNotices => true
  | .ackNotice _ => true
  | .setNoticeEnables _ => true
  | .unknownRequestKind _ => true
  | _ => false

/-- A LOAD_CONFIG command. -/
def isLoadConfig : Instr → Bool
  | .loadConfig _ _ => true
  | _ => false

/-! ### All of it -/

/-- A station in which every relation above holds. -/
def Safe (s : State) : Prop :=
  ConfigSound s ∧ OutputsFollow s ∧ IssuesAccounted s ∧ HealthSound s ∧ NoticesTrue s ∧ ViewOrdered s ∧
  ClockSound s ∧ PeersSound s ∧ RadioSound s ∧ WatchSound s ∧ GuardSound s

end Sys2Proof.Machine
end

