-- ==== Sys2Proof/Certificates/Slice0/Obligations.lean ====
section
/-! DEFINITION. Sys2Proof/Certificates/Slice0/Obligations.lean: the statements for the provers. Each docstring
names the rules of spec/ it formalises. `exec c s = .next t` says that command `c` completes in state `s`. -/

open Sys2Proof Sys2Proof.Machine

/-! ### The queue of commands -/

/-- A step with a command at the front of the queue is that command on the state with the queue's rest. With no
command waiting it is one of the events of the part that have come about, as long as there is one; which of them is
free (notes/assumptions/2.md and 5.md). -/
def Obligations.StepTakesFrontCommand : Prop :=
  (∀ (c : Instr) (rest : List Instr) (s : State),
    step { s with pending := c :: rest } = exec c { s with pending := rest }) ∧
  ∀ s : State, s.pending = [] → candidates s ≠ [] →
    ∃ x ∈ candidates s, step s =
      exec x.1 { x.2 with model := { x.2.model with orders := x.2.model.orders + 1 } }

/-- Every command, in every state, answers a next state with the queue of waiting commands as it was. -/
def Obligations.CommandsKeepQueue : Prop :=
  ∀ (c : Instr) (s : State), ∃ t, exec c s = .next t ∧ t.pending = s.pending

/-- A request that is refused changes nothing but to make its response; a refused LOAD_CONFIG may discard the
held parts, and nothing else (R166, R171, R172). -/
def Obligations.RefusedRequestChangesNothing : Prop :=
  ∀ (c : Instr) (s : State), isRequest c = true → s.canAnswer →
    ∃ t kind r payload, exec c s = .next (t.respond kind r payload) ∧
      t.link = s.link ∧
      (r ≠ .ok → isLoadConfig c = false → t = s) ∧
      (r ≠ .ok → t = { s with store := t.store } ∧ t.store.block = s.store.block ∧
        t.store.startTag = s.store.startTag)

/-! ### Station requests (chapter 11) -/

/-- POWER_ON: every block takes its power-on state, and a start tag in 1..65535 is drawn (R177 and the tables
R24, R45, R57, R74, R98, R101, R110, R125, R148, R156, R163, R170 name). That the active allowances read 0 and
that responses not yet sent whole are dropped are the model's choices (notes/assumptions/17.md and 33.md). -/
def Obligations.PowerOnState : Prop :=
  ∀ s : State, ∃ t, exec .powerOn s = .next t ∧ t.pending = s.pending ∧
    t.store.block = none ∧ t.store.part1 = none ∧ t.store.part2 = none ∧
    within 1 65535 t.store.startTag ∧
    t.view = { entries := [], originFull := 0, staleShift := 0, viewFull := 0, noClass := 0 } ∧
    t.watch = { members := [], overflow := 0 } ∧
    t.clock.set = false ∧ t.clock.pos = ⟨0, 0⟩ ∧ t.clock.held = false ∧ t.clock.reject = 0 ∧
    (∀ k : Fin 8, t.clock.active[k] = 0 ∧ t.clock.staged[k] = none) ∧
    t.net.state = .standby ∧ t.net.listen = none ∧ t.net.clash = 0 ∧
    (∀ i : Fin 16, t.net.peers[i] =
      { state := .neverHeard, bucket := 0, interval := 0, missTimer := none, lastHeard := ⟨0, 0⟩,
        frames := 0, since := none, rejoins := 0 }) ∧
    t.radio.queue = [] ∧ t.radio.refresh = 0 ∧ t.radio.cw = 16 ∧ t.radio.tx = .idle ∧
    t.radio.dueBeacon = none ∧ t.radio.dueTally = none ∧ t.radio.schedule = none ∧
    t.radio.gapClock = none ∧ t.radio.receiver = .hunt 0 ∧
    t.radio.badCrc = 0 ∧ t.radio.malformed = 0 ∧ t.radio.abandoned = 0 ∧
    t.field.pumpRun = false ∧ t.field.stop.active = false ∧ t.field.stop.run = 0 ∧
    (∀ h : Fin 4,
      (t.hose h).ctl =
        { state := .outOfService, context := none, authTimer := none, primeTimer := none
          startTimer := none, noFlowTimer := none, overrunTimer := none
          mainValve := false, slowValve := false } ∧
      (t.hose h).nozzle.active = false ∧ (t.hose h).nozzle.run = 0 ∧
      (t.hose h).meterInput.active = none ∧ (t.hose h).meterInput.run = 0 ∧
      (t.hose h).meter =
        { fraction := 512, delivered := 0, overrun := 0, overrunOver := false, interval := 65535
          firstPulse := false, lastFlow := 0, fastCount := 0, slowCount := 0, settle := none
          creepFraction := 512, unattributed := 0, creep := none } ∧
      (t.hose h).health = { count := 0, frozen := false, accumulator := 0 } ∧
      (t.hose h).guardCount = 0) ∧
    t.records = { records := [], reservations := 0, next := 0 } ∧
    t.link.receiver = .hunt ∧ t.link.responses = [] ∧ t.link.errors = 0 ∧
    t.notices.attention = false ∧
    (∀ i : Fin 12, t.notices.entries[i] =
      { enabled := true, pending := false, awaiting := false, condition := false })

/-- LOAD_CONFIG in STANDBY: a first part is held and the other awaited; with both parts held, a block that
fails its validation is refused with the lowest index named, both parts discarded and the block in force kept;
in a running station the request is refused, and a part byte that does not match its byte count is too (R171,
R172). The index named is the lowest that a range of Table 11-5 or a cross-check of R172 names, none is named when
every field passes, the defaults that all bytes FFh stand for are those of the table, and a block in range passes.
That the cross-checks are made on the values with defaults taken, and which field is named for classes that overlap
or stand upside down, is the model's reading (notes/assumptions/15.md). -/
def Obligations.LoadConfigParts : Prop :=
  (∀ p1 p2 : List Byte, p1.length = 72 → p2.length = 248 →
    (∀ i, partsFailure p1 p2 = some i ↔
      FieldNamed p1 p2 i ∧ ∀ j, j < i → ¬ FieldNamed p1 p2 j) ∧
    (partsFailure p1 p2 = none ↔ ∀ j, ¬ FieldNamed p1 p2 j) ∧
    ((configOfParts p1 p2).inRange → fieldValue p1 p2 2 ≤ 15 → fieldValue p1 p2 3 ≤ 511 →
      (∀ h : Fin 4, fieldValue p1 p2 (11 + h.val) ≤ 2) → partsFailure p1 p2 = none)) ∧
  blockFields.length = 151 ∧ ((blockFields.take 47).map (·.width)).sum = 72 ∧
  ((blockFields.drop 47).map (·.width)).sum = 248 ∧
  (blockFields.zipIdx 1).filterMap (fun x => x.1.preset.map fun d => (x.2, d)) =
    [(4, 30), (5, 5), (6, 3), (23, 3), (24, 20), (25, 2), (26, 30), (27, 90), (28, 15), (29, 30), (30, 3),
     (31, 6), (32, 5000), (33, 900), (34, 1100), (36, 10), (37, 50), (38, 10), (40, 43200), (41, 10),
     (42, 250), (43, 3), (44, 8), (45, 90), (46, 20), (47, 2)] ∧
  ∀ (s : State) (bytes : List Byte), s.canAnswer →
    (s.net.state = .standby → bytes.length = 72 → s.store.part2 = none →
      exec (.loadConfig 1 bytes) s = .next
        ({ s with store := { s.store with part1 := some bytes } }.respond 0x01 .ok [0x01#8])) ∧
    (s.net.state = .standby → bytes.length = 248 → s.store.part1 = none →
      exec (.loadConfig 2 bytes) s = .next
        ({ s with store := { s.store with part2 := some bytes } }.respond 0x01 .ok [0x02#8])) ∧
    (∀ p2 i, s.net.state = .standby → bytes.length = 72 → s.store.part2 = some p2 →
      partsFailure bytes p2 = some i →
      exec (.loadConfig 1 bytes) s = .next
        ({ s with store := { s.store with part1 := none, part2 := none } }.respond 0x01 .badConfig
          (fieldBytes [(1, i)]))) ∧
    (∀ p1 i, s.net.state = .standby → bytes.length = 248 → s.store.part1 = some p1 →
      partsFailure p1 bytes = some i →
      exec (.loadConfig 2 bytes) s = .next
        ({ s with store := { s.store with part1 := none, part2 := none } }.respond 0x01 .badConfig
          (fieldBytes [(1, i)]))) ∧
    (∀ part, s.net.state ≠ .standby → bytes.length = 72 ∨ bytes.length = 248 →
      exec (.loadConfig part bytes) s = .next (s.respond 0x01 .notRunning [])) ∧
    (∀ part, s.net.state = .standby → ¬ (part = 1 ∧ bytes.length = 72) →
      ¬ (part = 2 ∧ bytes.length = 248) →
      exec (.loadConfig part bytes) s = .next (s.respond 0x01 .badRequest []))

/-- LOAD_CONFIG completing a valid block: the block is installed, each field of Table 11-5 under its name and in its
range, and the effects of R172 follow: view, watch list and send queue emptied and OVERDUE_PRESENT made false (R24,
R45, R98), allowances taken (R53), the clock kept or moved as R56 gives, every filter started again and STOP_ACTIVE
false (R101, R107), each hose as R148 and R156 give with HOSE_OUT re-evaluated, valves and pump off (R110); records,
peers, start tag, the counters of the view, the meters, the accumulators and the guard counters are kept. The clause
of the last shift is the model's choice (notes/assumptions/13.md), and the order of the bits in the fitted mask and
in the polarity word is the model's reading (notes/assumptions/14.md). -/
def Obligations.LoadConfigInstalls : Prop :=
  ∀ (s : State) (p1 p2 : List Byte) (cmd : Instr), s.canAnswer → s.net.state = .standby →
    p1.length = 72 → p2.length = 248 → partsFailure p1 p2 = none →
    (cmd = .loadConfig 1 p1 ∧ s.store.part2 = some p2) ∨
      (cmd = .loadConfig 2 p2 ∧ s.store.part1 = some p1) →
    ∃ t c, exec cmd s = .next t ∧ c = configOfParts p1 p2 ∧ c.inRange ∧
      InstalledFrom (fieldValue p1 p2) c ∧
      t.store = { block := some c, part1 := none, part2 := none, startTag := s.store.startTag } ∧
      t.view = { s.view with entries := [] } ∧ t.watch = { members := [], overflow := 0 } ∧
      t.radio = { s.radio with queue := [], refresh := 0 } ∧ t.net = s.net ∧ t.records = s.records ∧
      (∀ k : Fin 8, t.clock.active[k] = c.classes[k].allowance ∧ t.clock.staged[k] = none) ∧
      t.clock.set = s.clock.set ∧ t.clock.reject = s.clock.reject ∧
      t.clock.pos = (if s.clock.set = false ∨ s.clock.pos.time < c.shiftLength then s.clock.pos
        else if s.clock.held = true ∨ s.clock.pos.shift = 16777215 then
          ⟨s.clock.pos.shift, c.shiftLength - 1⟩
        else ⟨s.clock.pos.shift + 1, 0⟩) ∧
      (∀ h : Fin 4,
        ((t.hose h).health.frozen = true ↔
          (s.hose h).health.frozen = true ∨ c.healthThreshold ≤ (s.hose h).health.count) ∧
        (t.hose h).health.count = (s.hose h).health.count ∧
        (t.hose h).health.accumulator = (s.hose h).health.accumulator ∧
        (t.hose h).ctl = { (s.hose h).ctl with
          state := if c.fitted[h] = true ∧ (t.hose h).health.frozen = false then .idle
            else .outOfService
          mainValve := false
          slowValve := false } ∧
        (t.hose h).nozzle = { (s.hose h).nozzle with active := false, run := 0 } ∧
        (t.hose h).meterInput = { (s.hose h).meterInput with active := none, run := 0 } ∧
        (t.hose h).meter = (s.hose h).meter ∧ (t.hose h).guardCount = (s.hose h).guardCount) ∧
      t.field.stop = { s.field.stop with active := false, run := 0 } ∧ t.field.pumpRun = false ∧
      t.notices.entries[9].condition = false ∧ t.notices.entries[11].condition = false ∧
      (t.notices.entries[8].condition = true ↔ ∃ h : Fin 4, (t.hose h).health.frozen = true) ∧
      (∀ j : Fin 12, j ≠ 8 → j ≠ 9 → j ≠ 11 → t.notices.entries[j] = s.notices.entries[j]) ∧
      t.link.responses = s.link.responses ++ [⟨0x01, .ok, [0x00#8]⟩]

/-- START: its refusals in order, and its acceptance: the clock set, moved forward or kept (R48), the held parts
discarded, the peer table cleared and LISTEN_IN entered with the listen-in time, NET_STATE raised (R71), the
schedules started, CW 16 (R98), on a shift change the origin lists emptied and the staged allowances made active
(R51), the guard taken as matched and evaluated, with its counters and its notice (R106), and the response (R173).
That a shift number the field cannot carry is refused BAD_REQUEST is the model's choice (notes/assumptions/11.md). -/
def Obligations.StartRequest : Prop :=
  ∀ (s : State) (shift time : Nat), s.canAnswer →
    (s.net.state ≠ .standby → exec (.start shift time) s = .next (s.respond 0x02 .notRunning [])) ∧
    (s.net.state = .standby → s.store.block = none →
      exec (.start shift time) s = .next (s.respond 0x02 .noConfig [])) ∧
    (∀ c, s.net.state = .standby → s.store.block = some c → c.shiftLength ≤ time →
      exec (.start shift time) s = .next (s.respond 0x02 .badRequest [])) ∧
    (∀ c, s.net.state = .standby → s.store.block = some c → time < c.shiftLength → shift ≤ 16777215 →
      ∃ t d, exec (.start shift time) s = .next t ∧
        t.clock.set = true ∧
        t.clock.pos = (if s.clock.set = false ∨ ClockPos.ahead ⟨shift, time⟩ s.clock.pos = true then
          ⟨shift, time⟩ else s.clock.pos) ∧
        t.store = { s.store with part1 := none, part2 := none } ∧
        t.net = { state := .listenIn, listen := some (c.listenInTime * 100000),
                  peers := Vector.replicate 16 Peer.cleared, clash := s.net.clash } ∧
        Raised .netState s t ∧
        t.radio = { s.radio with tx := .idle, cw := 16, schedule := some (d * 100), gapClock := some 0 } ∧
        d ≤ 1000 ∧ t.watch = s.watch ∧ t.records = s.records ∧
        (s.clock.set = true → s.clock.pos.shift < shift → ∀ e ∈ t.view.entries, e.origins = []) ∧
        (s.clock.set = true → s.clock.pos.shift < shift → ∀ k : Fin 8,
          t.clock.active[k] = s.clock.staged[k].getD s.clock.active[k] ∧ t.clock.staged[k] = none) ∧
        (s.clock.set = false ∨ shift ≤ s.clock.pos.shift → t.view = s.view ∧
          t.clock.active = s.clock.active ∧ t.clock.staged = s.clock.staged) ∧
        (∀ h : Fin 4, (t.hose h).same (s.hose h)) ∧
        (t.field.matched = true ↔ ∀ h : Fin 4, s.fitted h = true → (s.hose h).nozzle.active = true →
          (s.hose h).ctl.state ≠ .idle ∧ (s.hose h).ctl.state ≠ .outOfService) ∧
        (∀ h : Fin 4, (t.hose h).guardCount =
          if s.fitted h = true ∧ (s.hose h).nozzle.active = true ∧
              ((s.hose h).ctl.state = .idle ∨ (s.hose h).ctl.state = .outOfService) then
            min 65535 ((s.hose h).guardCount + 1)
          else (s.hose h).guardCount) ∧
        (t.field.matched = false → Raised .nozzleGuard s t) ∧
        (t.field.matched = true → t.notices.entries[2] = s.notices.entries[2]) ∧
        t.link.responses = s.link.responses ++
          [⟨0x02, .ok, fieldBytes [(3, t.clock.pos.shift), (3, t.clock.pos.time)]⟩])

/-- STANDBY: refused while a hose is active; in STANDBY it changes nothing; in a running station it clears the
peer table, stops the transmitter, the receiver and the schedules, and raises NET_STATE (R71, R98, R174); a tally
cut off on air returns to the head of the send queue unless its vehicle is queued, or puts the refresh pointer
back where it stood (R92). -/
def Obligations.StandbyRequest : Prop :=
  ∀ s : State, s.canAnswer →
    ((∃ h : Fin 4, (s.hose h).ctl.state ≠ .idle ∧ (s.hose h).ctl.state ≠ .outOfService) →
      exec .standby s = .next (s.respond 0x03 .hosesActive [])) ∧
    ((∀ h : Fin 4, (s.hose h).ctl.state = .idle ∨ (s.hose h).ctl.state = .outOfService) →
      (s.net.state = .standby → exec .standby s = .next (s.respond 0x03 .ok [])) ∧
      (s.net.state ≠ .standby → ∃ t, exec .standby s = .next t ∧
        t.net = { state := .standby, listen := none, peers := Vector.replicate 16 Peer.cleared,
                  clash := s.net.clash } ∧
        Raised .netState s t ∧
        t.radio.tx = .idle ∧ t.radio.cw = 16 ∧ t.radio.dueBeacon = none ∧ t.radio.dueTally = none ∧
        t.radio.schedule = none ∧ t.radio.gapClock = none ∧ t.radio.receiver = .hunt 0 ∧
        ((∀ f, s.radio.tx = .sending f → f.kind = .beacon) →
          t.radio.queue = s.radio.queue ∧ t.radio.refresh = s.radio.refresh) ∧
        (∀ f v, s.radio.tx = .sending f → f.kind = .fromQueue v →
          t.radio.refresh = s.radio.refresh ∧
          t.radio.queue = if ∃ q ∈ s.radio.queue, q.vehicle = v then s.radio.queue
            else ⟨v, 0⟩ :: s.radio.queue) ∧
        (∀ f v pointer, s.radio.tx = .sending f → f.kind = .refresh v pointer →
          t.radio.queue = s.radio.queue ∧ t.radio.refresh = pointer) ∧
        t.store = s.store ∧ t.view = s.view ∧ t.watch = s.watch ∧ t.clock = s.clock ∧
        KeepsForecourt s t ∧ t.link.responses = s.link.responses ++ [⟨0x03, .ok, []⟩]))

/-- RESTART, in a running station whose issues are accounted for and whose outputs follow its hoses: every
authorisation is cancelled, every issue in STARTING to CLOSING is completed with reason RESTART and recorded in
ascending hose number, the outputs turn off (R146), the radio and the peer table start afresh in LISTEN_IN (R71,
R92, R98), and the response carries the number of records committed (R175). Each completed issue is completed as
R140 says: its record holds its context and the volumes counted up to the RESTART (R160), its delivered volume is
charged as R11 says, an overrun over the allowance is a health event and the reason NO_START that RESTART replaced
is none, and an issue with no event drips its volume (R152). The notice flags are cleared and the enabled conditions
sampled first, the enables kept, and what RESTART itself raises is pending after it (R170). In STANDBY it is
refused. The origin-full counter at a delivered volume of 0 is the model's choice (notes/assumptions/29.md). -/
def Obligations.RestartRequest : Prop :=
  ∀ s : State, s.canAnswer →
    (s.net.state = .standby → exec .restart s = .next (s.respond 0x04 .notRunning [])) ∧
    (∀ c, s.net.state ≠ .standby → s.store.block = some c → IssuesAccounted s → OutputsFollow s →
      ∃ t new d, exec .restart s = .next t ∧
        t.net = { state := .listenIn, listen := some (c.listenInTime * 100000),
                  peers := Vector.replicate 16 Peer.cleared, clash := s.net.clash } ∧
        t.radio.queue = [] ∧ t.radio.refresh = 0 ∧ t.radio.cw = 16 ∧ t.radio.tx = .idle ∧
        t.radio.dueBeacon = none ∧ t.radio.dueTally = none ∧
        t.radio.schedule = some (d * 100) ∧ d ≤ 1000 ∧ t.radio.gapClock = some 0 ∧
        t.records.records = s.records.records ++ new ∧ t.records.reservations = 0 ∧
        new.map (·.hose) = (hoseIndices.filter fun h =>
          (s.hose h).ctl.state.reserved && (s.hose h).ctl.state != .authorized).map (·.val + 1) ∧
        (∀ r ∈ new, r.endReason = some .restart) ∧
        (s.records.next ≤ 65535 → t.records.next = (s.records.next + new.length) % 65536 ∧
          new = (hoseIndices.filter s.completesAtRestart).zipIdx.filterMap fun p =>
            (s.context p.1).map (restartRecord s p.2 p.1)) ∧
        (∀ w, (∀ h x, s.completesAtRestart h = true → s.context h = some x → x.vehicle ≠ w) →
          t.entry w = s.entry w) ∧
        ((∀ h j x y, h ≠ j → s.completesAtRestart h = true → s.completesAtRestart j = true →
            s.context h = some x → s.context j = some y → x.vehicle ≠ y.vehicle) →
          (∀ h x e delivered, s.completesAtRestart h = true → s.context h = some x →
            s.entry x.vehicle = some e → delivered = (s.hose h).meter.delivered →
            (delivered = 0 ∨ e.noPlace c.station s.store.startTag → t.entry x.vehicle = some e) ∧
            (0 < delivered → ¬ e.noPlace c.station s.store.startTag →
              ∃ e', t.entry x.vehicle = some e' ∧ ChargedTo c s.store.startTag delivered e e')) ∧
          ∀ full : List (Fin 4), full.Nodup →
            (∀ h, h ∈ full ↔ s.completesAtRestart h = true ∧ 0 < (s.hose h).meter.delivered ∧
              ∃ x e, s.context h = some x ∧ s.entry x.vehicle = some e ∧ e.noPlace c.station s.store.startTag) →
            s.view.originFull ≤ 65535 → t.view = { s.view with
              entries := t.view.entries, originFull := min 65535 (s.view.originFull + full.length) }) ∧
        (∀ h x delivered excess beyond health, s.completesAtRestart h = true → s.context h = some x →
          delivered = (s.hose h).meter.delivered → excess = delivered - x.limit →
          beyond = decide (c.overrunAllowance * 10 < excess) → health = (s.hose h).health →
          (t.hose h).meter = { (s.hose h).meter with
            overrun := excess, overrunOver := beyond, settle := none, fastCount := 0, slowCount := 0 } ∧
          (health.frozen = true → (t.hose h).health = health) ∧
          (health.frozen = false → beyond = true → health.count < 15 →
            (t.hose h).health = { health with
              count := health.count + 1, frozen := decide (c.healthThreshold ≤ health.count + 1) }) ∧
          (health.frozen = false → beyond = false → x.healthEvent = false → 0 < c.dripVolume →
            (t.hose h).health = { health with
              accumulator := (health.accumulator + delivered) % (c.dripVolume * 100)
              count := health.count - (health.accumulator + delivered) / (c.dripVolume * 100) }) ∧
          (beyond = false → x.healthEvent = true → (t.hose h).health = health) ∧
          ((s.hose h).nozzle.active = true → (t.hose h).ctl.state = .ended ∧
            t.context h = some { x with
              endReason := some .restart, delivered := delivered, overrun := excess
              healthEvent := x.healthEvent || beyond }) ∧
          ((s.hose h).nozzle.active = false → t.context h = none ∧ (t.hose h).ctl.state =
            if (t.hose h).health.frozen = true then .outOfService else .idle)) ∧
        (∀ h : Fin 4, (s.hose h).ctl.state = .authorized → t.context h = none ∧
          (t.hose h).ctl.authTimer = none ∧ (t.hose h).meter = (s.hose h).meter ∧
          (t.hose h).health = (s.hose h).health ∧ (t.hose h).ctl.state =
            if (s.hose h).health.frozen = true then .outOfService else .idle) ∧
        (∀ h : Fin 4, (s.hose h).ctl.state.reserved = false → (t.hose h).same (s.hose h)) ∧
        (∀ h : Fin 4, (t.hose h).ctl.state.reserved = false ∧
          (t.hose h).ctl.mainValve = false ∧ (t.hose h).ctl.slowValve = false) ∧
        t.field.pumpRun = false ∧ t.store = s.store ∧ t.clock = s.clock ∧
        (∀ i : Fin 12, t.notices.entries[i].enabled = s.notices.entries[i].enabled ∧
          t.notices.entries[i].awaiting = false) ∧
        t.notices.entries[0].pending = (s.notices.entries[0].enabled && !new.isEmpty) ∧
        t.notices.entries[3].pending =
          (s.notices.entries[3].enabled && decide (s.net.state ≠ .listenIn)) ∧
        (t.notices.entries[2].pending = true → s.notices.entries[2].enabled = true) ∧
        (∀ i : Fin 12, i = 1 ∨ i = 5 ∨ i = 6 ∨ i = 7 → t.notices.entries[i].pending = false) ∧
        (∀ i : Fin 12, i = 8 ∨ i = 9 ∨ i = 10 → t.notices.entries[i].pending =
          (t.notices.entries[i].enabled && t.notices.entries[i].condition)) ∧
        (ViewOrdered s → t.watch = s.watch ∧ t.notices.entries[4].pending = false ∧
          t.notices.entries[11].condition = s.notices.entries[11].condition ∧
          t.notices.entries[11].pending =
            (t.notices.entries[11].enabled && t.notices.entries[11].condition)) ∧
        t.notices.entries[9].condition = s.notices.entries[9].condition ∧
        (t.notices.attention = true ↔ ∃ i : Fin 12, t.notices.entries[i].pending = true) ∧
        t.link.responses = s.link.responses ++ [⟨0x04, .ok, fieldBytes [(1, new.length)]⟩])

/-- READ_STATUS: its response carries the fields of Table 11-6, 40 bytes, and reading changes nothing (R176). The net
state is sent under the code of Table 4-3. -/
def Obligations.ReadStatusReports : Prop :=
  ([.standby, .listenIn, .joined, .isolated] : List NetState).map NetState.code = [0, 1, 2, 3] ∧
  ∀ s : State, s.canAnswer →
    exec .readStatus s = .next (s.respond 0x05 .ok (fieldBytes
      [(1, s.net.state.code), (1, s.store.block.isSome.toNat), (1, s.stationNumber),
       (2, s.store.startTag), (1, s.clock.set.toNat), (3, s.clock.pos.shift), (3, s.clock.pos.time),
       (2, s.view.entries.length), (2, s.radio.queue.length), (1, s.records.records.length),
       (1, s.records.reservations),
       (1, if 32 ≤ s.records.records.length + s.records.reservations then 1 else 0),
       (1, activePeers s.net.peers), (2, s.radio.badCrc), (2, s.radio.malformed), (2, s.net.clash),
       (2, s.clock.reject), (2, s.view.staleShift), (2, s.view.originFull), (2, s.view.viewFull),
       (2, s.view.noClass), (2, s.radio.abandoned), (2, s.link.errors)]))

/-! ### Hose requests (chapters 8, 9) -/

/-- The limit of an issue is the smallest value among the bounds that apply, and its bound the first of those
that share it, in the order allowance, hold, net, tank, preset; the slow point is the limit less the slowdown
volume, or 0 (R129). -/
def Obligations.IssueLimitIsSmallestBound : Prop :=
  ∀ (c : ConfigBlock) (cls : Fin 8) (active : Nat) (net : NetState) (origins : List OriginEntry)
    (hold : Bool) (preset : Nat) (applies : Bound → Option Nat),
    applies .allowance = some (active * 100 - shiftTotal origins) →
    applies .hold = (if hold = true then some (c.holdCap * 100) else none) →
    applies .net = (if net = .listenIn ∨ net = .isolated then some (c.netCap * 100) else none) →
    applies .tank = some (c.classes[cls].tank * 100) →
    applies .preset = (if preset = 0 then none else some preset) →
    ∃ b limit, issueLimit c cls active net origins hold preset = (b, limit) ∧
      applies b = some limit ∧
      (∀ b' v, applies b' = some v → limit ≤ v ∧ (v = limit → b.code ≤ b'.code)) ∧
      slowPointOf c limit = limit - c.slowdown * 100

/-- PRESENT_VEHICLE refused by its first failing check, in the order of Table 8-3 (R128): checks 1 to 12 with
their code alone; an implausible reading with the register's reading and the highest acceptable one (R30); a full
origin list; a limit below the minimum issue with the code of its bound, the limit and the bound (R130). A refusal
changes nothing. -/
def Obligations.PresentRefusedInOrder : Prop :=
  ∀ (s : State) (c : ConfigBlock) (h : Fin 4) (v hours flag total preset : Nat), s.canAnswer →
    (s.net.state = .standby → ∀ hose : Nat,
      exec (.presentVehicle hose v hours flag total preset) s = .next (s.respond 0x10 .notRunning [])) ∧
    (s.net.state ≠ .standby → s.store.block = some c → ∀ hose : Nat,
      hose = 0 ∨ 4 < hose ∨ v = 0 ∨ 4095 < v ∨ 9999999 < hours ∨ 1 < flag ∨
        (flag = 1 ∧ 99999999 < total) →
      exec (.presentVehicle hose v hours flag total preset) s = .next (s.respond 0x10 .badRequest [])) ∧
    (s.net.state ≠ .standby → s.store.block = some c → 1 ≤ v → v ≤ 4095 →
      ReadingsInRange hours flag total → preset ≤ 4294967295 →
      ∃ r, (exec (.presentVehicle (h.val + 1) v hours flag total preset) s =
          .next (s.respond 0x10 r []) ∨ r = .ok) ∧
        r = (if c.fitted[h] = false then Result.notFitted
          else if (s.hose h).ctl.state = .outOfService then .hoseOut
          else if (s.hose h).ctl.state ≠ .idle then .busy
          else if (s.hose h).nozzle.active = true then .nozzleLifted
          else if s.field.stop.active = true then .estop
          else if 32 ≤ s.records.records.length + s.records.reservations then .recordsFull
          else match classOf c v with
            | none => .unknownClass
            | some cls =>
              if ∃ k : Fin 4, ∃ x, s.context k = some x ∧ x.vehicle = v then .vehicleActive
              else if s.entry v = none ∧ 256 ≤ s.view.entries.length then .viewFull
              else if (s.entryOrNew v cls).bar.barred = true then .barred
              else .ok)) ∧
    (∀ e, ConfigSound s → PassesToReadings s c h v e → ReadingsInRange hours flag total →
      preset ≤ 4294967295 →
      (∀ r, e.hours = some r → hoursTop c s.clock.pos r < hours →
        exec (.presentVehicle (h.val + 1) v hours flag total preset) s =
          .next (s.respond 0x10 .hoursImplausible
            (fieldBytes [(3, r.value), (3, hoursTop c s.clock.pos r)]))) ∧
      ((∀ r, e.hours = some r → hours ≤ hoursTop c s.clock.pos r) →
        (∀ r, flag = 1 → e.totaliser = some r → totaliserTop c e.cls s.clock.pos r < total →
          exec (.presentVehicle (h.val + 1) v hours flag total preset) s =
            .next (s.respond 0x10 .totaliserImplausible
              (fieldBytes [(4, r.value), (4, totaliserTop c e.cls s.clock.pos r)]))) ∧
        ((∀ r, flag = 1 → e.totaliser = some r → total ≤ totaliserTop c e.cls s.clock.pos r) →
          (amountOf c.station s.store.startTag e.origins = none → 16 ≤ e.origins.length →
            exec (.presentVehicle (h.val + 1) v hours flag total preset) s =
              .next (s.respond 0x10 .originFull [])) ∧
          (∀ k, (amountOf c.station s.store.startTag e.origins).isSome = true ∨
              e.origins.length < 16 →
            k = presentCheck c ⟨v, hours, if flag = 0 then none else some total, preset⟩ e s →
            k.limit < c.minimumIssue * 100 →
            ∃ r, exec (.presentVehicle (h.val + 1) v hours flag total preset) s =
                .next (s.respond 0x10 r (fieldBytes [(4, k.limit), (1, k.bound.code)])) ∧
              ((k.bound = .allowance ∧ r = .allowanceUsed) ∨ (k.bound = .hold ∧ r = .serviceHold) ∨
                (k.bound = .net ∧ r = .netCap) ∨ (k.bound = .preset ∧ r = .preset))))))

/-- PRESENT_VEHICLE accepted: with every check of Table 8-3 passed, the hose is AUTHORIZED with its
authorisation timer started, its context is filled and frozen (R132), a reservation is taken (R158), the
vehicle's entry holds its own origin entry and its risen readings (R10, R26), and the response carries limit,
bound, slow point, service state and reading flags (R131). That delivered and overrun of the context read 0 until
ENDED is the model's choice (notes/assumptions/37.md). -/
def Obligations.PresentAccepted : Prop :=
  ∀ (s : State) (c : ConfigBlock) (h : Fin 4) (v hours flag total preset : Nat) (cls : Fin 8)
    (e : VehicleEntry) (k : PresentCheck),
    s.canAnswer → s.net.state ≠ .standby → s.store.block = some c →
    1 ≤ v → v ≤ 4095 → hours ≤ 9999999 → flag ≤ 1 → (flag = 1 → total ≤ 99999999) →
    preset ≤ 4294967295 → c.fitted[h] = true → (s.hose h).ctl.state = .idle →
    (s.hose h).nozzle.active = false → s.field.stop.active = false →
    s.records.records.length + s.records.reservations < 32 → classOf c v = some cls →
    (∀ k : Fin 4, ∀ x, s.context k = some x → x.vehicle ≠ v) →
    (s.entry v = none → s.view.entries.length < 256) → e = s.entryOrNew v cls → e.bar.barred = false →
    k = presentCheck c ⟨v, hours, if flag = 0 then none else some total, preset⟩ e s →
    k.hours ≠ .implausible → k.totaliser ≠ .implausible →
    (hasOwn s e.origins = true ∨ e.origins.length < 16) → c.minimumIssue * 100 ≤ k.limit →
    ∃ t e', exec (.presentVehicle (h.val + 1) v hours flag total preset) s = .next t ∧
      (t.hose h).ctl.state = .authorized ∧ (t.hose h).ctl.authTimer = some (c.authTime * 100000) ∧
      t.context h = some {
        vehicle := v, cls := e.cls, limit := k.limit, bound := k.bound
        slowPoint := k.limit - c.slowdown * 100, hours := hours
        totaliser := if flag = 0 then none else some total
        hoursFlag := decide (k.hours = .regression)
        totaliserFlag := decide (k.totaliser = .regression)
        serviceState := k.worst, netState := s.net.state, authorised := s.clock.pos
        healthEvent := false, endReason := none, delivered := 0, overrun := 0 } ∧
      t.records = { s.records with reservations := s.records.reservations + 1 } ∧
      t.entry v = some e' ∧ hasOwn s e'.origins = true ∧ shiftTotal e'.origins = shiftTotal e.origins ∧
      e'.hours = (if k.hours = .rise then some ⟨hours, s.clock.pos⟩ else e.hours) ∧
      e'.totaliser = (if flag ≠ 0 ∧ k.totaliser = .rise then some ⟨total, s.clock.pos⟩
        else e.totaliser) ∧
      e'.services = e.services ∧ e'.bar = e.bar ∧
      (s.entry v = some e' ∨ queued t.radio.queue v = true) ∧
      (∀ j : Fin 4, j ≠ h → (t.hose j).same (s.hose j)) ∧
      t.store = s.store ∧ t.clock = s.clock ∧ t.net = s.net ∧ t.field.pumpRun = s.pumpDemand ∧
      t.link.responses = s.link.responses ++ [⟨0x10, .ok, fieldBytes
        [(4, k.limit), (1, k.bound.code), (4, k.limit - c.slowdown * 100), (1, k.worst.code),
         (1, (if k.hours = .regression then 1 else 0) +
           (if k.totaliser = .regression then 2 else 0))]⟩]

/-- STOP_HOSE by the hose state it finds (R143, R139, R142): an authorisation is cancelled, an issue in STARTING,
FLOWING or SLOWING closes with reason STOP, and in the other states nothing is done; the response carries the
hose state after the request. A hose outside 1..4 is refused BAD_REQUEST and one not fitted NOT_FITTED. -/
def Obligations.StopHoseByState : Prop :=
  (∀ (s : State) (n : Nat), s.canAnswer → n = 0 ∨ 4 < n →
    exec (.stopHose n) s = .next (s.respond 0x11 .badRequest [])) ∧
  (∀ (s : State) (h : Fin 4), s.canAnswer → s.store.block = none →
    exec (.stopHose (h.val + 1)) s = .next (s.respond 0x11 .notFitted [])) ∧
  ∀ (s : State) (c : ConfigBlock) (h : Fin 4), s.canAnswer → s.store.block = some c →
    (c.fitted[h] = false → exec (.stopHose (h.val + 1)) s = .next (s.respond 0x11 .notFitted [])) ∧
    (c.fitted[h] = true → (s.hose h).ctl.state = .authorized → ∃ t,
      exec (.stopHose (h.val + 1)) s = .next t ∧
      (t.hose h).ctl.state = (if (s.hose h).health.frozen = true then .outOfService else .idle) ∧
      t.context h = none ∧ (t.hose h).ctl.authTimer = none ∧
      t.notices.entries[1] = s.notices.entries[1] ∧
      t.records = { s.records with reservations := s.records.reservations - 1 } ∧
      KeepsStation s t ∧ (∀ j : Fin 4, j ≠ h → (t.hose j).same (s.hose j)) ∧
      t.link.responses = s.link.responses ++
        [⟨0x11, .ok, fieldBytes [(1, (t.hose h).ctl.state.code)]⟩]) ∧
    (∀ x, c.fitted[h] = true → (s.hose h).ctl.state.issuing = true → s.context h = some x → ∃ t,
      exec (.stopHose (h.val + 1)) s = .next t ∧
      (t.hose h).ctl.state = .closing ∧ t.context h = some { x with endReason := some .stop } ∧
      (t.hose h).ctl.primeTimer = none ∧ (t.hose h).ctl.startTimer = none ∧
      (t.hose h).ctl.noFlowTimer = none ∧
      (t.hose h).ctl.overrunTimer = some (c.overrunWindow * 100000) ∧
      (t.hose h).ctl.mainValve = false ∧ (t.hose h).ctl.slowValve = false ∧
      (t.hose h).meter.settle = none ∧ (t.hose h).meter.fastCount = 0 ∧
      (t.hose h).meter.slowCount = 0 ∧ (t.hose h).meter.delivered = (s.hose h).meter.delivered ∧
      t.records = s.records ∧ KeepsStation s t ∧
      (∀ j : Fin 4, j ≠ h → (t.hose j).same (s.hose j)) ∧
      t.link.responses = s.link.responses ++ [⟨0x11, .ok, [0x06#8]⟩]) ∧
    (c.fitted[h] = true → (s.hose h).ctl.state = .closing ∨ (s.hose h).ctl.state = .ended →
      exec (.stopHose (h.val + 1)) s =
        .next (s.respond 0x11 .ending (fieldBytes [(1, (s.hose h).ctl.state.code)]))) ∧
    (c.fitted[h] = true → (s.hose h).ctl.state = .idle ∨ (s.hose h).ctl.state = .outOfService →
      exec (.stopHose (h.val + 1)) s =
        .next (s.respond 0x11 .notActive (fieldBytes [(1, (s.hose h).ctl.state.code)])))

/-- READ_HOSE: BAD_REQUEST outside 1..4; otherwise the fields of Table 8-7 as they stand, and reading changes
nothing (R147). Hose state, bound and end reason are sent under the codes of Tables 8-2, 8-4 and 8-8. -/
def Obligations.ReadHoseReports : Prop :=
  ([.outOfService, .idle, .authorized, .starting, .flowing, .slowing, .closing, .ended] :
    List HoseState).map HoseState.code = [0, 1, 2, 3, 4, 5, 6, 7] ∧
  ([.allowance, .hold, .net, .tank, .preset] : List Bound).map Bound.code = [1, 2, 3, 4, 5] ∧
  ([none, some .limit, some .hung, some .noStart, some .noFlow, some .fault, some .stop, some .estop,
    some .barred, some .restart] : List (Option EndReason)).map endReasonCode =
      [0, 1, 2, 3, 4, 5, 6, 7, 8, 9] ∧
  ∀ s : State, s.canAnswer →
    (∀ n : Nat, n = 0 ∨ 4 < n → exec (.readHose n) s = .next (s.respond 0x12 .badRequest [])) ∧
    (∀ h : Fin 4, exec (.readHose (h.val + 1)) s = .next (s.respond 0x12 .ok (fieldBytes
      ([(1, h.val + 1), (1, (s.fitted h).toNat), (1, (s.hose h).ctl.state.code),
        (1, (s.hose h).nozzle.active.toNat)] ++
       (match s.context h with
        | none => [(2, 0), (4, 0), (1, 0), (4, 0), (1, 0)]
        | some x => [(2, x.vehicle), (4, x.limit), (1, x.bound.code), (4, x.slowPoint),
            (1, endReasonCode x.endReason)]) ++
       [(4, (s.hose h).meter.delivered), (4, (s.hose h).meter.lastFlow),
        (4, (s.hose h).meter.unattributed), (1, (s.hose h).health.count),
        (1, (s.hose h).health.frozen.toNat), (2, (s.hose h).guardCount)]))))

/-- CLEAR_HOSE_FAULT: its refusals, and the thaw: count, accumulator and flag cleared, HOSE_OUT re-evaluated, a
fitted hose in OUT_OF_SERVICE moved to IDLE, any other left (R154, R155). -/
def Obligations.ClearHoseFaultThaws : Prop :=
  ∀ s : State, s.canAnswer →
    (∀ n : Nat, n = 0 ∨ 4 < n → exec (.clearHoseFault n) s = .next (s.respond 0x13 .badRequest [])) ∧
    (∀ h : Fin 4, (s.hose h).health.frozen = false →
      exec (.clearHoseFault (h.val + 1)) s = .next (s.respond 0x13 .notFrozen [])) ∧
    (∀ h : Fin 4, (s.hose h).health.frozen = true → ∃ t,
      exec (.clearHoseFault (h.val + 1)) s = .next t ∧
      (t.hose h).health = { count := 0, frozen := false, accumulator := 0 } ∧
      (t.hose h).ctl.state = (if (s.hose h).ctl.state = .outOfService ∧ s.fitted h = true then .idle
        else (s.hose h).ctl.state) ∧
      t.context h = s.context h ∧ (t.hose h).meter = (s.hose h).meter ∧
      (t.notices.entries[8].condition = true ↔
        ∃ j : Fin 4, j ≠ h ∧ (s.hose j).health.frozen = true) ∧
      KeepsStation s t ∧ t.records = s.records ∧ (∀ j : Fin 4, j ≠ h → (t.hose j).same (s.hose j)) ∧
      t.link.responses = s.link.responses ++
        [⟨0x13, .ok, fieldBytes [(1, (t.hose h).ctl.state.code), (1, 0)]⟩])

/-! ### Vehicle requests (chapters 1, 2, 3) -/

/-- READ_VEHICLE: BAD_REQUEST outside 1..4095, NO_ENTRY for a number with no entry, and otherwise the whole
entry in the order of R23; reading changes nothing. Service states are sent under the codes of Table 2-4. -/
def Obligations.ReadVehicleReports : Prop :=
  ([.current, .dueSoon, .due, .overdue] : List ServiceState).map ServiceState.code = [0, 1, 2, 3] ∧
  ∀ (s : State) (v : Nat), s.canAnswer →
    (v = 0 ∨ 4095 < v → exec (.readVehicle v) s = .next (s.respond 0x20 .badRequest [])) ∧
    (1 ≤ v → v ≤ 4095 → s.entry v = none →
      exec (.readVehicle v) s = .next (s.respond 0x20 .noEntry [])) ∧
    (∀ e, 1 ≤ v → v ≤ 4095 → s.entry v = some e →
      exec (.readVehicle v) s = .next (s.respond 0x20 .ok (fieldBytes
        ([(2, e.number), (1, e.cls.val), (1, e.bar.barred.toNat), (2, e.bar.version), (1, e.bar.origin)] ++
         (match e.hours with
          | none => [(1, 0), (3, 0), (3, 0), (3, 0)]
          | some r => [(1, 1), (3, r.value), (3, r.stamp.shift), (3, r.stamp.time)]) ++
         (match e.totaliser with
          | none => [(1, 0), (4, 0), (3, 0), (3, 0)]
          | some r => [(1, 1), (4, r.value), (3, r.stamp.shift), (3, r.stamp.time)]) ++
         ([0, 1, 2, 3] : List (Fin 4)).flatMap (fun i =>
          [(2, e.services[i].epoch), (1, e.services[i].origin), (3, e.services[i].hours),
           (1, e.services[i].totaliser.isSome.toNat), (4, e.services[i].totaliser.getD 0),
           (2, e.usage[i]), (1, e.states[i].code)]) ++
         [(2, e.worst), (1, e.worstState.code), (1, e.hold.toNat), (1, e.origins.length)] ++
         e.origins.flatMap fun o => [(1, o.station), (2, o.tag), (4, o.amount)]))))

/-- BAR_VEHICLE and CLEAR_BAR: their refusals in the order of R21, and their acceptance: the bar takes the
requested state with its version one higher and this station as its origin, the vehicle is queued to be sent
(R20), and when a clear bar turns barred an issue of the vehicle is cancelled in AUTHORIZED, with no AUTH_EXPIRED,
and closes with reason BARRED in STARTING, FLOWING or SLOWING (R22). -/
def Obligations.BarRequests : Prop :=
  ∀ (s : State) (c : ConfigBlock) (v : Nat) (barred : Bool) (cmd : Instr) (kind : Nat), s.canAnswer →
    (cmd = .barVehicle v ∧ kind = 0x21 ∧ barred = true) ∨
      (cmd = .clearBar v ∧ kind = 0x22 ∧ barred = false) →
    (s.net.state = .standby → exec cmd s = .next (s.respond kind .notRunning [])) ∧
    (s.net.state ≠ .standby → s.store.block = some c → v = 0 ∨ 4095 < v →
      exec cmd s = .next (s.respond kind .badRequest [])) ∧
    (s.net.state ≠ .standby → s.store.block = some c → 1 ≤ v → v ≤ 4095 → classOf c v = none →
      exec cmd s = .next (s.respond kind .unknownClass [])) ∧
    (∀ cls e, s.net.state ≠ .standby → s.store.block = some c → 1 ≤ v → v ≤ 4095 →
      classOf c v = some cls → e = s.entryOrNew v cls →
      (s.entry v = none → 256 ≤ s.view.entries.length →
        exec cmd s = .next (s.respond kind .viewFull [])) ∧
      ((s.entry v = none → s.view.entries.length < 256) → 65535 ≤ e.bar.version →
        exec cmd s = .next (s.respond kind .sequenceLimit [])) ∧
      ((s.entry v = none → s.view.entries.length < 256) → e.bar.version < 65535 →
        ∃ t e', exec cmd s = .next t ∧ t.entry v = some e' ∧
          e'.bar = { barred := barred, version := e.bar.version + 1, origin := c.station } ∧
          e'.origins = e.origins ∧ e'.hours = e.hours ∧ e'.totaliser = e.totaliser ∧
          e'.services = e.services ∧ queued t.radio.queue v = true ∧
          (∀ w, w ≠ v → t.entry w = s.entry w) ∧
          (∀ h x, s.context h = some x → x.vehicle = v → barred = true → e.bar.barred = false →
            ((s.hose h).ctl.state = .authorized → t.context h = none ∧
              (t.hose h).ctl.authTimer = none ∧ (t.hose h).ctl.state =
                if (s.hose h).health.frozen = true then .outOfService else .idle) ∧
            ((s.hose h).ctl.state.issuing = true → (t.hose h).ctl.state = .closing ∧
              t.context h = some { x with endReason := some .barred }) ∧
            ((s.hose h).ctl.state ≠ .authorized → (s.hose h).ctl.state.issuing = false →
              (t.hose h).same (s.hose h))) ∧
          ((∀ h : Fin 4, (s.hose h).ctl.state ≠ .authorized) → t.records = s.records) ∧
          (∀ j : Fin 12, j ≠ 2 → j ≠ 4 → j ≠ 11 → t.notices.entries[j] = s.notices.entries[j]) ∧
          (∀ h, (barred = false ∨ e.bar.barred = true ∨ (∀ x, s.context h = some x → x.vehicle ≠ v)) →
            (t.hose h).same (s.hose h)) ∧
          t.store = s.store ∧ t.clock = s.clock ∧ t.net = s.net ∧
          t.records.records = s.records.records ∧
          t.link.responses = s.link.responses ++ [⟨kind, .ok, fieldBytes
            [(1, barred.toNat), (2, e.bar.version + 1), (1, c.station)]⟩]))

/-- The reading checks and the usage of a type, in the arithmetic of R27, R28, R29, R35, R36 and R37: elapsed
time, the four outcomes against a present register, and the larger of the hours part and the fuel part,
saturating at 9999; the state of each usage (R38); the largest usage of the four types as the worst, its state, and
the hold while that is OVERDUE (R39); and what a presentation is judged on, the entry with its risen readings
(R31). -/
def Obligations.ReadingsAndUsage : Prop :=
  (∀ (c : ConfigBlock) (cls : Fin 8) (now stamp : ClockPos) (reg h elapsed : Nat),
    (elapsed : Int) = max 0 (((now.shift : Int) - stamp.shift) * c.shiftLength +
      ((now.time : Int) - stamp.time)) →
    (∀ rise, rise = (elapsed + 359) / 360 + c.hourTolerance →
      (hoursCheck c now (some ⟨reg, stamp⟩) h = .implausible ↔ reg + rise < h) ∧
      (hoursCheck c now (some ⟨reg, stamp⟩) h = .rise ↔ reg < h ∧ h ≤ reg + rise) ∧
      (hoursCheck c now (some ⟨reg, stamp⟩) h = .hold ↔ h ≤ reg ∧ reg ≤ h + c.hourTolerance) ∧
      (hoursCheck c now (some ⟨reg, stamp⟩) h = .regression ↔ h + c.hourTolerance < reg)) ∧
    (∀ rise, rise = (c.classes[cls].maxBurn * elapsed + 3599) / 3600 + c.fuelTolerance →
      (totaliserCheck c cls now (some ⟨reg, stamp⟩) (some h) = .implausible ↔ reg + rise < h) ∧
      (totaliserCheck c cls now (some ⟨reg, stamp⟩) (some h) = .rise ↔ reg < h ∧ h ≤ reg + rise) ∧
      (totaliserCheck c cls now (some ⟨reg, stamp⟩) (some h) = .hold ↔
        h ≤ reg ∧ reg ≤ h + c.fuelTolerance) ∧
      (totaliserCheck c cls now (some ⟨reg, stamp⟩) (some h) = .regression ↔
        h + c.fuelTolerance < reg)) ∧
    hoursCheck c now none h = .rise ∧ totaliserCheck c cls now none (some h) = .rise ∧
    totaliserCheck c cls now (some ⟨reg, stamp⟩) none = .hold) ∧
  (∀ (k : ClassConfig) (e : VehicleEntry) (i : Fin 4) (uh uf hs : Nat),
    hs = (if e.services[i].epoch = 0 then 0 else e.services[i].hours) →
    (∀ r, e.hours = some r → uh = if k.hoursInterval[i] = 0 ∨ r.value ≤ hs then 0
      else (r.value - hs) * 100 / k.hoursInterval[i]) →
    (e.hours = none → uh = 0) →
    (∀ r ts, e.totaliser = some r →
      (e.services[i].epoch = 0 ∧ ts = 0 ∨
        e.services[i].epoch ≠ 0 ∧ e.services[i].totaliser = some ts) →
      uf = if k.fuelInterval[i] = 0 ∨ r.value ≤ ts then 0
        else (r.value - ts) * 1000 / k.fuelInterval[i]) →
    (e.totaliser = none ∨ e.services[i].epoch ≠ 0 ∧ e.services[i].totaliser = none → uf = 0) →
    typeUsage k e i = min 9999 (max uh uf)) ∧
  (∀ (c : ConfigBlock) (e : VehicleEntry) (state : Nat → ServiceState),
    (∀ u, state u = if u < c.warn then .current else if u < 1000 then .dueSoon
      else if u < c.grace then .due else .overdue) →
    ∃ worst, (∀ i : Fin 4, typeUsage c.classes[e.cls] e i ≤ worst) ∧
      (∃ i : Fin 4, typeUsage c.classes[e.cls] e i = worst) ∧
      withUsage c e = { e with
        usage := Vector.ofFn fun i => typeUsage c.classes[e.cls] e i
        states := Vector.ofFn fun i => state (typeUsage c.classes[e.cls] e i)
        worst := worst
        worstState := state worst
        hold := decide (state worst = .overdue) }) ∧
  (∀ (c : ConfigBlock) (p : Presentation) (e e' : VehicleEntry) (s : State),
    e' = withUsage c { e with
      hours := if hoursCheck c s.clock.pos e.hours p.hours = .rise then some ⟨p.hours, s.clock.pos⟩
        else e.hours
      totaliser := match p.totaliser with
        | none => e.totaliser
        | some t =>
          if totaliserCheck c e.cls s.clock.pos e.totaliser (some t) = .rise then
            some ⟨t, s.clock.pos⟩
          else e.totaliser } →
    ∃ bound limit,
      (bound, limit) =
        issueLimit c e.cls s.clock.active[e.cls] s.net.state e.origins e'.hold p.preset ∧
      presentCheck c p e s = {
        hours := hoursCheck c s.clock.pos e.hours p.hours
        totaliser := totaliserCheck c e.cls s.clock.pos e.totaliser p.totaliser
        worst := e'.worstState
        bound := bound
        limit := limit })

/-- RECORD_SERVICE accepted in JOINED or ISOLATED, both reading checks giving rise or hold and no epoch at its
last value: each type up to the named one takes the service with its epoch one higher, deeper types are left,
the risen registers are taken, the vehicle is queued, and the response carries the entry as it now stands (R32,
R33). The request is refused by the first of the eight checks of R32 that fails, a refusal by a reading check
carrying the register's reading and the bound that was crossed. -/
def Obligations.RecordServiceRequest : Prop :=
  ∀ (s : State) (v type hours flag total : Nat), s.canAnswer →
    (s.net.state = .standby →
      exec (.recordService v type hours flag total) s = .next (s.respond 0x23 .notRunning [])) ∧
    (∀ c, s.net.state = .listenIn → s.store.block = some c →
      exec (.recordService v type hours flag total) s = .next (s.respond 0x23 .notJoined [])) ∧
    (∀ c, s.net.state = .joined ∨ s.net.state = .isolated → s.store.block = some c →
      (v = 0 ∨ 4095 < v ∨ 4 ≤ type ∨ ¬ ReadingsInRange hours flag total →
        exec (.recordService v type hours flag total) s = .next (s.respond 0x23 .badRequest [])) ∧
      (1 ≤ v → v ≤ 4095 → type < 4 → ReadingsInRange hours flag total →
        (classOf c v = none →
          exec (.recordService v type hours flag total) s = .next (s.respond 0x23 .unknownClass [])) ∧
        (∀ cls, classOf c v = some cls → s.entry v = none → 256 ≤ s.view.entries.length →
          exec (.recordService v type hours flag total) s = .next (s.respond 0x23 .viewFull [])) ∧
        (∀ cls e, classOf c v = some cls → (s.entry v = none → s.view.entries.length < 256) →
          e = s.entryOrNew v cls →
          (∀ r, e.hours = some r → hoursTop c s.clock.pos r < hours →
            exec (.recordService v type hours flag total) s =
              .next (s.respond 0x23 .hoursImplausible
                (fieldBytes [(3, r.value), (3, hoursTop c s.clock.pos r)]))) ∧
          (∀ r, e.hours = some r → hours + c.hourTolerance < r.value →
            exec (.recordService v type hours flag total) s =
              .next (s.respond 0x23 .hoursRegression
                (fieldBytes [(3, r.value), (3, r.value - c.hourTolerance)]))) ∧
          ((∀ r, e.hours = some r →
              hours ≤ hoursTop c s.clock.pos r ∧ r.value ≤ hours + c.hourTolerance) →
            (∀ r, flag = 1 → e.totaliser = some r → totaliserTop c e.cls s.clock.pos r < total →
              exec (.recordService v type hours flag total) s =
                .next (s.respond 0x23 .totaliserImplausible
                  (fieldBytes [(4, r.value), (4, totaliserTop c e.cls s.clock.pos r)]))) ∧
            (∀ r, flag = 1 → e.totaliser = some r → total + c.fuelTolerance < r.value →
              exec (.recordService v type hours flag total) s =
                .next (s.respond 0x23 .totaliserRegression
                  (fieldBytes [(4, r.value), (4, r.value - c.fuelTolerance)]))) ∧
            ((∀ r, flag = 1 → e.totaliser = some r →
                total ≤ totaliserTop c e.cls s.clock.pos r ∧ r.value ≤ total + c.fuelTolerance) →
              (∃ i : Fin 4, i.val ≤ type ∧ 65535 ≤ e.services[i].epoch) →
              exec (.recordService v type hours flag total) s =
                .next (s.respond 0x23 .sequenceLimit [])))))) ∧
    (∀ (c : ConfigBlock) (cls : Fin 8) (e : VehicleEntry) (given : Option Nat),
      s.net.state = .joined ∨ s.net.state = .isolated → s.store.block = some c → 1 ≤ v → v ≤ 4095 →
      type < 4 → ReadingsInRange hours flag total → classOf c v = some cls →
      (s.entry v = none → s.view.entries.length < 256) → e = s.entryOrNew v cls →
      given = (if flag = 0 then none else some total) →
      hoursCheck c s.clock.pos e.hours hours = .rise ∨ hoursCheck c s.clock.pos e.hours hours = .hold →
      totaliserCheck c e.cls s.clock.pos e.totaliser given = .rise ∨
        totaliserCheck c e.cls s.clock.pos e.totaliser given = .hold →
      (∀ i : Fin 4, i.val ≤ type → e.services[i].epoch < 65535) →
      ∃ t e', exec (.recordService v type hours flag total) s = .next t ∧ t.entry v = some e' ∧
        e'.hours = (if hoursCheck c s.clock.pos e.hours hours = .rise then some ⟨hours, s.clock.pos⟩
          else e.hours) ∧
        e'.totaliser = (if totaliserCheck c e.cls s.clock.pos e.totaliser given = .rise then
          some ⟨total, s.clock.pos⟩ else e.totaliser) ∧
        (∀ i : Fin 4, e'.services[i] = if i.val ≤ type then
            { epoch := e.services[i].epoch + 1, origin := c.station, hours := hours
              totaliser := if flag = 0 then e'.totaliser.map (·.value) else some total }
          else e.services[i]) ∧
        e'.bar = e.bar ∧ e'.origins = e.origins ∧ withUsage c e' = e' ∧
        queued t.radio.queue v = true ∧ (∀ w, w ≠ v → t.entry w = s.entry w) ∧
        t.store = s.store ∧ t.clock = s.clock ∧ t.net = s.net ∧ KeepsForecourt s t ∧
        t.link.responses = s.link.responses ++ [⟨0x23, .ok, fieldBytes
          (([0, 1, 2, 3] : List (Fin 4)).flatMap (fun i =>
            [(2, e'.services[i].epoch), (1, e'.services[i].origin), (3, e'.services[i].hours),
             (1, e'.services[i].totaliser.isSome.toNat), (4, e'.services[i].totaliser.getD 0),
             (2, e'.usage[i]), (1, e'.states[i].code)]) ++
            [(2, e'.worst), (1, e'.worstState.code), (1, e'.hold.toNat)])⟩])

/-- STAGE_ALLOWANCE and CLEAR_STAGED: their refusals in order, and their acceptance: the class's staged value
set or removed, the active allowances untouched, and the eight pairs in the response (R54, R55). -/
def Obligations.StagedAllowances : Prop :=
  ∀ (s : State) (cls litres : Nat) (table : State → List Byte), s.canAnswer →
    (∀ u : State, table u = fieldBytes (([0, 1, 2, 3, 4, 5, 6, 7] : List (Fin 8)).flatMap fun k =>
      [(3, u.clock.active[k]), (1, u.clock.staged[k].isSome.toNat), (3, u.clock.staged[k].getD 0)])) →
    (s.store.block = none →
      exec (.stageAllowance cls litres) s = .next (s.respond 0x24 .noConfig []) ∧
      exec (.clearStaged cls) s = .next (s.respond 0x25 .noConfig [])) ∧
    (s.store.block ≠ none → 8 ≤ cls ∨ 100000 < litres →
      exec (.stageAllowance cls litres) s = .next (s.respond 0x24 .badRequest [])) ∧
    (s.store.block ≠ none → 8 ≤ cls →
      exec (.clearStaged cls) s = .next (s.respond 0x25 .badRequest [])) ∧
    (∀ k : Fin 8, s.store.block ≠ none → cls = k.val → litres ≤ 100000 →
      ∃ t, t = { s with clock := { s.clock with staged := s.clock.staged.set k (some litres) } } ∧
        exec (.stageAllowance cls litres) s = .next (t.respond 0x24 .ok (table t))) ∧
    (∀ k : Fin 8, s.store.block ≠ none → cls = k.val →
      ∃ t, t = { s with clock := { s.clock with staged := s.clock.staged.set k none } } ∧
        exec (.clearStaged cls) s = .next (t.respond 0x25 .ok (table t)))

/-- READ_WATCH_LIST: the members from first to last with their worst usage and state, then the overflow count,
in every net state; the notices stand as before, and so does everything else (R44). -/
def Obligations.ReadWatchListReports : Prop :=
  ∀ s : State, s.canAnswer →
    exec .readWatchList s = .next (s.respond 0x26 .ok (fieldBytes
      ([(1, s.watch.members.length)] ++
       s.watch.members.flatMap (fun m => [(2, m.vehicle), (2, m.usage), (1, m.state.code)]) ++
       [(1, s.watch.overflow)])))

/-! ### Record, peer and notice requests (chapters 4, 10, 11) -/

/-- READ_OLDEST and RELEASE_RECORD (R161, R162): the oldest record in the layout of Table 10-1, left in the
queue; a release accepted against the head alone, RECORDS_WAITING reported as the queue then stands. -/
def Obligations.RecordRequests : Prop :=
  ∀ s : State, s.canAnswer →
    (s.records.records = [] →
      exec .readOldest s = .next (s.respond 0x30 .empty []) ∧
      ∀ n, n ≤ 65535 → exec (.releaseRecord n) s =
        .next (s.respond 0x31 .noMatch (fieldBytes [(1, 0), (2, 0)]))) ∧
    (∀ n, 65535 < n → exec (.releaseRecord n) s = .next (s.respond 0x31 .badRequest [])) ∧
    (∀ r rest, s.records.records = r :: rest →
      exec .readOldest s = .next (s.respond 0x30 .ok (fieldBytes
        [(1, rest.length + 1), (2, r.number), (1, r.hose), (2, r.vehicle), (1, r.cls.val),
         (3, r.authorised.shift), (3, r.authorised.time), (3, r.completed.shift), (3, r.completed.time),
         (4, r.limit), (4, r.delivered), (4, r.overrun), (1, r.bound.code),
         (1, endReasonCode r.endReason), (1, r.serviceState.code), (1, r.netState.code), (3, r.hours),
         (1, r.totaliser.isSome.toNat), (4, r.totaliser.getD 0),
         (1, r.hoursFlag.toNat + 2 * r.totaliserFlag.toNat)])) ∧
      (∀ n, n ≤ 65535 → n ≠ r.number → exec (.releaseRecord n) s =
        .next (s.respond 0x31 .noMatch (fieldBytes [(1, rest.length + 1), (2, r.number)]))) ∧
      (r.number ≤ 65535 → ∃ t, exec (.releaseRecord r.number) s = .next t ∧
        t.records = { s.records with records := rest } ∧
        (t.notices.entries[10].condition = true ↔ rest ≠ []) ∧
        KeepsStation s t ∧ t.field = s.field ∧ t.hoses = s.hoses ∧
        t.link.responses = s.link.responses ++ [⟨0x31, .ok, fieldBytes [(1, rest.length)]⟩]))

/-- READ_PEERS: BAD_REQUEST for a group but 0 and 1; otherwise the header and the group's eight entries of 18
bytes as the table stands, peer states under their codes, and reading changes nothing (R73). -/
def Obligations.ReadPeersReports : Prop :=
  ([.neverHeard, .present, .fading, .lost] : List PeerState).map PeerState.code = [0, 1, 2, 3] ∧
  ∀ s : State, s.canAnswer →
    (∀ g : Nat, 2 ≤ g → exec (.readPeers g) s = .next (s.respond 0x40 .badRequest [])) ∧
    (∀ g : Fin 2, exec (.readPeers g.val) s = .next (s.respond 0x40 .ok (fieldBytes
      ([(1, g.val), (1, s.net.state.code),
        (2, if s.net.state = .listenIn then (s.net.listen.getD 0 + 99999) / 100000 else 0),
        (1, activePeers s.net.peers)] ++
       ([0, 1, 2, 3, 4, 5, 6, 7] : List (Fin 8)).flatMap (fun i =>
        match indexOf 16 (8 * g.val + i.val + 1) with
        | none => []
        | some j =>
          [(1, j.val + 1), (1, s.net.peers[j].state.code), (1, s.net.peers[j].bucket),
           (1, s.net.peers[j].interval), (2, (s.net.peers[j].missTimer.getD 0 + 9999) / 10000),
           (3, s.net.peers[j].lastHeard.shift), (3, s.net.peers[j].lastHeard.time),
           (2, s.net.peers[j].frames), (2, min 65535 (s.net.peers[j].since.getD 0 / 100000)),
           (2, s.net.peers[j].rejoins)])))))

/-- READ_NOTICES, ACK_NOTICE and SET_NOTICE_ENABLES (R168, R169, R170): what each does to each entry, the
attention output after it, and the blocks it leaves. That a mask above 65,535, which its two bytes cannot carry, is
refused BAD_REQUEST is the model's choice (notes/assumptions/11.md). -/
def Obligations.NoticeRequests : Prop :=
  ∀ s : State, s.canAnswer →
    (∃ t, exec .readNotices s = .next t ∧
      (∀ i : Fin 12, t.notices.entries[i] = { s.notices.entries[i] with
        pending := false
        awaiting := s.notices.entries[i].awaiting ||
          (decide (8 ≤ i.val) && s.notices.entries[i].pending) }) ∧
      t.notices.attention = false ∧ KeepsStation s t ∧ KeepsForecourt s t ∧
      t.link.responses = s.link.responses ++ [⟨0x50, .ok, fieldBytes
        [(2, noticeMask s.notices.entries (·.pending)), (2, noticeMask t.notices.entries (·.condition)),
         (2, noticeMask t.notices.entries (·.awaiting))]⟩]) ∧
    (∀ n : Nat, 12 ≤ n → exec (.ackNotice n) s = .next (s.respond 0x51 .badRequest [])) ∧
    (∀ i : Fin 12, ∃ t, exec (.ackNotice i.val) s = .next t ∧
      (∀ j : Fin 12, j ≠ i → t.notices.entries[j] = s.notices.entries[j]) ∧
      t.notices.entries[i] = (if 8 ≤ i.val ∧ s.notices.entries[i].awaiting = true then
          { s.notices.entries[i] with
            awaiting := false
            pending := s.notices.entries[i].pending ||
              (s.notices.entries[i].condition && s.notices.entries[i].enabled) }
        else s.notices.entries[i]) ∧
      (t.notices.attention = true ↔ ∃ j : Fin 12, t.notices.entries[j].pending = true) ∧
      KeepsStation s t ∧ KeepsForecourt s t ∧
      t.link.responses = s.link.responses ++ [⟨0x51, .ok, fieldBytes
        [(2, noticeMask t.notices.entries (·.pending)), (2, noticeMask t.notices.entries (·.condition)),
         (2, noticeMask t.notices.entries (·.awaiting))]⟩]) ∧
    (∀ m : Nat, 4096 ≤ m → exec (.setNoticeEnables m) s = .next (s.respond 0x52 .badRequest [])) ∧
    (∀ m : Nat, m < 4096 → ∃ t, exec (.setNoticeEnables m) s = .next t ∧
      (∀ i : Fin 12, t.notices.entries[i] =
        if s.notices.entries[i].enabled = true ∧ m.testBit i.val = false then
          { s.notices.entries[i] with enabled := false, pending := false, awaiting := false }
        else if s.notices.entries[i].enabled = false ∧ m.testBit i.val = true then
          { s.notices.entries[i] with
            enabled := true
            pending := s.notices.entries[i].pending ||
              (decide (8 ≤ i.val) && s.notices.entries[i].condition) }
        else s.notices.entries[i]) ∧
      (t.notices.attention = true ↔ ∃ j : Fin 12, t.notices.entries[j].pending = true) ∧
      KeepsStation s t ∧ KeepsForecourt s t ∧
      t.link.responses = s.link.responses ++ [⟨0x52, .ok, fieldBytes
        [(2, noticeMask t.notices.entries (·.pending)), (2, noticeMask t.notices.entries (·.condition)),
         (2, noticeMask t.notices.entries (·.awaiting))]⟩])

/-- The link (R165, R166): a request of unknown kind is answered BAD_REQUEST; a discarded frame, and a request that
meets four held responses, count as link errors and have no other effect; a response sent whole leaves the responses
held. The receiver: in the hunt every byte but C3h is passed over; after it a length outside 1..250, a gap of more
than 10 ms before a byte, a missing stop bit and a wrong CRC each discard the frame, and the byte after a gap is
taken by the hunt; a frame whole and good is the request that its kind and payload make. At rest, a byte whose time
has come is taken by the receiver. A response goes out in the envelope of R164 under its code of Table 11-2, and has
been sent whole after ten bits for each byte at 115,200 bit/s. That a start byte without its stop bit is a discarded
frame is the model's reading of R165 (notes/assumptions/22.md). -/
def Obligations.LinkEvents : Prop :=
  (∀ (s : State) (kind : Nat), s.canAnswer →
    exec (.unknownRequestKind kind) s = .next (s.respond kind .badRequest [])) ∧
  (∀ (s : State) (cause : DiscardCause), exec (.linkFrameDiscard cause) s =
    .next { s with link := { s.link with errors := min 65535 (s.link.errors + 1) } }) ∧
  (∀ (s : State), ¬ s.canAnswer → ∀ c : Instr, isRequest c = true ∨ c = .responseBacklogDiscard →
    exec c s = .next { s with link := { s.link with errors := min 65535 (s.link.errors + 1) } }) ∧
  (∀ (s : State) (r : Response) (rest : List Response), s.link.responses = r :: rest →
    exec .responseSentWhole s = .next { s with link := { s.link with responses := rest, sending := 0 } }) ∧
  (∀ b : LineByte,
    (b.value ≠ 0xC3#8 → LinkReceiver.hunt.takeByte b = (.hunt, [])) ∧
    (b.value = 0xC3#8 → b.stop = false →
      LinkReceiver.hunt.takeByte b = (.hunt, [.linkFrameDiscard .noStopBit])) ∧
    (b.value = 0xC3#8 → b.stop = true → LinkReceiver.hunt.takeByte b = (.length, [])) ∧
    (∀ r : LinkReceiver, r ≠ .hunt → 1000 < b.gap →
      r.takeByte b = ((LinkReceiver.hunt.takeByte b).1,
        .linkFrameDiscard .gap :: (LinkReceiver.hunt.takeByte b).2)) ∧
    (∀ r : LinkReceiver, r ≠ .hunt → b.gap ≤ 1000 → b.stop = false →
      r.takeByte b = (.hunt, [.linkFrameDiscard .noStopBit])) ∧
    (b.gap ≤ 1000 → b.stop = true → b.value = 0x00#8 ∨ 250 < b.value.toNat →
      LinkReceiver.length.takeByte b = (.hunt, [.linkFrameDiscard .badLength]))) ∧
  (∀ (start : LineByte) (line : List LineByte) (kind : Byte) (payload check : List Byte),
    payload.length ≤ 249 → check.length = 2 → start.value = 0xC3#8 → start.stop = true →
    (∀ b ∈ line, b.gap ≤ 1000 ∧ b.stop = true) →
    line.map (·.value) = BitVec.ofNat 8 (payload.length + 1) :: kind :: payload ++ check →
    takeBytes .hunt (start :: line) = (.hunt,
      [if check = crcField (BitVec.ofNat 8 (payload.length + 1) :: kind :: payload) then
        requestOf kind payload
      else .linkFrameDiscard .badCrc])) ∧
  (∀ (s : State) (b : LineByte) (rest : List LineByte), AtRest s → s.link.line = b :: rest →
    b.gap ≤ s.link.waited →
    ∃ t, step s = .next t ∧ t.link.line = rest ∧ t.link.receiver = (s.link.receiver.takeByte b).1 ∧
      t.link.waited = 0 ∧ (s.link.receiver.takeByte b).2 <:+ t.model.arrived) ∧
  (∀ s : State, AtRest s → (∀ b ∈ s.link.line.head?, s.link.waited < b.gap) →
    ∃ t, step s = .next t ∧ t.link = { s.link with
      waited := s.link.waited + 1
      sending := if s.link.responses = [] then s.link.sending else s.link.sending + 1 }) ∧
  (∀ s : State, ComesAbout .responseSentWhole s ↔ ∃ r rest, s.link.responses = r :: rest ∧
    (r.payload.length + 6) * 10 * 100000 ≤ 115200 * s.link.sending) ∧
  (∀ (r : Response) (covered : List Byte),
    covered = fieldBytes [(1, r.payload.length + 2), (1, r.kind), (1, r.result.code)] ++ r.payload →
    responseFrame r = 0xC3#8 :: covered ++ crcField covered) ∧
  ([.ok, .badRequest, .notRunning, .noConfig, .badConfig, .hosesActive, .notFitted, .hoseOut, .busy,
    .nozzleLifted, .estop, .recordsFull, .unknownClass, .vehicleActive, .viewFull, .barred,
    .hoursImplausible, .hoursRegression, .totaliserImplausible, .totaliserRegression, .originFull,
    .allowanceUsed, .serviceHold, .netCap, .preset, .notActive, .ending, .notFrozen, .notJoined,
    .sequenceLimit, .noMatch, .noEntry, .empty] : List Result).map Result.code =
      [0x00, 0x01, 0x02, 0x03, 0x04, 0x05, 0x06, 0x07, 0x08, 0x09, 0x0A, 0x0B, 0x0C, 0x0D, 0x0E, 0x0F,
       0x10, 0x11, 0x12, 0x13, 0x14, 0x15, 0x16, 0x17, 0x18, 0x19, 0x1A, 0x1B, 0x1C, 0x1D, 0x1E, 0x1F,
       0x20]

/-! ### Frames received (chapters 1, 3, 4, 5) -/

/-- BEACON in a running station, within the ranges of R83: from another station, the clock by Table 3-1, with the
three effects of R51 where the shift changes, and the sender's entry by R60 and Table 4-2, with the rejoin of R70;
with the own number, a clash (R65). That a held clock, of which R47 says that no beacon can move it on, stands where
it is under a beacon that leads it is the model's reading (notes/assumptions/13.md). -/
def Obligations.BeaconTaken : Prop :=
  ∀ (s : State) (c : ConfigBlock) (i : Fin 16) (pos : ClockPos) (interval : Nat) (d : Int) (p : Peer),
    s.net.state ≠ .standby → s.store.block = some c →
    pos.time < c.shiftLength → pos.shift ≤ 16777215 → 5 ≤ interval → interval ≤ 60 →
    d = ((pos.shift : Int) - s.clock.pos.shift) * c.shiftLength + ((pos.time : Int) - s.clock.pos.time) →
    p = s.net.peers[i] → p.sound →
    (i.val + 1 = c.station → ∃ t, exec (.beacon (i.val + 1) pos interval) s = .next t ∧
      t.net = { s.net with clash := min 65535 (s.net.clash + 1) } ∧ t.clock = s.clock ∧
      t.view = s.view ∧ t.radio = s.radio ∧ KeepsForecourt s t ∧ Raised .numberClash s t) ∧
    (i.val + 1 ≠ c.station → ∃ t, exec (.beacon (i.val + 1) pos interval) s = .next t ∧
      (d ≤ 2 → t.clock = s.clock) ∧
      (2 < d → d ≤ c.shiftLength → s.clock.held = false →
        t.clock.pos = pos ∧ t.clock.phase = 0 ∧ t.clock.reject = s.clock.reject ∧ t.clock.set = s.clock.set ∧
        (s.clock.pos.shift < pos.shift →
          (∀ e ∈ t.view.entries, e.origins = []) ∧
          t.view = { s.view with entries := s.view.entries.map fun e => { e with origins := [] } } ∧
          ∀ k : Fin 8, t.clock.active[k] = s.clock.staged[k].getD s.clock.active[k] ∧
            t.clock.staged[k] = none) ∧
        (pos.shift ≤ s.clock.pos.shift → t.view = s.view ∧ t.clock.active = s.clock.active ∧
          t.clock.staged = s.clock.staged)) ∧
      (d ≤ 2 → t.view = s.view) ∧
      (2 < d → d ≤ c.shiftLength → s.clock.held = true → t.clock = s.clock ∧ t.view = s.view) ∧
      (c.shiftLength < d → t.clock = { s.clock with reject := min 65535 (s.clock.reject + 1) } ∧
        t.view = s.view ∧ Raised .clockReject s t) ∧
      (∀ j : Fin 16, j ≠ i → t.net.peers[j] = s.net.peers[j]) ∧ t.net.clash = s.net.clash ∧
      t.net.peers[i].frames = min 65535 (p.frames + 1) ∧ t.net.peers[i].since = some 0 ∧
      t.net.peers[i].interval = interval ∧ t.net.peers[i].missTimer = some (interval * 150000) ∧
      t.net.peers[i].lastHeard = t.clock.pos ∧
      (p.state = .neverHeard → t.net.peers[i].bucket = 0 ∧ t.net.peers[i].state = .present) ∧
      (p.state = .present → t.net.peers[i].bucket = p.bucket - 1 ∧ t.net.peers[i].state = .present) ∧
      (p.state = .fading → t.net.peers[i].bucket = p.bucket - 1 ∧
        t.net.peers[i].state = if p.bucket = 3 then .present else .fading) ∧
      (p.state = .lost → t.net.peers[i].bucket = 2 ∧ t.net.peers[i].state = .present) ∧
      t.net.peers[i].rejoins = (if p.state = .lost then min 65535 (p.rejoins + 1) else p.rejoins) ∧
      (s.net.state = .isolated → p.state ≠ .present → t.net.peers[i].state = .present →
        t.net.state = .listenIn ∧ t.net.listen = some (c.rejoinTime * 100000) ∧ Raised .netState s t) ∧
      (s.net.state ≠ .isolated ∨ p.state = .present ∨ t.net.peers[i].state ≠ .present →
        t.net.state = s.net.state ∧ t.net.listen = s.net.listen) ∧
      t.store = s.store ∧ t.watch = s.watch ∧ t.radio = s.radio ∧ KeepsForecourt s t)

/-- TALLY of a vehicle of a class for which there is room: the clock first (R50), with the effects of R51 on a tally
one shift ahead, then each field merged against the entry (R13 to R16), the usage kept (R34), the send queue's
answer to what the merge changed and to the cover test (R18, R19, R94, R95), a bar that turns barred ending the
vehicle's issue (R22), the sender's entry touched (R64); other vehicles keep their entries but for the origin lists
that a shift change empties. -/
def Obligations.TallyMerged : Prop :=
  ∀ (s : State) (c : ConfigBlock) (i : Fin 16) (f : TallyFrame) (cls : Fin 8) (old : VehicleEntry)
    (origins : List OriginEntry) (shift : Nat),
    s.net.state ≠ .standby → s.store.block = some c → ConfigSound s →
    ViewOrdered s → f.inRange c.shiftLength = true → classOf c f.vehicle = some cls →
    (s.entry f.vehicle = none → s.view.entries.length < 256) → old = s.entryOrNew f.vehicle cls →
    shift = (if f.shift = s.clock.pos.shift + 1 then f.shift else s.clock.pos.shift) →
    origins = (if f.shift = s.clock.pos.shift + 1 then [] else old.origins) →
    ∃ t e, exec (.tally (i.val + 1) f) s = .next t ∧ t.entry f.vehicle = some e ∧
      t.clock.pos = (if f.shift = s.clock.pos.shift + 1 then ⟨f.shift, 0⟩ else s.clock.pos) ∧
      (f.shift ≠ s.clock.pos.shift + 1 → t.clock = s.clock) ∧
      (f.shift = s.clock.pos.shift + 1 → t.clock.phase = 0 ∧ t.clock.reject = s.clock.reject ∧
        t.clock.set = s.clock.set ∧
        ∀ k : Fin 8, t.clock.active[k] = s.clock.staged[k].getD s.clock.active[k] ∧
          t.clock.staged[k] = none) ∧
      (∀ w, w ≠ f.vehicle → t.entry w = (s.entry w).map fun x =>
        if f.shift = s.clock.pos.shift + 1 then { x with origins := [] } else x) ∧
      (f.shift ≠ shift → e.origins = origins ∧ t.view.originFull = s.view.originFull ∧
        t.view.staleShift = min 65535 (s.view.staleShift + 1)) ∧
      (f.shift = shift → t.view.staleShift = s.view.staleShift ∧ OriginsOrdered e.origins ∧
        (∀ st tag a, amountOf st tag origins = some a → ∃ a', amountOf st tag e.origins = some a' ∧
          a ≤ a' ∧ (a' = a ∨ (⟨st, tag, a'⟩ : OriginEntry) ∈ f.origins)) ∧
        (∀ st tag a, amountOf st tag e.origins = some a →
          amountOf st tag origins = some a ∨ (⟨st, tag, a⟩ : OriginEntry) ∈ f.origins) ∧
        (∀ o ∈ f.origins, (∃ a', amountOf o.station o.tag e.origins = some a' ∧ o.amount ≤ a') ∨
          e.origins.length = 16 ∧ amountOf o.station o.tag e.origins = none) ∧
        t.view.originFull = min 65535 (s.view.originFull +
          (f.origins.filter fun o => (amountOf o.station o.tag e.origins).isNone).length)) ∧
      e.hours = (match f.hours, old.hours with
        | none, l => l
        | some r, none => some r
        | some r, some l => if l.value < r.value then some r else some l) ∧
      e.totaliser = (match f.totaliser, old.totaliser with
        | none, l => l
        | some r, none => some r
        | some r, some l => if l.value < r.value then some r else some l) ∧
      (∀ k : Fin 4, e.services[k] =
        if f.services[k].epoch ≠ 0 ∧ (old.services[k].epoch < f.services[k].epoch ∨
          old.services[k].epoch = f.services[k].epoch ∧ old.services[k].origin < f.services[k].origin)
        then f.services[k] else old.services[k]) ∧
      e.bar = (if f.bar.version ≠ 0 ∧ (old.bar.version < f.bar.version ∨
          old.bar.version = f.bar.version ∧ old.bar.origin < f.bar.origin)
        then f.bar else old.bar) ∧
      e.cls = old.cls ∧ withUsage c e = e ∧
      (s.entry f.vehicle = none ∨ e ≠ { old with origins := origins } →
        t.radio = { s.radio with queue := queueWith f.vehicle s.radio.queue }) ∧
      (s.entry f.vehicle ≠ none → e = { old with origins := origins } →
        (TallyCovers shift f e →
          t.radio = { s.radio with queue := queueHeard c.suppression f.vehicle s.radio.queue }) ∧
        (¬ TallyCovers shift f e → t.radio = s.radio)) ∧
      (old.bar.barred = false → e.bar.barred = true →
        ∀ h x, s.context h = some x → x.vehicle = f.vehicle →
          ((s.hose h).ctl.state = .authorized → t.context h = none ∧
            (t.hose h).ctl.authTimer = none ∧ (t.hose h).ctl.state =
              if (s.hose h).health.frozen = true then .outOfService else .idle) ∧
          ((s.hose h).ctl.state.issuing = true → (t.hose h).ctl.state = .closing ∧
            t.context h = some { x with endReason := some .barred }) ∧
          ((s.hose h).ctl.state ≠ .authorized → (s.hose h).ctl.state.issuing = false →
            (t.hose h).same (s.hose h))) ∧
      (∀ h, (old.bar.barred = true ∨ e.bar.barred = false ∨
          (∀ x, s.context h = some x → x.vehicle ≠ f.vehicle)) →
        (t.hose h).same (s.hose h)) ∧
      ((∀ h : Fin 4, (s.hose h).ctl.state ≠ .authorized) → t.records = s.records) ∧
      (∀ j : Fin 12, j ≠ 2 → j ≠ 4 → j ≠ 11 → t.notices.entries[j] = s.notices.entries[j]) ∧
      (i.val + 1 ≠ c.station →
        t.net.peers[i] = { s.net.peers[i] with
          frames := min 65535 (s.net.peers[i].frames + 1), since := some 0 } ∧
        ∀ j : Fin 16, j ≠ i → t.net.peers[j] = s.net.peers[j]) ∧
      (i.val + 1 = c.station → t.net = s.net) ∧
      t.net.state = s.net.state ∧ t.net.listen = s.net.listen ∧ t.store = s.store ∧
      t.records.records = s.records.records

/-- The merge is idempotent: a tally merged again into the entry it was just merged into changes nothing, so a
frame heard twice does no harm (R13 to R17; the purpose is stated in 00_scope.md, section 0.1). -/
def Obligations.MergeTwiceChangesNothing : Prop :=
  ∀ (shift : Nat) (f : TallyFrame) (created : Bool) (e : VehicleEntry),
    (mergeTally shift f false (mergeTally shift f created e).entry).changed = false ∧
    (mergeTally shift f false (mergeTally shift f created e).entry).entry =
      (mergeTally shift f created e).entry

/-- Frames that do no more than count: a dropped frame counts once, under bad CRC or malformed (R82); a BEACON or
TALLY command with a station outside 1..16 or a field out of range counts as malformed (the model's choice,
notes/assumptions/12.md); a tally of no class, and one that meets a full view, count and change neither view entry nor
send queue (R9, R12), but for the shift change of a tally one shift ahead, which is made first (R12, R50, R51), and
the touch of the sender's entry (R64). -/
def Obligations.FramesDropped : Prop :=
  ∀ (s : State) (c : ConfigBlock), s.net.state ≠ .standby → s.store.block = some c →
    exec (.radioFrameDrop .crc) s =
      .next { s with radio := { s.radio with badCrc := min 65535 (s.radio.badCrc + 1) } } ∧
    (∀ cause : DropCause, cause ≠ .crc → exec (.radioFrameDrop cause) s =
      .next { s with radio := { s.radio with malformed := min 65535 (s.radio.malformed + 1) } }) ∧
    (∀ (n : Nat) (f : TallyFrame), n = 0 ∨ 16 < n ∨ f.inRange c.shiftLength = false →
      exec (.tally n f) s =
        .next { s with radio := { s.radio with malformed := min 65535 (s.radio.malformed + 1) } }) ∧
    (∀ (n : Nat) (pos : ClockPos) (interval : Nat), n = 0 ∨ 16 < n ∨ c.shiftLength ≤ pos.time ∨
        16777215 < pos.shift ∨ interval < 5 ∨ 60 < interval →
      exec (.beacon n pos interval) s =
        .next { s with radio := { s.radio with malformed := min 65535 (s.radio.malformed + 1) } }) ∧
    (∀ (i : Fin 16) (f : TallyFrame) (ahead : Prop) (entries : List VehicleEntry),
      f.inRange c.shiftLength = true → (ahead ↔ f.shift = s.clock.pos.shift + 1) →
      (ahead → entries = s.view.entries.map fun e => { e with origins := [] }) →
      (¬ ahead → entries = s.view.entries) →
      classOf c f.vehicle = none ∨ s.entry f.vehicle = none ∧ 256 ≤ s.view.entries.length →
      ∃ t, exec (.tally (i.val + 1) f) s = .next t ∧
        (classOf c f.vehicle = none → t.notices = s.notices ∧ t.view = { s.view with
          entries := entries, noClass := min 65535 (s.view.noClass + 1) }) ∧
        (classOf c f.vehicle ≠ none → Raised .viewFull s t ∧ t.view = { s.view with
          entries := entries, viewFull := min 65535 (s.view.viewFull + 1) }) ∧
        (¬ ahead → t.clock = s.clock) ∧
        (ahead → t.clock.pos = ⟨f.shift, 0⟩ ∧ t.clock.phase = 0 ∧ t.clock.reject = s.clock.reject ∧
          ∀ k : Fin 8, t.clock.active[k] = s.clock.staged[k].getD s.clock.active[k] ∧
            t.clock.staged[k] = none) ∧
        (i.val + 1 = c.station → t.net = s.net) ∧
        (i.val + 1 ≠ c.station → t.net.peers[i] = { s.net.peers[i] with
            frames := min 65535 (s.net.peers[i].frames + 1), since := some 0 } ∧
          (∀ j : Fin 16, j ≠ i → t.net.peers[j] = s.net.peers[j]) ∧ t.net.state = s.net.state ∧
          t.net.listen = s.net.listen ∧ t.net.clash = s.net.clash) ∧
        t.radio = s.radio ∧ t.watch = s.watch ∧ t.store = s.store ∧ KeepsForecourt s t)

/-! ### Clock and peer timers (chapters 3, 4) -/

/-- SHIFT_CLOCK_SECOND on a set clock that is not held: one second on below the last, the rollover after it with
the effects of R51, and the hold at the last second of the last shift (R47). At rest the second under way grows by a
tick, and the second has come about when it holds 100,000 of them. That SHIFT_CLOCK_SECOND is taken as a command
whatever part of the second has passed is the model's choice (notes/assumptions/6.md). -/
def Obligations.ClockSecond : Prop :=
  ∀ (s : State) (c : ConfigBlock), s.store.block = some c → s.clock.set = true → s.clock.held = false →
    (AtRest s → ∃ t, step s = .next t ∧ t.clock = { s.clock with phase := s.clock.phase + 1 }) ∧
    (ComesAbout .shiftClockSecond s ↔ 100000 ≤ s.clock.phase) ∧
    (s.clock.pos.time + 2 < c.shiftLength ∨
        s.clock.pos.time + 1 < c.shiftLength ∧ s.clock.pos.shift < 16777215 →
      exec .shiftClockSecond s = .next { s with clock := { s.clock with
        pos := ⟨s.clock.pos.shift, s.clock.pos.time + 1⟩, phase := 0 } }) ∧
    (c.shiftLength ≤ s.clock.pos.time + 1 → s.clock.pos.shift < 16777215 → 2 ≤ c.shiftLength →
      exec .shiftClockSecond s = .next { s with
        view := { s.view with entries := s.view.entries.map fun e => { e with origins := [] } }
        clock := { s.clock with
          pos := ⟨s.clock.pos.shift + 1, 0⟩, phase := 0
          active := Vector.ofFn fun k => (s.clock.staged[k]).getD s.clock.active[k]
          staged := Vector.replicate 8 none } }) ∧
    (c.shiftLength = s.clock.pos.time + 2 → s.clock.pos.shift = 16777215 →
      ∃ t, exec .shiftClockSecond s = .next t ∧ t.clock.held = true ∧
        t.clock.pos = ⟨16777215, c.shiftLength - 1⟩ ∧ t.view = s.view ∧
        exec .shiftClockSecond t = .next t)

/-- The timers of the peer table: a miss moves the bucket one on, to LOST at 8 with the timer stopped (R62), and
in JOINED takes the station to ISOLATED when no peer is left active (R69); the listen timer's end takes LISTEN_IN
to JOINED with a peer PRESENT and to ISOLATED without (R68). At rest every running timer loses a tick, and its expiry
has come about exactly when it has run out. That the expiry is taken as a command whatever time its timer has left is
the model's choice (notes/assumptions/6.md). -/
def Obligations.PeerTimers : Prop :=
  (∀ s : State, AtRest s → ∃ t, step s = .next t ∧
    t.net = { s.net with
      listen := tickDown s.net.listen
      peers := s.net.peers.map fun p => { p with
        missTimer := tickDown p.missTimer, since := p.since.map fun n => min 6553500000 (n + 1) } }) ∧
  (∀ s : State, s.store.block.isSome = true →
    (∀ i : Fin 16, ComesAbout (.missTimerExpiry (i.val + 1)) s ↔ s.net.peers[i].missTimer = some 0) ∧
    (ComesAbout .listenTimerExpiry s ↔ s.net.state = .listenIn ∧ s.net.listen = some 0)) ∧
  (∀ (s : State) (i : Fin 16) (p : Peer), p = s.net.peers[i] → p.missTimer.isSome = true → p.bucket ≤ 7 →
    ∃ t, exec (.missTimerExpiry (i.val + 1)) s = .next t ∧
      t.net.peers[i] = { p with
        bucket := p.bucket + 1
        state := if p.bucket + 1 ≤ 2 then .present else if p.bucket + 1 ≤ 7 then .fading else .lost
        missTimer := if p.bucket = 7 then none else some (p.interval * 150000) } ∧
      (∀ j : Fin 16, j ≠ i → t.net.peers[j] = s.net.peers[j]) ∧
      t.net.clash = s.net.clash ∧ t.net.listen = s.net.listen ∧
      (s.net.state = .joined → activePeers t.net.peers = 0 →
        t.net.state = .isolated ∧ Raised .netState s t) ∧
      (s.net.state ≠ .joined ∨ 0 < activePeers t.net.peers →
        t.net.state = s.net.state ∧ t.notices = s.notices) ∧
      t.store = s.store ∧ t.view = s.view ∧ t.clock = s.clock ∧ t.radio = s.radio ∧
      KeepsForecourt s t) ∧
  (∀ s : State, s.net.state = .listenIn → s.net.listen.isSome = true →
    ∃ t, exec .listenTimerExpiry s = .next t ∧
      t.net = { s.net with
        state := if ∃ i : Fin 16, s.net.peers[i].state = .present then .joined else .isolated
        listen := none } ∧
      Raised .netState s t ∧ t.store = s.store ∧ t.view = s.view ∧ t.clock = s.clock ∧
      t.radio = s.radio ∧ KeepsForecourt s t)

/-! ### Channel access (chapter 5) -/

/-- BEACON_DUE and TALLY_DUE: the frame becomes due with the access limit to run (R91), an idle transmitter begins a
quiet wait and another goes on (R85, R89); the next beacon is due after I × 875 to I × 1125 ms (R87). At rest the
schedule loses a tick and a running gap clock gains one; the beacon falls due exactly when the schedule has run out,
and the tally, with none due, exactly when the gap clock has reached the base gap with a vehicle queued, or the
refresh gap with the queue empty and an entry in the view, times one more than the active peers (R66, R88). That the
event is taken as a command with any time left to the schedule and at any value of the gap clock is the model's
choice (notes/assumptions/6.md). -/
def Obligations.FramesFallDue : Prop :=
  (∀ s : State, AtRest s → ∃ t, step s = .next t ∧ t.radio.schedule = tickDown s.radio.schedule ∧
    t.radio.gapClock = s.radio.gapClock.map (· + 1)) ∧
  (∀ (s : State) (c : ConfigBlock) (active : Nat), s.store.block = some c →
    active = ((List.finRange 16).filter fun i => decide (s.net.peers[i].state = .present) ||
      decide (s.net.peers[i].state = .fading)).length →
    (ComesAbout .beaconDue s ↔ s.radio.schedule = some 0) ∧
    (ComesAbout .tallyDue s ↔ s.radio.dueTally = none ∧ ∃ n, s.radio.gapClock = some n ∧
      (s.radio.queue ≠ [] ∧ c.baseGap * 100 * (1 + active) ≤ n ∨
        s.radio.queue = [] ∧ s.view.entries ≠ [] ∧ c.refreshGap * 100000 * (1 + active) ≤ n))) ∧
  ∀ (s : State) (fresh : Transmitter),
    fresh = (match s.radio.tx with
      | .idle => if s.radio.cd = true then .quiet none none else .quiet (some 1000) none
      | tx => tx) →
    (∀ c n, s.store.block = some c → s.radio.schedule = some n →
      ∃ t ms, exec .beaconDue s = .next t ∧ c.beaconInterval * 875 ≤ ms ∧
        ms ≤ c.beaconInterval * 1125 ∧
        t.radio = { s.radio with
          dueBeacon := some 200000, schedule := some (ms * 100), tx := fresh } ∧
        t.store = s.store ∧ t.view = s.view ∧ t.clock = s.clock ∧ t.net = s.net ∧
        t.notices = s.notices ∧ KeepsForecourt s t) ∧
    (∀ n, s.radio.gapClock = some n → s.radio.dueTally = none →
      s.radio.queue ≠ [] ∨ s.view.entries ≠ [] →
      exec .tallyDue s = .next { s with radio := { s.radio with
        dueTally := some 200000, tx := fresh } })

/-- QUIET_TIME_PASSED and BACKOFF_SLOT_END: a backoff is drawn from 0..CW-1, or the frozen count resumes; each slot
counts one; a drawn or frozen 0 and the last slot bring the opportunity, at which the frame of R85 and R86 is sent.
At rest the wait and the slot lose a tick, and each ends exactly when it has run out, a slot with CD clear. That the
event is taken as a command with any time of the wait or the slot left is the model's choice
(notes/assumptions/6.md). -/
def Obligations.BackoffAndSend : Prop :=
  ∀ (s : State) (c : ConfigBlock), s.store.block = some c → 0 < s.radio.cw →
    s.view.entries.Pairwise (fun a b => a.number < b.number) →
    (AtRest s → ∃ t, step s = .next t ∧
      (∀ left frozen, s.radio.tx = .quiet left frozen → t.radio.tx = .quiet (tickDown left) frozen) ∧
      (∀ d n, s.radio.tx = .countdown d n → t.radio.tx = .countdown d (n - 1))) ∧
    (ComesAbout .quietTimePassed s ↔ ∃ frozen, s.radio.tx = .quiet (some 0) frozen) ∧
    (ComesAbout .backoffSlotEnd s ↔ s.radio.cd = false ∧ ∃ d, s.radio.tx = .countdown d 0) ∧
    (∀ n, s.radio.tx = .quiet (some n) none → CanSend s →
      ∃ d u t, d < s.radio.cw ∧
        u = { s with model := { s.model with draws := s.model.draws + 1 } } ∧
        exec .quietTimePassed s = .next t ∧
        (0 < d → t = { u with radio := { u.radio with tx := .countdown d 500 } }) ∧
        (d = 0 → SentAtOpportunity c u t)) ∧
    (∀ n d, s.radio.tx = .quiet (some n) (some d) → 0 < d →
      exec .quietTimePassed s = .next { s with radio := { s.radio with tx := .countdown d 500 } }) ∧
    (∀ n, s.radio.tx = .quiet (some n) (some 0) → CanSend s →
      ∃ t, exec .quietTimePassed s = .next t ∧ SentAtOpportunity c s t) ∧
    (∀ d n, s.radio.tx = .countdown d n → s.radio.cd = false → 1 < d →
      exec .backoffSlotEnd s = .next { s with radio := { s.radio with tx := .countdown (d - 1) 500 } }) ∧
    (∀ d n, s.radio.tx = .countdown d n → s.radio.cd = false → d ≤ 1 → CanSend s →
      ∃ t, exec .backoffSlotEnd s = .next t ∧ SentAtOpportunity c s t)

/-- CARRIER_DETECT_RISE and CARRIER_DETECT_FALL: a countdown freezes with its remaining count and CW doubles, up to
256; a quiet wait restarts, and counts its 10 ms from the fall of CD; CW is not touched by a quiet wait (R89, R90). -/
def Obligations.CarrierDetect : Prop :=
  ∀ s : State,
    (∀ d n, s.radio.cd = false → s.radio.tx = .countdown d n →
      exec .carrierDetectRise s = .next { s with radio := { s.radio with
        cd := true, tx := .quiet none (some d), cw := min 256 (2 * s.radio.cw) } }) ∧
    (∀ n d, s.radio.cd = false → s.radio.tx = .quiet n d →
      exec .carrierDetectRise s = .next { s with radio := { s.radio with
        cd := true, tx := .quiet none d } }) ∧
    (∀ n d, s.radio.cd = true → s.radio.tx = .quiet n d →
      exec .carrierDetectFall s = .next { s with radio := { s.radio with
        cd := false, tx := .quiet (some 1000) d } }) ∧
    (s.radio.cd = false → s.radio.tx = .idle →
      exec .carrierDetectRise s = .next { s with radio := { s.radio with cd := true } }) ∧
    (s.radio.cd = true → s.radio.tx = .idle →
      exec .carrierDetectFall s = .next { s with radio := { s.radio with cd := false } })

/-- ACCESS_LIMIT_EXPIRY and TRANSMISSION_END: an abandoned frame is no longer due and is counted, an abandoned
tally restarts the gap clock, the attempt goes on while the other frame is due (R91); a transmission's end
restarts the gap clock and begins a fresh attempt for a frame that is due (R86). At rest a running limit loses a tick
and a frame on air gains one; the limit expires exactly when it has run out, and the transmission ends when the frame
has had its key-up delay and eight bits for each byte at 19,200 bit/s (R76). That the event is taken as a command with
any time of the limit left, and at any moment of the transmission, is the model's choice (notes/assumptions/6.md). -/
def Obligations.AccessEnds : Prop :=
  (∀ s : State, AtRest s → ∃ t, step s = .next t ∧ t.radio.dueBeacon = tickDown s.radio.dueBeacon ∧
    t.radio.dueTally = tickDown s.radio.dueTally ∧
    (∀ f, s.radio.tx = .sending f → t.radio.tx = .sending { f with elapsed := f.elapsed + 1 })) ∧
  (∀ (s : State) (c : ConfigBlock), s.store.block = some c →
    (ComesAbout (.accessLimitExpiry .beacon) s ↔ s.radio.dueBeacon = some 0) ∧
    (ComesAbout (.accessLimitExpiry .tally) s ↔ s.radio.dueTally = some 0) ∧
    (ComesAbout .transmissionEnd s ↔ ∃ f, s.radio.tx = .sending f ∧ c.keyUpDelay * 100 ≤ f.elapsed ∧
      f.bytes.length * 8 * 100000 ≤ 19200 * (f.elapsed - c.keyUpDelay * 100))) ∧
  ∀ s : State,
    (∀ n, s.radio.dueBeacon = some n →
      exec (.accessLimitExpiry .beacon) s = .next { s with radio := { s.radio with
        dueBeacon := none, abandoned := min 65535 (s.radio.abandoned + 1)
        tx := if s.radio.dueTally.isSome = true ∨ s.radio.tx.key = true then s.radio.tx else .idle } }) ∧
    (∀ n, s.radio.dueTally = some n →
      exec (.accessLimitExpiry .tally) s = .next { s with radio := { s.radio with
        dueTally := none, gapClock := some 0, abandoned := min 65535 (s.radio.abandoned + 1)
        tx := if s.radio.dueBeacon.isSome = true ∨ s.radio.tx.key = true then s.radio.tx else .idle } }) ∧
    (∀ f, s.radio.tx = .sending f →
      exec .transmissionEnd s = .next { s with radio := { s.radio with
        gapClock := some 0
        tx := if s.radio.dueBeacon = none ∧ s.radio.dueTally = none then .idle
          else if s.radio.cd = true then .quiet none none else .quiet (some 1000) none } })

/-! ### Field events (chapters 6, 7, 8) -/

/-- NOZZLE_CHANGE at a fitted hose (R102, R133, R134, R138, R141): a lift in AUTHORIZED starts the issue with the
pump on and the prime wait, or goes on into FLOWING when the pump has run for the prime time, and from there into
SLOWING with a slow point of 0 (R135); a lift in IDLE or OUT_OF_SERVICE is the guard's alone (R105); a hang in
STARTING, FLOWING or SLOWING closes with reason HUNG; a hang in ENDED frees the hose; a hang in IDLE, CLOSING or
OUT_OF_SERVICE and a lift in CLOSING leave the hose as it is (R138); an unmatched guard counts nothing and raises
nothing, and is matched again once no hose offends (R105). The change comes about when the filter's run count has
reached the filter length (R100): at rest, a nozzle input is sampled once each millisecond (R99), at its first tick
(the model's choice, notes/assumptions/25.md), and the run count starts again with the change. -/
def Obligations.NozzleChange : Prop :=
  ∀ (s : State) (c : ConfigBlock) (h : Fin 4), s.store.block = some c → c.fitted[h] = true →
    OutputsFollow s →
    (AtRest s → ∃ t, step s = .next t ∧ t.field.samplePhase = (s.field.samplePhase + 1) % 100 ∧
      t.field.sincePumpOn = s.field.sincePumpOn + 1 ∧
      (t.hose h).nozzle = if s.field.samplePhase = 0 then { (s.hose h).nozzle with
          run := runAfter ((s.hose h).nozzle.level == c.nozzleHigh[h]) (s.hose h).nozzle.active
            (s.hose h).nozzle.run }
        else (s.hose h).nozzle) ∧
    (c.nozzleFilter ≤ (s.hose h).nozzle.run ↔
      (.nozzleChange (h.val + 1) (!(s.hose h).nozzle.active), s) ∈ candidates s) ∧
    (∀ x, (s.hose h).nozzle.active = false → (s.hose h).ctl.state = .authorized →
      s.context h = some x → s.field.stop.active = false →
      ∃ t, exec (.nozzleChange (h.val + 1) true) s = .next t ∧
        (t.hose h).nozzle.active = true ∧ (t.hose h).nozzle.run = 0 ∧
        t.context h = some x ∧ t.field.pumpRun = true ∧ (t.hose h).ctl.authTimer = none ∧
        (t.hose h).meter.fraction = 512 ∧ (t.hose h).meter.delivered = 0 ∧
        (t.hose h).meter.overrun = 0 ∧
        ((s.field.pumpRun = false ∧ 0 < c.primeTime) ∨
            (s.field.pumpRun = true ∧ s.field.sincePumpOn < c.primeTime * 100000) →
          (t.hose h).ctl.state = .starting ∧ (t.hose h).ctl.mainValve = false ∧
          (t.hose h).ctl.slowValve = false ∧
          (t.hose h).ctl.primeTimer = some (c.primeTime * 100000 -
            if s.field.pumpRun = true then s.field.sincePumpOn else 0)) ∧
        ((s.field.pumpRun = true ∧ c.primeTime * 100000 ≤ s.field.sincePumpOn) ∨ c.primeTime = 0 →
          0 < x.slowPoint →
          (t.hose h).ctl.state = .flowing ∧ (t.hose h).ctl.mainValve = true ∧
          (t.hose h).ctl.slowValve = true ∧ (t.hose h).meter.firstPulse = true ∧
          (t.hose h).ctl.startTimer = some (c.startTime * 100000)) ∧
        ((s.field.pumpRun = true ∧ c.primeTime * 100000 ≤ s.field.sincePumpOn) ∨ c.primeTime = 0 →
          x.slowPoint = 0 →
          (t.hose h).ctl.state = .slowing ∧ (t.hose h).ctl.mainValve = false ∧
          (t.hose h).ctl.slowValve = true ∧ (t.hose h).meter.firstPulse = true ∧
          (t.hose h).ctl.startTimer = some (c.startTime * 100000) ∧
          (t.hose h).meter.settle = some (c.settleTime * 100000)) ∧
        (∀ j : Fin 4, j ≠ h → (t.hose j).same (s.hose j)) ∧ KeepsStation s t ∧ t.records = s.records) ∧
    (∀ x, (s.hose h).nozzle.active = true → (s.hose h).ctl.state.issuing = true →
      s.context h = some x →
      ∃ t, exec (.nozzleChange (h.val + 1) false) s = .next t ∧
        (t.hose h).nozzle.active = false ∧ (t.hose h).nozzle.run = 0 ∧
        (t.hose h).ctl.state = .closing ∧ t.context h = some { x with endReason := some .hung } ∧
        (t.hose h).ctl.mainValve = false ∧ (t.hose h).ctl.slowValve = false ∧
        (t.hose h).ctl.overrunTimer = some (c.overrunWindow * 100000) ∧
        (∀ j : Fin 4, j ≠ h → (t.hose j).same (s.hose j)) ∧ KeepsStation s t ∧ t.records = s.records) ∧
    ((s.hose h).nozzle.active = true → (s.hose h).ctl.state = .ended →
      ∃ t, exec (.nozzleChange (h.val + 1) false) s = .next t ∧ t.context h = none ∧
        (t.hose h).ctl.state = (if (s.hose h).health.frozen = true then .outOfService else .idle) ∧
        (t.hose h).meter = (s.hose h).meter ∧
        (∀ j : Fin 4, j ≠ h → (t.hose j).same (s.hose j)) ∧ KeepsStation s t ∧ t.records = s.records) ∧
    ((s.hose h).nozzle.active = false →
      (s.hose h).ctl.state = .idle ∨ (s.hose h).ctl.state = .outOfService → s.net.state ≠ .standby →
      s.field.matched = true →
      ∃ t, exec (.nozzleChange (h.val + 1) true) s = .next t ∧ (t.hose h).ctl = (s.hose h).ctl ∧
        t.field.matched = false ∧
        (t.hose h).guardCount = min 65535 ((s.hose h).guardCount + 1) ∧ Raised .nozzleGuard s t ∧
        (t.hose h).nozzle.active = true ∧ (t.hose h).nozzle.run = 0 ∧
        (t.hose h).meter = (s.hose h).meter ∧ (t.hose h).health = (s.hose h).health ∧
        (∀ j : Fin 4, j ≠ h → (t.hose j).same (s.hose j)) ∧
        (GuardSound s → ∀ j : Fin 4, j ≠ h → (t.hose j).guardCount = (s.hose j).guardCount) ∧
        KeepsStation s t ∧ t.records = s.records) ∧
    ((s.hose h).nozzle.active = false →
      (s.hose h).ctl.state = .idle ∨ (s.hose h).ctl.state = .outOfService → s.net.state ≠ .standby →
      s.field.matched = false →
      ∃ t, exec (.nozzleChange (h.val + 1) true) s = .next t ∧ (t.hose h).ctl = (s.hose h).ctl ∧
        (t.hose h).nozzle.active = true ∧ (t.hose h).nozzle.run = 0 ∧ t.field = s.field ∧
        (∀ j : Fin 4, (t.hose j).guardCount = (s.hose j).guardCount) ∧ t.notices = s.notices ∧
        (∀ j : Fin 4, j ≠ h → (t.hose j).same (s.hose j)) ∧ KeepsStation s t ∧ t.records = s.records) ∧
    (∀ lifted : Bool, GuardSound s → s.net.state ≠ .standby → (s.hose h).nozzle.active = !lifted →
      (s.hose h).ctl.state = .closing ∨
        lifted = false ∧ ((s.hose h).ctl.state = .idle ∨ (s.hose h).ctl.state = .outOfService) →
      ∃ t, exec (.nozzleChange (h.val + 1) lifted) s = .next t ∧ (t.hose h).ctl = (s.hose h).ctl ∧
        (t.hose h).nozzle.active = lifted ∧ (t.hose h).nozzle.run = 0 ∧
        (t.hose h).meter = (s.hose h).meter ∧ (t.hose h).health = (s.hose h).health ∧
        GuardSound t ∧ t.field = { s.field with matched := t.field.matched } ∧
        (∀ j : Fin 4, (t.hose j).guardCount = (s.hose j).guardCount) ∧ t.notices = s.notices ∧
        (∀ j : Fin 4, j ≠ h → (t.hose j).same (s.hose j)) ∧ KeepsStation s t ∧ t.records = s.records)

/-- STOP_LINE_CHANGE (R107, R108, R144): an assertion turns STOP_ACTIVE true and every valve off, cancels every
authorisation and closes every issue in STARTING, FLOWING or SLOWING with reason ESTOP; a clearing turns
STOP_ACTIVE false and acts on no hose's state. The change comes about when the filter's run count has reached the
filter length (R100): at rest, the stop line is sampled once each millisecond (R99), at its first tick (the model's
choice, notes/assumptions/25.md). -/
def Obligations.StopLineChange : Prop :=
  ∀ (s : State) (c : ConfigBlock), s.store.block = some c →
    (AtRest s → ∃ t, step s = .next t ∧
      t.field.stop = if s.field.samplePhase = 0 then { s.field.stop with
          run := runAfter (s.field.stop.level == c.stopHigh) s.field.stop.active s.field.stop.run }
        else s.field.stop) ∧
    (c.stopFilter ≤ s.field.stop.run ↔
      (.stopLineChange (!s.field.stop.active), s) ∈ candidates s) ∧
    (s.field.stop.active = false → ∃ t, exec (.stopLineChange true) s = .next t ∧
      t.field.stop.active = true ∧ t.field.stop.run = 0 ∧ t.notices.entries[9].condition = true ∧
      (∀ h : Fin 4, (t.hose h).ctl.mainValve = false ∧ (t.hose h).ctl.slowValve = false ∧
        ((s.hose h).ctl.state = .authorized →
          (t.hose h).ctl.state = (if (s.hose h).health.frozen = true then .outOfService else .idle) ∧
          t.context h = none) ∧
        ((s.hose h).ctl.state.issuing = true → (t.hose h).ctl.state = .closing ∧
          ∀ x, s.context h = some x → t.context h = some { x with endReason := some .estop }) ∧
        ((s.hose h).ctl.state ≠ .authorized → (s.hose h).ctl.state.issuing = false →
          (t.hose h).ctl.state = (s.hose h).ctl.state ∧ t.context h = s.context h) ∧
        (t.hose h).meter.delivered = (s.hose h).meter.delivered ∧
        (t.hose h).health = (s.hose h).health ∧ (t.hose h).nozzle = (s.hose h).nozzle) ∧
      t.records.records = s.records.records ∧ t.records.next = s.records.next ∧ KeepsStation s t) ∧
    (s.field.stop.active = true → ∃ t, exec (.stopLineChange false) s = .next t ∧
      t.field.stop.active = false ∧ t.field.stop.run = 0 ∧ t.notices.entries[9].condition = false ∧
      (∀ h : Fin 4, (t.hose h).ctl.state = (s.hose h).ctl.state ∧ t.context h = s.context h ∧
        (t.hose h).meter = (s.hose h).meter ∧ (t.hose h).health = (s.hose h).health) ∧
      t.records = s.records ∧ KeepsStation s t)

/-- METER_PULSE as an issue pulse in FLOWING, SLOWING or CLOSING: delivered and fraction by R114, the interval
captured by R116, the flow by R117 unless the pulse is the first since the valves opened. In FLOWING the fast count
by R118, in SLOWING with the settle timer elapsed the slow count by R119, and the hose moved as R137 gives: FAULT on
the third capture over the limit, with its health event, else LIMIT, else in FLOWING the slow stage, else no move
with the no-flow timer restarted (R136). In CLOSING only the meter moves (R112, R115), last flow
with it (the model's choice, notes/assumptions/35.md). That the interval is the
counter's value and the ticks that the command names is the model's choice (notes/assumptions/7.md), as is that a
pulse given as a command is counted at an input that has taken no first sample yet (notes/assumptions/36.md). -/
def Obligations.IssuePulse : Prop :=
  ∀ (s : State) (c : ConfigBlock) (h : Fin 4) (x : IssueContext)
    (ticks interval flow delivered fast slow : Nat) (first : Bool),
    s.store.block = some c → c.fitted[h] = true →
    (s.hose h).ctl.state = .flowing ∨ (s.hose h).ctl.state = .slowing ∨
      (s.hose h).ctl.state = .closing →
    s.context h = some x → first = (s.hose h).meter.firstPulse →
    interval = min 65535 ((s.hose h).meter.interval + ticks) → first = true ∨ 0 < interval →
    flow = (if first = true then (s.hose h).meter.lastFlow else if interval = 65535 then 0
      else c.pulseStep[h] * 100000 / (1024 * interval)) →
    delivered = (s.hose h).meter.delivered + ((s.hose h).meter.fraction + c.pulseStep[h]) / 1024 →
    fast = (if first = true then (s.hose h).meter.fastCount
      else if c.maxFlow[h] * 100 / 60 < flow then (s.hose h).meter.fastCount + 1 else 0) →
    slow = (if first = true ∨ (s.hose h).meter.settle.isSome = true then (s.hose h).meter.slowCount
      else if c.slowFlow[h] * 100 / 60 < flow then (s.hose h).meter.slowCount + 1 else 0) →
    ∃ t, exec (.meterPulse (h.val + 1) ticks) s = .next t ∧
      (t.hose h).meter.delivered = delivered ∧
      (t.hose h).meter.fraction = ((s.hose h).meter.fraction + c.pulseStep[h]) % 1024 ∧
      (t.hose h).meter.interval = 0 ∧ (t.hose h).meter.lastFlow = flow ∧
      (t.hose h).meter.firstPulse = false ∧
      (t.hose h).meter.unattributed = (s.hose h).meter.unattributed ∧
      (t.hose h).meter.creep = (s.hose h).meter.creep ∧
      ((s.hose h).ctl.state = .flowing ∧ 3 ≤ fast ∨ (s.hose h).ctl.state = .slowing ∧ 3 ≤ slow →
        (t.hose h).ctl.state = .closing ∧
        t.context h = some { x with endReason := some .fault, healthEvent := true } ∧
        ((s.hose h).health.frozen = false → (s.hose h).health.count < 15 →
          (t.hose h).health.count = (s.hose h).health.count + 1 ∧
          ((t.hose h).health.frozen = true ↔ c.healthThreshold ≤ (s.hose h).health.count + 1)) ∧
        ((s.hose h).health.frozen = true → (t.hose h).health = (s.hose h).health)) ∧
      ((s.hose h).ctl.state = .flowing ∧ fast < 3 ∨ (s.hose h).ctl.state = .slowing ∧ slow < 3 →
        x.limit ≤ delivered → (t.hose h).ctl.state = .closing ∧
        t.context h = some { x with endReason := some .limit } ∧
        (t.hose h).ctl.overrunTimer = some (c.overrunWindow * 100000) ∧
        (t.hose h).health = (s.hose h).health) ∧
      ((s.hose h).ctl.state = .flowing → fast < 3 → delivered < x.limit → x.slowPoint ≤ delivered →
        (t.hose h).ctl.state = .slowing ∧
        t.context h = some x ∧ (t.hose h).ctl.mainValve = false ∧
        (t.hose h).ctl.startTimer = none ∧
        (t.hose h).ctl.noFlowTimer = some (c.noFlowTime * 100000) ∧
        (t.hose h).meter.settle = some (c.settleTime * 100000) ∧
        (t.hose h).meter.fastCount = 0 ∧ (t.hose h).meter.slowCount = 0 ∧
        (t.hose h).health = (s.hose h).health) ∧
      ((s.hose h).ctl.state = .flowing → fast < 3 → delivered < x.limit → delivered < x.slowPoint →
        (t.hose h).ctl.state = .flowing ∧
        t.context h = some x ∧ (t.hose h).ctl.startTimer = none ∧
        (t.hose h).ctl.noFlowTimer = some (c.noFlowTime * 100000) ∧
        (t.hose h).meter.fastCount = fast ∧ (t.hose h).health = (s.hose h).health) ∧
      ((s.hose h).ctl.state = .slowing → slow < 3 → delivered < x.limit →
        (t.hose h).ctl.state = .slowing ∧
        t.context h = some x ∧ (t.hose h).ctl.startTimer = none ∧
        (t.hose h).ctl.noFlowTimer = some (c.noFlowTime * 100000) ∧
        (t.hose h).meter.slowCount = slow ∧ (t.hose h).meter.settle = (s.hose h).meter.settle ∧
        (t.hose h).health = (s.hose h).health) ∧
      ((s.hose h).ctl.state = .closing →
        (t.hose h).ctl = (s.hose h).ctl ∧ (t.hose h).health = (s.hose h).health ∧
        (t.hose h).meter.fastCount = (s.hose h).meter.fastCount ∧
        (t.hose h).meter.slowCount = (s.hose h).meter.slowCount ∧
        (t.hose h).meter.settle = (s.hose h).meter.settle) ∧
      (∀ j : Fin 4, j ≠ h → (t.hose j).same (s.hose j)) ∧ KeepsStation s t ∧ t.records = s.records

/-- METER_PULSE as a creep pulse in IDLE, AUTHORIZED, STARTING, ENDED or OUT_OF_SERVICE (R112, R122, R123): the
unattributed volume and the creep fraction take it, the episode's quiet timer is set to 10 s, no issue's volume
moves, and inside an episode nothing else of the hose moves. The first pulse of an episode is a health event: below
the threshold the controller stands, and at it the count freezes, HOSE_OUT is true, and the hose goes from IDLE to
OUT_OF_SERVICE, from AUTHORIZED by a cancellation to OUT_OF_SERVICE, from STARTING to CLOSING with reason FAULT, and
stays where it is from ENDED and OUT_OF_SERVICE (R145, R151). That a pulse given as a command is counted at an input
that has taken no first sample yet is the model's choice (notes/assumptions/36.md). -/
def Obligations.CreepPulse : Prop :=
  ∀ (s : State) (c : ConfigBlock) (h : Fin 4) (ticks : Nat), s.store.block = some c →
    c.fitted[h] = true →
    (s.hose h).ctl.state ≠ .flowing → (s.hose h).ctl.state ≠ .slowing →
    (s.hose h).ctl.state ≠ .closing →
    ∃ t, exec (.meterPulse (h.val + 1) ticks) s = .next t ∧
      (t.hose h).meter.unattributed = min 4294967295 ((s.hose h).meter.unattributed +
        ((s.hose h).meter.creepFraction + c.pulseStep[h]) / 1024) ∧
      (t.hose h).meter.creepFraction = ((s.hose h).meter.creepFraction + c.pulseStep[h]) % 1024 ∧
      (t.hose h).meter.delivered = (s.hose h).meter.delivered ∧
      (t.hose h).meter.fraction = (s.hose h).meter.fraction ∧
      (t.hose h).meter.interval = 0 ∧ (t.hose h).meter.creep = some 1000000 ∧
      ((s.hose h).meter.creep.isSome = true →
        (t.hose h).ctl = (s.hose h).ctl ∧ (t.hose h).health = (s.hose h).health ∧
        t.records = s.records) ∧
      ((s.hose h).meter.creep = none → (s.hose h).health.frozen = false →
        (s.hose h).health.count < 15 →
        (t.hose h).health.count = (s.hose h).health.count + 1 ∧
        ((t.hose h).health.frozen = true ↔ c.healthThreshold ≤ (s.hose h).health.count + 1) ∧
        ((s.hose h).health.count + 1 < c.healthThreshold →
          (t.hose h).ctl = (s.hose h).ctl ∧ t.records = s.records ∧ t.notices = s.notices) ∧
        (c.healthThreshold ≤ (s.hose h).health.count + 1 → t.notices.entries[8].condition = true ∧
          ((s.hose h).ctl.state = .idle → (t.hose h).ctl.state = .outOfService ∧
            t.context h = s.context h ∧ t.records = s.records) ∧
          ((s.hose h).ctl.state = .authorized → (t.hose h).ctl.state = .outOfService ∧
            t.context h = none ∧ (t.hose h).ctl.authTimer = none ∧
            t.notices.entries[1] = s.notices.entries[1] ∧
            t.records = { s.records with reservations := s.records.reservations - 1 }) ∧
          (∀ x, (s.hose h).ctl.state = .starting → s.context h = some x →
            (t.hose h).ctl.state = .closing ∧ (t.hose h).ctl.primeTimer = none ∧
            (t.hose h).ctl.overrunTimer = some (c.overrunWindow * 100000) ∧
            t.context h = some { x with endReason := some .fault, healthEvent := true } ∧
            t.records = s.records) ∧
          ((s.hose h).ctl.state = .ended ∨ (s.hose h).ctl.state = .outOfService →
            (t.hose h).ctl = (s.hose h).ctl ∧ t.records = s.records))) ∧
      ((s.hose h).health.frozen = true → (t.hose h).ctl = (s.hose h).ctl ∧
        (t.hose h).health = (s.hose h).health) ∧
      (∀ j : Fin 4, j ≠ h → (t.hose j).same (s.hose j)) ∧ KeepsStation s t ∧
      t.records.records = s.records.records

/-- Delivered stands at floor((512 + P × pulses) / 1024) after any number of issue pulses of step P from the start
of an issue, and the fraction carries the rest (R113, R114). A pulse comes about when the run count of its meter
input has reached the filter length (R100): at rest, the input is sampled at every tick (R99), its first sample is
its filtered state (R101), an edge that the edge mode does not count changes the filtered state alone, and a counted
edge changes it with the pulse (R103). Each tick counts into the interval (R116). That a pulse given as a command is
taken, with a run count of 0, whatever the run, and at an input with no first sample yet, is the model's choice
(notes/assumptions/8.md and 36.md). -/
def Obligations.DeliveredFromPulses : Prop :=
  (∀ (m : Meter) (step : Nat) (ticks : List Nat) (m' : Meter),
    m' = ticks.foldl (fun k n => k.countPulse step n) m.startIssue →
    m'.delivered = (512 + step * ticks.length) / 1024 ∧
      m'.fraction = (512 + step * ticks.length) % 1024) ∧
  (∀ (s : State) (c : ConfigBlock) (h : Fin 4) (sample : Bool), s.store.block = some c →
    c.fitted[h] = true → sample = ((s.hose h).meterInput.level == c.meterHigh[h]) →
    (AtRest s → ∃ t, step s = .next t ∧
      (t.hose h).meter.interval = min 65535 ((s.hose h).meter.interval + 1) ∧
      ((s.hose h).meterInput.active = none → (t.hose h).meterInput =
        { (s.hose h).meterInput with active := some sample, run := 0 }) ∧
      (∀ active, (s.hose h).meterInput.active = some active → (t.hose h).meterInput =
        if sample ≠ active ∧ c.meterFilter ≤ (s.hose h).meterInput.run + 1 ∧
            ((c.edgeMode[h] = .rising ∧ sample = false) ∨ (c.edgeMode[h] = .falling ∧ sample = true)) then
          { (s.hose h).meterInput with active := some sample, run := 0 }
        else { (s.hose h).meterInput with
          run := runAfter sample active (s.hose h).meterInput.run })) ∧
    (c.meterFilter ≤ (s.hose h).meterInput.run ↔ (.meterPulse (h.val + 1) 0, s) ∈ candidates s) ∧
    (∀ n : Nat, ∃ t, exec (.meterPulse (h.val + 1) n) s = .next t ∧
      (t.hose h).meterInput.run = 0 ∧
      (c.edgeMode[h] = .rising → (t.hose h).meterInput.active = some true) ∧
      (c.edgeMode[h] = .falling → (t.hose h).meterInput.active = some false) ∧
      (∀ active, c.edgeMode[h] = .both → (s.hose h).meterInput.active = some active →
        (t.hose h).meterInput.active = some (!active)) ∧
      (c.edgeMode[h] = .both → (s.hose h).meterInput.active = none →
        (t.hose h).meterInput.active = some true)))

/-- AUTH_TIMER_EXPIRY and PRIME_WAIT_EXPIRY: the authorisation is cancelled and AUTH_EXPIRED raised (R133, R142);
the prime wait's end opens the valves, or the slow valve alone when the slow point is 0, with the start timer
running (R134, R135). At rest both timers lose a tick, and their ends come about exactly when they have run out
(R127). That they are taken as commands whatever time is left is the model's choice (notes/assumptions/6.md). -/
def Obligations.StartTimers : Prop :=
  ∀ (s : State) (c : ConfigBlock) (h : Fin 4) (n : Nat), s.store.block = some c → c.fitted[h] = true →
    (AtRest s → ∃ t, step s = .next t ∧
      (t.hose h).ctl.authTimer = tickDown (s.hose h).ctl.authTimer ∧
      (t.hose h).ctl.primeTimer = tickDown (s.hose h).ctl.primeTimer) ∧
    (ComesAbout (.authTimerExpiry (h.val + 1)) s ↔
      (s.hose h).ctl.state = .authorized ∧ (s.hose h).ctl.authTimer = some 0) ∧
    (ComesAbout (.primeWaitExpiry (h.val + 1)) s ↔ (s.hose h).ctl.state = .starting ∧
      (s.context h).isSome = true ∧ (s.hose h).ctl.primeTimer = some 0) ∧
    ((s.hose h).ctl.state = .authorized → (s.hose h).ctl.authTimer = some n →
      ∃ t, exec (.authTimerExpiry (h.val + 1)) s = .next t ∧ t.context h = none ∧
        (t.hose h).ctl.state = (if (s.hose h).health.frozen = true then .outOfService else .idle) ∧
        (t.hose h).ctl.authTimer = none ∧ Raised .authExpired s t ∧
        t.records = { s.records with reservations := s.records.reservations - 1 } ∧
        (∀ j : Fin 4, j ≠ h → (t.hose j).same (s.hose j)) ∧ KeepsStation s t) ∧
    (∀ x, (s.hose h).ctl.state = .starting → (s.hose h).ctl.primeTimer = some n →
      s.context h = some x → s.field.stop.active = false →
      ∃ t, exec (.primeWaitExpiry (h.val + 1)) s = .next t ∧ t.context h = some x ∧
        (t.hose h).ctl.primeTimer = none ∧ (t.hose h).ctl.startTimer = some (c.startTime * 100000) ∧
        (t.hose h).ctl.slowValve = true ∧ (t.hose h).meter.firstPulse = true ∧
        (0 < x.slowPoint → (t.hose h).ctl.state = .flowing ∧ (t.hose h).ctl.mainValve = true) ∧
        (x.slowPoint = 0 → (t.hose h).ctl.state = .slowing ∧ (t.hose h).ctl.mainValve = false ∧
          (t.hose h).meter.settle = some (c.settleTime * 100000)) ∧
        (∀ j : Fin 4, j ≠ h → (t.hose j).same (s.hose j)) ∧ KeepsStation s t ∧ t.records = s.records)

/-- START_TIMER_EXPIRY, NO_FLOW_TIMER_EXPIRY, SETTLE_TIMER_EXPIRY and CREEP_QUIET_TIMER_EXPIRY: the hose closes
with reason NO_START or NO_FLOW (R136, R139), the settle timer is elapsed (R119), the creep state is QUIET
(R123). At rest each of the four timers loses a tick, and its end comes about exactly when it has run out. That it is
taken as a command whatever time is left is the model's choice (notes/assumptions/6.md). -/
def Obligations.FlowTimers : Prop :=
  ∀ (s : State) (c : ConfigBlock) (h : Fin 4) (n : Nat), s.store.block = some c → c.fitted[h] = true →
    (AtRest s → ∃ t, step s = .next t ∧
      (t.hose h).ctl.startTimer = tickDown (s.hose h).ctl.startTimer ∧
      (t.hose h).ctl.noFlowTimer = tickDown (s.hose h).ctl.noFlowTimer ∧
      (t.hose h).meter.settle = tickDown (s.hose h).meter.settle ∧
      (t.hose h).meter.creep = tickDown (s.hose h).meter.creep) ∧
    (ComesAbout (.startTimerExpiry (h.val + 1)) s ↔
      (s.hose h).ctl.state.issuing = true ∧ (s.hose h).ctl.startTimer = some 0) ∧
    (ComesAbout (.noFlowTimerExpiry (h.val + 1)) s ↔
      (s.hose h).ctl.state.issuing = true ∧ (s.hose h).ctl.noFlowTimer = some 0) ∧
    (ComesAbout (.settleTimerExpiry (h.val + 1)) s ↔ (s.hose h).meter.settle = some 0) ∧
    (ComesAbout (.creepQuietTimerExpiry (h.val + 1)) s ↔ (s.hose h).meter.creep = some 0) ∧
    (∀ x reason cmd, (s.hose h).ctl.state = .flowing ∨ (s.hose h).ctl.state = .slowing →
      s.context h = some x →
      (cmd = .startTimerExpiry (h.val + 1) ∧ reason = .noStart ∧
          (s.hose h).ctl.startTimer = some n) ∨
        (cmd = .noFlowTimerExpiry (h.val + 1) ∧ reason = .noFlow ∧
          (s.hose h).ctl.noFlowTimer = some n) →
      ∃ t, exec cmd s = .next t ∧ (t.hose h).ctl.state = .closing ∧
        t.context h = some { x with endReason := some reason } ∧
        (t.hose h).ctl.startTimer = none ∧ (t.hose h).ctl.noFlowTimer = none ∧
        (t.hose h).ctl.overrunTimer = some (c.overrunWindow * 100000) ∧
        (t.hose h).ctl.mainValve = false ∧ (t.hose h).ctl.slowValve = false ∧
        (t.hose h).meter.delivered = (s.hose h).meter.delivered ∧
        (∀ j : Fin 4, j ≠ h → (t.hose j).same (s.hose j)) ∧ KeepsStation s t ∧
        t.records = s.records) ∧
    (∃ t, exec (.settleTimerExpiry (h.val + 1)) s = .next t ∧
      t.hose h = { s.hose h with meter := { (s.hose h).meter with settle := none } } ∧
      (∀ j : Fin 4, j ≠ h → t.hose j = s.hose j) ∧ KeepsStation s t ∧ t.field = s.field ∧
      t.records = s.records ∧ t.notices = s.notices) ∧
    (∃ t, exec (.creepQuietTimerExpiry (h.val + 1)) s = .next t ∧
      t.hose h = { s.hose h with meter := { (s.hose h).meter with creep := none } } ∧
      (∀ j : Fin 4, j ≠ h → t.hose j = s.hose j) ∧ KeepsStation s t ∧ t.field = s.field ∧
      t.records = s.records ∧ t.notices = s.notices)

/-- OVERRUN_WINDOW_EXPIRY: the completion of R140: overrun measured and judged against the allowance (R121), the
delivered volume charged to the own origin entry, inserted where it is absent and there is room, and with a full
list counted and not charged (R11), the record committed with the next number (R159, R160), ISSUE_ENDED raised, one
health event each for an overrun over the allowance and for NO_START, the drip input of an issue with neither and no
other (R150, R151, R152), and the hose left in ENDED, or freed when its nozzle is hung (R141). At rest the window
loses a tick, and its end comes about exactly when it has run out. That the event is taken as a command with any time
of the window left is the model's choice (notes/assumptions/6.md), as is the origin-full counter
at a delivered volume of 0 (notes/assumptions/29.md) and the report of a charge to a saturated amount
(notes/assumptions/30.md). -/
def Obligations.OverrunWindowCompletes : Prop :=
  ∀ (s : State) (c : ConfigBlock) (h : Fin 4) (x : IssueContext) (n delivered excess : Nat)
    (beyond noStart : Bool) (health : Health) (e : VehicleEntry) (own : Option Nat),
    s.store.block = some c → c.fitted[h] = true → (s.hose h).ctl.state = .closing →
    (s.hose h).ctl.overrunTimer = some n → s.context h = some x →
    delivered = (s.hose h).meter.delivered → excess = delivered - x.limit →
    beyond = decide (c.overrunAllowance * 10 < excess) →
    noStart = decide (x.endReason = some .noStart) → health = (s.hose h).health →
    s.entry x.vehicle = some e → own = amountOf c.station s.store.startTag e.origins →
    0 < s.records.reservations → s.records.next ≤ 65535 →
    (AtRest s → ∃ t, step s = .next t ∧ (t.hose h).ctl.overrunTimer = some (n - 1)) ∧
    (ComesAbout (.overrunWindowExpiry (h.val + 1)) s ↔ n = 0) ∧
    ∃ t r, exec (.overrunWindowExpiry (h.val + 1)) s = .next t ∧
      t.records = { records := s.records.records ++ [r], reservations := s.records.reservations - 1
                    next := if s.records.next = 65535 then 0 else s.records.next + 1 } ∧
      r = { number := s.records.next, hose := h.val + 1, vehicle := x.vehicle, cls := x.cls
            authorised := x.authorised, completed := s.clock.pos, limit := x.limit
            delivered := delivered, overrun := excess, bound := x.bound
            endReason := x.endReason, serviceState := x.serviceState, netState := x.netState
            hours := x.hours, totaliser := x.totaliser, hoursFlag := x.hoursFlag
            totaliserFlag := x.totaliserFlag } ∧
      (∀ w, w ≠ x.vehicle → t.entry w = s.entry w) ∧
      (delivered = 0 → t.view = s.view ∧ t.watch = s.watch ∧ t.radio = s.radio) ∧
      (0 < delivered → own = none → 16 ≤ e.origins.length →
        t.view = { s.view with originFull := min 65535 (s.view.originFull + 1) } ∧
        t.watch = s.watch ∧ t.radio = s.radio) ∧
      (0 < delivered → own.isSome = true ∨ e.origins.length < 16 →
        ∃ e', t.entry x.vehicle = some e' ∧
          amountOf c.station s.store.startTag e'.origins = some (match own with
            | none => delivered
            | some a => min 4294967295 (a + delivered)) ∧
          (∀ st tag, ¬ (st = c.station ∧ tag = s.store.startTag) →
            amountOf st tag e'.origins = amountOf st tag e.origins) ∧
          e'.hours = e.hours ∧ e'.totaliser = e.totaliser ∧ e'.services = e.services ∧
          e'.bar = e.bar ∧ withUsage c e' = e' ∧ t.view.originFull = s.view.originFull ∧
          t.radio = { s.radio with queue := queueWith x.vehicle s.radio.queue }) ∧
      Raised .issueEnded s t ∧ t.notices.entries[10].condition = true ∧
      (t.hose h).meter = { (s.hose h).meter with
        overrun := excess, overrunOver := beyond, settle := none, fastCount := 0, slowCount := 0 } ∧
      ((s.hose h).nozzle.active = true → (t.hose h).ctl.state = .ended ∧
        t.context h = some { x with
          delivered := delivered, overrun := excess
          healthEvent := x.healthEvent || beyond || noStart }) ∧
      ((s.hose h).nozzle.active = false → t.context h = none ∧
        (t.hose h).ctl.state =
          if (t.hose h).health.frozen = true then .outOfService else .idle) ∧
      (health.frozen = true → (t.hose h).health = health) ∧
      (x.healthEvent = false → beyond = false → noStart = false → health.frozen = false →
        0 < c.dripVolume →
        (t.hose h).health = { health with
          accumulator := (health.accumulator + delivered) % (c.dripVolume * 100)
          count := health.count - (health.accumulator + delivered) / (c.dripVolume * 100) }) ∧
      (x.healthEvent = true → beyond = false → noStart = false → (t.hose h).health = health) ∧
      (∀ one two : Health, health.frozen = false → health.count < 14 →
        one = { health with count := health.count + 1
                            frozen := decide (c.healthThreshold ≤ health.count + 1) } →
        two = { health with count := health.count + 2
                            frozen := decide (c.healthThreshold ≤ health.count + 2) } →
        (beyond ≠ noStart → (t.hose h).health = one) ∧
        (beyond = true → noStart = true →
          (t.hose h).health = if one.frozen = true then one else two)) ∧
      (health.frozen = false → (t.hose h).health.frozen = true →
        t.notices.entries[8].condition = true) ∧
      (∀ j : Fin 4, j ≠ h → (t.hose j).same (s.hose j)) ∧
      t.store = s.store ∧ t.clock = s.clock ∧ t.net = s.net

/-- Events that do not come about change nothing: a field event at a hose that is not fitted, a report of the
state an input already has, an expiry whose timer does not run, a second of an unset or held clock, an event of
channel access in another state of the transmitter, an edge that CD does not make, and a frame in STANDBY. That such a
command is taken and has no effect is the model's choice (notes/assumptions/6.md, 9.md and 12.md). -/
def Obligations.EventsThatDoNotArise : Prop :=
  ∀ s : State,
    (∀ (h : Fin 4) (b : Bool), s.fitted h = false ∨ (s.hose h).nozzle.active = b →
      exec (.nozzleChange (h.val + 1) b) s = .next s) ∧
    (∀ (h : Fin 4) (n : Nat), s.fitted h = false → exec (.meterPulse (h.val + 1) n) s = .next s) ∧
    (∀ b : Bool, s.store.block = none ∨ s.field.stop.active = b →
      exec (.stopLineChange b) s = .next s) ∧
    (∀ h : Fin 4, s.fitted h = false ∨ (s.hose h).ctl.state ≠ .authorized ∨
      (s.hose h).ctl.authTimer = none → exec (.authTimerExpiry (h.val + 1)) s = .next s) ∧
    (∀ h : Fin 4, s.fitted h = false ∨ (s.hose h).ctl.state ≠ .starting ∨
      (s.hose h).ctl.primeTimer = none → exec (.primeWaitExpiry (h.val + 1)) s = .next s) ∧
    (∀ h : Fin 4, s.fitted h = false ∨ (s.hose h).ctl.startTimer = none →
      exec (.startTimerExpiry (h.val + 1)) s = .next s) ∧
    (∀ h : Fin 4, s.fitted h = false ∨ (s.hose h).ctl.noFlowTimer = none →
      exec (.noFlowTimerExpiry (h.val + 1)) s = .next s) ∧
    (∀ h : Fin 4, s.fitted h = false ∨ (s.hose h).ctl.state ≠ .closing ∨
      (s.hose h).ctl.overrunTimer = none → exec (.overrunWindowExpiry (h.val + 1)) s = .next s) ∧
    (∀ i : Fin 16, s.net.peers[i].missTimer = none →
      exec (.missTimerExpiry (i.val + 1)) s = .next s) ∧
    (s.net.state ≠ .listenIn ∨ s.net.listen = none → exec .listenTimerExpiry s = .next s) ∧
    (s.store.block = none ∨ s.clock.set = false ∨ s.clock.held = true →
      exec .shiftClockSecond s = .next s) ∧
    (s.radio.schedule = none → exec .beaconDue s = .next s) ∧
    (s.radio.gapClock = none ∨ s.radio.dueTally.isSome = true ∨
      s.radio.queue = [] ∧ s.view.entries = [] → exec .tallyDue s = .next s) ∧
    (s.store.block = none ∨ (∀ n frozen, s.radio.tx ≠ .quiet (some n) frozen) →
      exec .quietTimePassed s = .next s) ∧
    (s.store.block = none ∨ s.radio.cd = true ∨ (∀ slots n, s.radio.tx ≠ .countdown slots n) →
      exec .backoffSlotEnd s = .next s) ∧
    ((∀ f, s.radio.tx ≠ .sending f) → exec .transmissionEnd s = .next s) ∧
    (s.radio.cd = true → exec .carrierDetectRise s = .next s) ∧
    (s.radio.cd = false → exec .carrierDetectFall s = .next s) ∧
    (s.radio.dueBeacon = none → exec (.accessLimitExpiry .beacon) s = .next s) ∧
    (s.radio.dueTally = none → exec (.accessLimitExpiry .tally) s = .next s) ∧
    (s.net.state = .standby →
      (∀ cause : DropCause, exec (.radioFrameDrop cause) s = .next s) ∧
      (∀ (n : Nat) (f : TallyFrame), exec (.tally n f) s = .next s) ∧
      (∀ (n : Nat) (p : ClockPos) (i : Nat), exec (.beacon n p i) s = .next s))

/-! ### Invariants and whole-machine rules -/

/-- The state after reset is safe: every relation of Sys2Proof/Safety.lean holds in it. -/
def Obligations.ResetIsSafe : Prop := Safe State.reset

/-- Every step keeps the configuration in range, a configuration in force while the station runs, and the start
tag in 1..65535 (R172, R173, R177). -/
def Obligations.StepKeepsConfig : Prop :=
  ∀ s t : State, ConfigSound s → step s = .next t → ConfigSound t

/-- Every step keeps the outputs following the hose states and the stop line (R108, R109), and in a running station
the guard matched exactly while no fitted hose in IDLE or OUT_OF_SERVICE has its nozzle lifted (R104 to R106). -/
def Obligations.StepKeepsOutputs : Prop :=
  (∀ s t : State, OutputsFollow s → step s = .next t → OutputsFollow t) ∧
  ∀ s t : State, GuardSound s → step s = .next t → GuardSound t

/-- Every step keeps the account of issues: contexts held as Table 8-2 says, the reservation count equal to the
hoses in AUTHORIZED to CLOSING, at most 32 places taken, no active hose in STANDBY (R126, R157, R158). -/
def Obligations.StepKeepsIssues : Prop :=
  ∀ s t : State, IssuesAccounted s → step s = .next t → IssuesAccounted t

/-- Every step keeps each hose's state in accord with its fitting and its frozen count (R126, R145, R149). -/
def Obligations.StepKeepsHealth : Prop :=
  ∀ s t : State, IssuesAccounted s → HealthSound s → step s = .next t → HealthSound t

/-- Every step keeps the notice table true: the attention output follows the pending flags, and each condition
entry holds what is true of its source (R43, R107, R154, R162, R170). -/
def Obligations.StepKeepsNotices : Prop :=
  ∀ s t : State, NoticesTrue s → step s = .next t → NoticesTrue t

/-- Every step keeps the view in order, within its room, each entry with its class, usage and an ordered origin
list (R1, R2, R4, R34). -/
def Obligations.StepKeepsView : Prop :=
  ∀ s t : State, ConfigSound s → ViewOrdered s → step s = .next t → ViewOrdered t

/-- Every step keeps the clock within the shift length in force (R46, R47, R56). -/
def Obligations.StepKeepsClock : Prop :=
  ∀ s t : State, ConfigSound s → ClockSound s → step s = .next t → ClockSound t

/-- Every step keeps the peer table and the net state in accord (R58, R61, R62, R69, R70, R74). -/
def Obligations.StepKeepsPeers : Prop :=
  ∀ s t : State, PeersSound s → step s = .next t → PeersSound t

/-- Every step keeps the send queue, the contention window and the transmitter as R85, R90, R93, R95 and R98 say. -/
def Obligations.StepKeepsRadio : Prop :=
  ∀ s t : State, ConfigSound s → RadioSound s → step s = .next t → RadioSound t

/-- Every step keeps the watch list exact: the min(24, q) qualifying vehicles of highest worst usage, in order,
with the overflow count (R40, R41). No command but POWER_ON and LOAD_CONFIG, which empty the list, RESTART, and the
requests that read, acknowledge and enable notices changes the WATCH_CHANGED entry but as R42 says: it is raised
exactly when the sequence of vehicle numbers changes. A change of usage in place and one of the overflow count alone
raise nothing. -/
def Obligations.StepKeepsWatchList : Prop :=
  (∀ s t : State, ConfigSound s → ViewOrdered s → WatchSound s → step s = .next t → WatchSound t) ∧
  ∀ (c : Instr) (s t : State), c ≠ .powerOn → isLoadConfig c = false → c ≠ .restart → c ≠ .readNotices →
    (∀ n, c ≠ .ackNotice n) → (∀ m, c ≠ .setNoticeEnables m) → exec c s = .next t →
    (t.watch.members.map (·.vehicle) ≠ s.watch.members.map (·.vehicle) → Raised .watchChanged s t) ∧
    (t.watch.members.map (·.vehicle) = s.watch.members.map (·.vehicle) →
      t.notices.entries[4] = s.notices.entries[4])

/-- The clock position never moves backward: no command but POWER_ON takes a set clock to a position behind the one
it had (R46), LOAD_CONFIG in the last shift left aside: a held clock is put at the new last second by R56, and one
not held by the model's choice (notes/assumptions/13.md). -/
def Obligations.ClockNeverBack : Prop :=
  ∀ (c : Instr) (s t : State), ClockSound s → s.clock.set = true → c ≠ .powerOn →
    (isLoadConfig c = true → s.clock.pos.shift < 16777215 ∧ s.clock.held = false) → exec c s = .next t →
    ClockPos.notBehind t.clock.pos s.clock.pos

/-- The four ordered values of an entry never decrease: no command but POWER_ON and LOAD_CONFIG removes an entry,
lowers a register's reading or makes it absent, or lowers an epoch or a bar version (R3, R5). -/
def Obligations.OrderedFieldsNeverFall : Prop :=
  ∀ (c : Instr) (s t : State) (v : Nat) (e : VehicleEntry), c ≠ .powerOn → isLoadConfig c = false →
    s.entry v = some e → exec c s = .next t →
    ∃ e', t.entry v = some e' ∧
      (∀ r, e.hours = some r → ∃ r', e'.hours = some r' ∧ r.value ≤ r'.value) ∧
      (∀ r, e.totaliser = some r → ∃ r', e'.totaliser = some r' ∧ r.value ≤ r'.value) ∧
      (∀ i : Fin 4, e.services[i].epoch ≤ e'.services[i].epoch) ∧ e.bar.version ≤ e'.bar.version

/-- What acceptance froze in an issue context stays as it was through every command for as long as the context is
held (R132, R52). -/
def Obligations.FrozenContext : Prop :=
  ∀ (c : Instr) (s t : State) (h : Fin 4) (x y : IssueContext), (s.hose h).ctl.state ≠ .idle →
    s.context h = some x → exec c s = .next t → t.context h = some y →
    y.vehicle = x.vehicle ∧ y.cls = x.cls ∧ y.limit = x.limit ∧ y.bound = x.bound ∧
      y.slowPoint = x.slowPoint ∧ y.hours = x.hours ∧ y.totaliser = x.totaliser ∧
      y.hoursFlag = x.hoursFlag ∧ y.totaliserFlag = x.totaliserFlag ∧
      y.serviceState = x.serviceState ∧ y.netState = x.netState ∧ y.authorised = x.authorised

/-- A frame put on air is a frame that a peer of the same shift length reads back whole: the checks of R82 on the
body of a TALLY or a BEACON in range give the frame that was sent (R77 to R80, Table 5-3, R82, R83). The receiver
(R81): it hunts bit by bit for the sync word, takes a body of the length that the next byte gives, checks it and
hunts again; a bad length is dropped and the hunt resumes; preamble, sync word and body in a row give the checked
body. A body of a right length is dropped by its first failing check in the order of R82: CRC, kind, station, length
for the kind, and the field ranges of Table 5-4; with none it is the frame of its kind and station. At rest, when the
bit clock comes round, the next bit is taken in a running station with KEY released, and is lost otherwise, a body
being taken with it. The empty window of the hunt and the accumulator of the bit clock are the model's
(notes/assumptions/23.md and 20.md). -/
def Obligations.FramesReadBack : Prop :=
  (∀ (shiftLength station : Nat) (f : TallyFrame), 1 ≤ station → station ≤ 16 →
    f.inRange shiftLength = true →
    checkBody shiftLength (tallyBody station f) = .tally station f) ∧
  (∀ (shiftLength station : Nat) (pos : ClockPos) (interval : Nat), 1 ≤ station → station ≤ 16 →
    shiftLength ≤ 86400 → beaconInRange shiftLength pos interval = true →
    checkBody shiftLength (beaconBody station pos interval) = .beacon station pos interval) ∧
  crcField [0x31#8, 0x32#8, 0x33#8, 0x34#8, 0x35#8, 0x36#8, 0x37#8, 0x38#8, 0x39#8] = [0x29#8, 0xB1#8] ∧
  (∀ (shiftLength : Nat) (len station kind : Byte) (payload check : List Byte) (result : BodyCheck),
    3 ≤ len.toNat → len.toNat ≤ 198 → payload.length + 2 = len.toNat → check.length = 2 →
    shiftLength ≤ 86400 → result = checkBody shiftLength (len :: station :: kind :: payload ++ check) →
    (check ≠ crcField (len :: station :: kind :: payload) → result = .drop .crc) ∧
    (check = crcField (len :: station :: kind :: payload) →
      (kind ≠ 0x61#8 → kind ≠ 0x74#8 → result = .drop .kind) ∧
      (kind = 0x61#8 ∨ kind = 0x74#8 → station.toNat = 0 ∨ 16 < station.toNat →
        result = .drop .station) ∧
      (kind = 0x61#8 → 1 ≤ station.toNat → station.toNat ≤ 16 →
        (len.toNat ≠ 9 → result = .drop .lengthForKind) ∧
        (len.toNat = 9 →
          (shiftLength ≤ fieldAt 3 3 payload ∨ fieldAt 6 1 payload < 5 ∨ 60 < fieldAt 6 1 payload →
            result = .drop .fieldRange) ∧
          (fieldAt 3 3 payload < shiftLength → 5 ≤ fieldAt 6 1 payload → fieldAt 6 1 payload ≤ 60 →
            result = .beacon station.toNat ⟨fieldAt 0 3 payload, fieldAt 3 3 payload⟩
              (fieldAt 6 1 payload)))) ∧
      (kind = 0x74#8 → 1 ≤ station.toNat → station.toNat ≤ 16 →
        (len.toNat < 77 ∨ 16 < fieldAt 74 1 payload ∨ len.toNat ≠ 77 + 7 * fieldAt 74 1 payload →
          result = .drop .lengthForKind) ∧
        (fieldAt 74 1 payload ≤ 16 → len.toNat = 77 + 7 * fieldAt 74 1 payload →
          (TallyBad shiftLength payload → result = .drop .fieldRange) ∧
          (¬ TallyBad shiftLength payload → ∃ f, result = .tally station.toNat f))))) ∧
  (∀ (shiftLength window : Nat) (b : Bool), (RadioReceiver.hunt window).takeBit shiftLength b =
    (if (2 * window + b.toNat) % 65536 = 0xB34E then .taking 0 0 []
      else .hunt ((2 * window + b.toNat) % 65536), [])) ∧
  (∀ (shiftLength : Nat) (len : Byte) (rest : List Byte),
    3 ≤ len.toNat → len.toNat ≤ 198 → rest.length = len.toNat + 2 →
    takeBits shiftLength (.hunt 0)
        ((([0x55#8, 0x55#8, 0x55#8, 0x55#8, 0xB3#8, 0x4E#8] : List Byte) ++ len :: rest).flatMap bitsOf) =
      (.hunt 0, [checkBody shiftLength (len :: rest)])) ∧
  (∀ (shiftLength : Nat) (len : Byte), len.toNat < 3 ∨ 198 < len.toNat →
    takeBits shiftLength (.taking 0 0 []) (bitsOf len) = (.hunt 0, [.drop .length])) ∧
  (∀ (s : State) (c : ConfigBlock) (b : Bool) (rest : List Bool), AtRest s → s.store.block = some c →
    s.radio.rxd = b :: rest →
    ∃ t, step s = .next t ∧
      (s.radio.bitPhase + 19200 < 100000 → t.radio.rxd = s.radio.rxd ∧
        t.radio.receiver = s.radio.receiver) ∧
      (100000 ≤ s.radio.bitPhase + 19200 → t.radio.rxd = rest ∧
        (s.net.state ≠ .standby → s.radio.tx.key = false →
          t.radio.receiver = (s.radio.receiver.takeBit c.shiftLength b).1 ∧
          ((s.radio.receiver.takeBit c.shiftLength b).2.map BodyCheck.command) <+: t.model.arrived) ∧
        (s.net.state = .standby ∨ s.radio.tx.key = true → t.radio.receiver = .hunt 0)))
end

