-- ==== Sys2Proof/Laws/Frames.lean ====
section
/-! SUPPORT. Sys2Proof/Laws/Frames.lean: what each operation leaves unchanged, block by block: one lemma per
operation, its parts simp lemmas, so that a proof about one block passes over the operations that do not
touch it. An operation's block that its lemma does not name may change. -/

namespace Sys2Proof.Machine

open Sys2Proof

@[simp] theorem mapHose_frame (s : State) (h : Fin 4) (f : Hose → Hose) :
    (s.mapHose h f).pending = s.pending ∧ (s.mapHose h f).store = s.store ∧
    (s.mapHose h f).view = s.view ∧ (s.mapHose h f).watch = s.watch ∧
    (s.mapHose h f).clock = s.clock ∧ (s.mapHose h f).net = s.net ∧
    (s.mapHose h f).radio = s.radio ∧ (s.mapHose h f).field = s.field ∧
    (s.mapHose h f).records = s.records ∧ (s.mapHose h f).link = s.link ∧
    (s.mapHose h f).notices = s.notices ∧ (s.mapHose h f).model = s.model :=
  ⟨rfl, rfl, rfl, rfl, rfl, rfl, rfl, rfl, rfl, rfl, rfl, rfl⟩

@[simp] theorem mapCtl_frame (s : State) (h : Fin 4) (f : HoseControl → HoseControl) :
    (s.mapCtl h f).pending = s.pending ∧ (s.mapCtl h f).store = s.store ∧
    (s.mapCtl h f).view = s.view ∧ (s.mapCtl h f).watch = s.watch ∧
    (s.mapCtl h f).clock = s.clock ∧ (s.mapCtl h f).net = s.net ∧
    (s.mapCtl h f).radio = s.radio ∧ (s.mapCtl h f).field = s.field ∧
    (s.mapCtl h f).records = s.records ∧ (s.mapCtl h f).link = s.link ∧
    (s.mapCtl h f).notices = s.notices ∧ (s.mapCtl h f).model = s.model :=
  ⟨rfl, rfl, rfl, rfl, rfl, rfl, rfl, rfl, rfl, rfl, rfl, rfl⟩

@[simp] theorem mapMeter_frame (s : State) (h : Fin 4) (f : Meter → Meter) :
    (s.mapMeter h f).pending = s.pending ∧ (s.mapMeter h f).store = s.store ∧
    (s.mapMeter h f).view = s.view ∧ (s.mapMeter h f).watch = s.watch ∧
    (s.mapMeter h f).clock = s.clock ∧ (s.mapMeter h f).net = s.net ∧
    (s.mapMeter h f).radio = s.radio ∧ (s.mapMeter h f).field = s.field ∧
    (s.mapMeter h f).records = s.records ∧ (s.mapMeter h f).link = s.link ∧
    (s.mapMeter h f).notices = s.notices ∧ (s.mapMeter h f).model = s.model :=
  ⟨rfl, rfl, rfl, rfl, rfl, rfl, rfl, rfl, rfl, rfl, rfl, rfl⟩

@[simp] theorem mapHealth_frame (s : State) (h : Fin 4) (f : Health → Health) :
    (s.mapHealth h f).pending = s.pending ∧ (s.mapHealth h f).store = s.store ∧
    (s.mapHealth h f).view = s.view ∧ (s.mapHealth h f).watch = s.watch ∧
    (s.mapHealth h f).clock = s.clock ∧ (s.mapHealth h f).net = s.net ∧
    (s.mapHealth h f).radio = s.radio ∧ (s.mapHealth h f).field = s.field ∧
    (s.mapHealth h f).records = s.records ∧ (s.mapHealth h f).link = s.link ∧
    (s.mapHealth h f).notices = s.notices ∧ (s.mapHealth h f).model = s.model :=
  ⟨rfl, rfl, rfl, rfl, rfl, rfl, rfl, rfl, rfl, rfl, rfl, rfl⟩

@[simp] theorem mapContext_frame (s : State) (h : Fin 4) (f : IssueContext → IssueContext) :
    (s.mapContext h f).pending = s.pending ∧ (s.mapContext h f).store = s.store ∧
    (s.mapContext h f).view = s.view ∧ (s.mapContext h f).watch = s.watch ∧
    (s.mapContext h f).clock = s.clock ∧ (s.mapContext h f).net = s.net ∧
    (s.mapContext h f).radio = s.radio ∧ (s.mapContext h f).field = s.field ∧
    (s.mapContext h f).records = s.records ∧ (s.mapContext h f).link = s.link ∧
    (s.mapContext h f).notices = s.notices ∧ (s.mapContext h f).model = s.model :=
  ⟨rfl, rfl, rfl, rfl, rfl, rfl, rfl, rfl, rfl, rfl, rfl, rfl⟩

@[simp] theorem drawBelow_frame (s : State) (n : Nat) :
    ((s.drawBelow n).2).pending = s.pending ∧ ((s.drawBelow n).2).store = s.store ∧
    ((s.drawBelow n).2).view = s.view ∧ ((s.drawBelow n).2).watch = s.watch ∧
    ((s.drawBelow n).2).clock = s.clock ∧ ((s.drawBelow n).2).net = s.net ∧
    ((s.drawBelow n).2).radio = s.radio ∧ ((s.drawBelow n).2).field = s.field ∧
    ((s.drawBelow n).2).hoses = s.hoses ∧ ((s.drawBelow n).2).records = s.records ∧
    ((s.drawBelow n).2).link = s.link ∧ ((s.drawBelow n).2).notices = s.notices :=
  ⟨rfl, rfl, rfl, rfl, rfl, rfl, rfl, rfl, rfl, rfl, rfl, rfl⟩

@[simp] theorem withNotices_frame (s : State) (v : Vector NoticeEntry 12) :
    (s.withNotices v).pending = s.pending ∧ (s.withNotices v).store = s.store ∧
    (s.withNotices v).view = s.view ∧ (s.withNotices v).watch = s.watch ∧
    (s.withNotices v).clock = s.clock ∧ (s.withNotices v).net = s.net ∧
    (s.withNotices v).radio = s.radio ∧ (s.withNotices v).field = s.field ∧
    (s.withNotices v).hoses = s.hoses ∧ (s.withNotices v).records = s.records ∧
    (s.withNotices v).link = s.link ∧ (s.withNotices v).model = s.model :=
  ⟨rfl, rfl, rfl, rfl, rfl, rfl, rfl, rfl, rfl, rfl, rfl, rfl⟩

@[simp] theorem mapNotice_frame (s : State) (i : Fin 12) (f : NoticeEntry → NoticeEntry) :
    (s.mapNotice i f).pending = s.pending ∧ (s.mapNotice i f).store = s.store ∧
    (s.mapNotice i f).view = s.view ∧ (s.mapNotice i f).watch = s.watch ∧
    (s.mapNotice i f).clock = s.clock ∧ (s.mapNotice i f).net = s.net ∧
    (s.mapNotice i f).radio = s.radio ∧ (s.mapNotice i f).field = s.field ∧
    (s.mapNotice i f).hoses = s.hoses ∧ (s.mapNotice i f).records = s.records ∧
    (s.mapNotice i f).link = s.link ∧ (s.mapNotice i f).model = s.model :=
  ⟨rfl, rfl, rfl, rfl, rfl, rfl, rfl, rfl, rfl, rfl, rfl, rfl⟩

@[simp] theorem mapNotices_frame (s : State) (f : Fin 12 → NoticeEntry → NoticeEntry) :
    (s.mapNotices f).pending = s.pending ∧ (s.mapNotices f).store = s.store ∧
    (s.mapNotices f).view = s.view ∧ (s.mapNotices f).watch = s.watch ∧
    (s.mapNotices f).clock = s.clock ∧ (s.mapNotices f).net = s.net ∧
    (s.mapNotices f).radio = s.radio ∧ (s.mapNotices f).field = s.field ∧
    (s.mapNotices f).hoses = s.hoses ∧ (s.mapNotices f).records = s.records ∧
    (s.mapNotices f).link = s.link ∧ (s.mapNotices f).model = s.model :=
  ⟨rfl, rfl, rfl, rfl, rfl, rfl, rfl, rfl, rfl, rfl, rfl, rfl⟩

@[simp] theorem raise_frame (src : NoticeSource) (s : State) :
    (raise src s).pending = s.pending ∧ (raise src s).store = s.store ∧
    (raise src s).view = s.view ∧ (raise src s).watch = s.watch ∧
    (raise src s).clock = s.clock ∧ (raise src s).net = s.net ∧
    (raise src s).radio = s.radio ∧ (raise src s).field = s.field ∧
    (raise src s).hoses = s.hoses ∧ (raise src s).records = s.records ∧
    (raise src s).link = s.link ∧ (raise src s).model = s.model :=
  ⟨rfl, rfl, rfl, rfl, rfl, rfl, rfl, rfl, rfl, rfl, rfl, rfl⟩

@[simp] theorem report_frame (src : NoticeSource) (b : Bool) (s : State) :
    (report src b s).pending = s.pending ∧ (report src b s).store = s.store ∧
    (report src b s).view = s.view ∧ (report src b s).watch = s.watch ∧
    (report src b s).clock = s.clock ∧ (report src b s).net = s.net ∧
    (report src b s).radio = s.radio ∧ (report src b s).field = s.field ∧
    (report src b s).hoses = s.hoses ∧ (report src b s).records = s.records ∧
    (report src b s).link = s.link ∧ (report src b s).model = s.model :=
  ⟨rfl, rfl, rfl, rfl, rfl, rfl, rfl, rfl, rfl, rfl, rfl, rfl⟩

@[simp] theorem mapRadio_frame (s : State) (f : RadioBlock → RadioBlock) :
    (s.mapRadio f).pending = s.pending ∧ (s.mapRadio f).store = s.store ∧
    (s.mapRadio f).view = s.view ∧ (s.mapRadio f).watch = s.watch ∧
    (s.mapRadio f).clock = s.clock ∧ (s.mapRadio f).net = s.net ∧
    (s.mapRadio f).field = s.field ∧ (s.mapRadio f).hoses = s.hoses ∧
    (s.mapRadio f).records = s.records ∧ (s.mapRadio f).link = s.link ∧
    (s.mapRadio f).notices = s.notices ∧ (s.mapRadio f).model = s.model :=
  ⟨rfl, rfl, rfl, rfl, rfl, rfl, rfl, rfl, rfl, rfl, rfl, rfl⟩

@[simp] theorem mapPeer_frame (s : State) (i : Fin 16) (f : Peer → Peer) :
    (s.mapPeer i f).pending = s.pending ∧ (s.mapPeer i f).store = s.store ∧
    (s.mapPeer i f).view = s.view ∧ (s.mapPeer i f).watch = s.watch ∧
    (s.mapPeer i f).clock = s.clock ∧ (s.mapPeer i f).radio = s.radio ∧
    (s.mapPeer i f).field = s.field ∧ (s.mapPeer i f).hoses = s.hoses ∧
    (s.mapPeer i f).records = s.records ∧ (s.mapPeer i f).link = s.link ∧
    (s.mapPeer i f).notices = s.notices ∧ (s.mapPeer i f).model = s.model :=
  ⟨rfl, rfl, rfl, rfl, rfl, rfl, rfl, rfl, rfl, rfl, rfl, rfl⟩

@[simp] theorem putEntry_frame (s : State) (e : VehicleEntry) :
    (s.putEntry e).pending = s.pending ∧ (s.putEntry e).store = s.store ∧
    (s.putEntry e).watch = s.watch ∧ (s.putEntry e).clock = s.clock ∧
    (s.putEntry e).net = s.net ∧ (s.putEntry e).radio = s.radio ∧
    (s.putEntry e).field = s.field ∧ (s.putEntry e).hoses = s.hoses ∧
    (s.putEntry e).records = s.records ∧ (s.putEntry e).link = s.link ∧
    (s.putEntry e).notices = s.notices ∧ (s.putEntry e).model = s.model :=
  ⟨rfl, rfl, rfl, rfl, rfl, rfl, rfl, rfl, rfl, rfl, rfl, rfl⟩

@[simp] theorem orderTaken_frame (s : State) :
    (s.orderTaken).pending = s.pending ∧ (s.orderTaken).store = s.store ∧
    (s.orderTaken).view = s.view ∧ (s.orderTaken).watch = s.watch ∧
    (s.orderTaken).clock = s.clock ∧ (s.orderTaken).net = s.net ∧
    (s.orderTaken).radio = s.radio ∧ (s.orderTaken).field = s.field ∧
    (s.orderTaken).hoses = s.hoses ∧ (s.orderTaken).records = s.records ∧
    (s.orderTaken).link = s.link ∧ (s.orderTaken).notices = s.notices :=
  ⟨rfl, rfl, rfl, rfl, rfl, rfl, rfl, rfl, rfl, rfl, rfl, rfl⟩

@[simp] theorem updateWatch_frame (c : ConfigBlock) (e : VehicleEntry) (s : State) :
    (updateWatch c e s).pending = s.pending ∧ (updateWatch c e s).store = s.store ∧
    (updateWatch c e s).view = s.view ∧ (updateWatch c e s).clock = s.clock ∧
    (updateWatch c e s).net = s.net ∧ (updateWatch c e s).radio = s.radio ∧
    (updateWatch c e s).field = s.field ∧ (updateWatch c e s).hoses = s.hoses ∧
    (updateWatch c e s).records = s.records ∧ (updateWatch c e s).link = s.link ∧
    (updateWatch c e s).model = s.model := by
  simp only [updateWatch]
  (repeat' split) <;> simp

@[simp] theorem vehicleChanged_frame (v : Nat) (s : State) :
    (vehicleChanged v s).pending = s.pending ∧ (vehicleChanged v s).store = s.store ∧
    (vehicleChanged v s).view = s.view ∧ (vehicleChanged v s).watch = s.watch ∧
    (vehicleChanged v s).clock = s.clock ∧ (vehicleChanged v s).net = s.net ∧
    (vehicleChanged v s).field = s.field ∧ (vehicleChanged v s).hoses = s.hoses ∧
    (vehicleChanged v s).records = s.records ∧ (vehicleChanged v s).link = s.link ∧
    (vehicleChanged v s).notices = s.notices ∧ (vehicleChanged v s).model = s.model := by
  simp [vehicleChanged]

@[simp] theorem storeEntry_frame (c : ConfigBlock) (e : VehicleEntry) (s : State) :
    (storeEntry c e s).pending = s.pending ∧ (storeEntry c e s).store = s.store ∧
    (storeEntry c e s).clock = s.clock ∧ (storeEntry c e s).net = s.net ∧
    (storeEntry c e s).radio = s.radio ∧ (storeEntry c e s).field = s.field ∧
    (storeEntry c e s).hoses = s.hoses ∧ (storeEntry c e s).records = s.records ∧
    (storeEntry c e s).link = s.link ∧ (storeEntry c e s).model = s.model := by
  simp only [storeEntry]
  (repeat' split) <;> simp

@[simp] theorem changeEntry_frame (c : ConfigBlock) (e : VehicleEntry) (s : State) :
    (changeEntry c e s).pending = s.pending ∧ (changeEntry c e s).store = s.store ∧
    (changeEntry c e s).clock = s.clock ∧ (changeEntry c e s).net = s.net ∧
    (changeEntry c e s).field = s.field ∧ (changeEntry c e s).hoses = s.hoses ∧
    (changeEntry c e s).records = s.records ∧ (changeEntry c e s).link = s.link ∧
    (changeEntry c e s).model = s.model := by
  simp [changeEntry]

@[simp] theorem charge_frame (c : ConfigBlock) (v n : Nat) (s : State) :
    (charge c v n s).pending = s.pending ∧ (charge c v n s).store = s.store ∧
    (charge c v n s).clock = s.clock ∧ (charge c v n s).net = s.net ∧
    (charge c v n s).field = s.field ∧ (charge c v n s).hoses = s.hoses ∧
    (charge c v n s).records = s.records ∧ (charge c v n s).link = s.link ∧
    (charge c v n s).model = s.model := by
  unfold charge
  (repeat' split) <;> simp

@[simp] theorem mergeReport_frame (c : ConfigBlock) (v : Nat) (a b : Bool) (s : State) :
    (mergeReport c v a b s).pending = s.pending ∧ (mergeReport c v a b s).store = s.store ∧
    (mergeReport c v a b s).view = s.view ∧ (mergeReport c v a b s).watch = s.watch ∧
    (mergeReport c v a b s).clock = s.clock ∧ (mergeReport c v a b s).net = s.net ∧
    (mergeReport c v a b s).field = s.field ∧ (mergeReport c v a b s).hoses = s.hoses ∧
    (mergeReport c v a b s).records = s.records ∧ (mergeReport c v a b s).link = s.link ∧
    (mergeReport c v a b s).notices = s.notices ∧ (mergeReport c v a b s).model = s.model := by
  unfold mergeReport
  (repeat' split) <;> simp

@[simp] theorem driveValves_frame (h : Fin 4) (s : State) :
    (driveValves h s).pending = s.pending ∧ (driveValves h s).store = s.store ∧
    (driveValves h s).view = s.view ∧ (driveValves h s).watch = s.watch ∧
    (driveValves h s).clock = s.clock ∧ (driveValves h s).net = s.net ∧
    (driveValves h s).radio = s.radio ∧ (driveValves h s).field = s.field ∧
    (driveValves h s).records = s.records ∧ (driveValves h s).link = s.link ∧
    (driveValves h s).notices = s.notices ∧ (driveValves h s).model = s.model := by
  simp [driveValves]

@[simp] theorem drivePump_frame (s : State) :
    (drivePump s).pending = s.pending ∧ (drivePump s).store = s.store ∧
    (drivePump s).view = s.view ∧ (drivePump s).watch = s.watch ∧
    (drivePump s).clock = s.clock ∧ (drivePump s).net = s.net ∧
    (drivePump s).radio = s.radio ∧ (drivePump s).hoses = s.hoses ∧
    (drivePump s).records = s.records ∧ (drivePump s).link = s.link ∧
    (drivePump s).notices = s.notices ∧ (drivePump s).model = s.model := by
  unfold drivePump
  (repeat' split) <;> simp

@[simp] theorem countOffence_frame (h : Fin 4) (s : State) :
    (countOffence h s).pending = s.pending ∧ (countOffence h s).store = s.store ∧
    (countOffence h s).view = s.view ∧ (countOffence h s).watch = s.watch ∧
    (countOffence h s).clock = s.clock ∧ (countOffence h s).net = s.net ∧
    (countOffence h s).radio = s.radio ∧ (countOffence h s).field = s.field ∧
    (countOffence h s).records = s.records ∧ (countOffence h s).link = s.link ∧
    (countOffence h s).notices = s.notices ∧ (countOffence h s).model = s.model := by
  unfold countOffence
  split <;> simp

@[simp] theorem guardEval_frame (s : State) :
    (guardEval s).pending = s.pending ∧ (guardEval s).store = s.store ∧
    (guardEval s).view = s.view ∧ (guardEval s).watch = s.watch ∧
    (guardEval s).clock = s.clock ∧ (guardEval s).net = s.net ∧
    (guardEval s).radio = s.radio ∧ (guardEval s).records = s.records ∧
    (guardEval s).link = s.link ∧ (guardEval s).model = s.model := by
  simp only [guardEval, eachHose]
  (repeat' split) <;> simp

@[simp] theorem enterState_frame (h : Fin 4) (st : HoseState) (s : State) :
    (enterState h st s).pending = s.pending ∧ (enterState h st s).store = s.store ∧
    (enterState h st s).view = s.view ∧ (enterState h st s).watch = s.watch ∧
    (enterState h st s).clock = s.clock ∧ (enterState h st s).net = s.net ∧
    (enterState h st s).radio = s.radio ∧ (enterState h st s).records = s.records ∧
    (enterState h st s).link = s.link ∧ (enterState h st s).model = s.model := by
  simp [enterState]

@[simp] theorem reportWaiting_frame (s : State) :
    (reportWaiting s).pending = s.pending ∧ (reportWaiting s).store = s.store ∧
    (reportWaiting s).view = s.view ∧ (reportWaiting s).watch = s.watch ∧
    (reportWaiting s).clock = s.clock ∧ (reportWaiting s).net = s.net ∧
    (reportWaiting s).radio = s.radio ∧ (reportWaiting s).field = s.field ∧
    (reportWaiting s).hoses = s.hoses ∧ (reportWaiting s).records = s.records ∧
    (reportWaiting s).link = s.link ∧ (reportWaiting s).model = s.model := by
  simp [reportWaiting]

@[simp] theorem takeReservation_frame (s : State) :
    (takeReservation s).pending = s.pending ∧ (takeReservation s).store = s.store ∧
    (takeReservation s).view = s.view ∧ (takeReservation s).watch = s.watch ∧
    (takeReservation s).clock = s.clock ∧ (takeReservation s).net = s.net ∧
    (takeReservation s).radio = s.radio ∧ (takeReservation s).field = s.field ∧
    (takeReservation s).hoses = s.hoses ∧ (takeReservation s).link = s.link ∧
    (takeReservation s).notices = s.notices ∧ (takeReservation s).model = s.model := by
  simp [takeReservation]

@[simp] theorem releaseReservation_frame (s : State) :
    (releaseReservation s).pending = s.pending ∧ (releaseReservation s).store = s.store ∧
    (releaseReservation s).view = s.view ∧ (releaseReservation s).watch = s.watch ∧
    (releaseReservation s).clock = s.clock ∧ (releaseReservation s).net = s.net ∧
    (releaseReservation s).radio = s.radio ∧ (releaseReservation s).field = s.field ∧
    (releaseReservation s).hoses = s.hoses ∧ (releaseReservation s).link = s.link ∧
    (releaseReservation s).notices = s.notices ∧ (releaseReservation s).model = s.model := by
  simp [releaseReservation]

@[simp] theorem commitRecord_frame (h : Fin 4) (x : IssueContext) (s : State) :
    (commitRecord h x s).pending = s.pending ∧ (commitRecord h x s).store = s.store ∧
    (commitRecord h x s).view = s.view ∧ (commitRecord h x s).watch = s.watch ∧
    (commitRecord h x s).clock = s.clock ∧ (commitRecord h x s).net = s.net ∧
    (commitRecord h x s).radio = s.radio ∧ (commitRecord h x s).field = s.field ∧
    (commitRecord h x s).hoses = s.hoses ∧ (commitRecord h x s).link = s.link ∧
    (commitRecord h x s).model = s.model := by
  simp [commitRecord]

@[simp] theorem markIssue_frame (h : Fin 4) (s : State) :
    (markIssue h s).pending = s.pending ∧ (markIssue h s).store = s.store ∧
    (markIssue h s).view = s.view ∧ (markIssue h s).watch = s.watch ∧
    (markIssue h s).clock = s.clock ∧ (markIssue h s).net = s.net ∧
    (markIssue h s).radio = s.radio ∧ (markIssue h s).field = s.field ∧
    (markIssue h s).records = s.records ∧ (markIssue h s).link = s.link ∧
    (markIssue h s).notices = s.notices ∧ (markIssue h s).model = s.model := by
  simp [markIssue]

@[simp] theorem cancel_frame (h : Fin 4) (s : State) :
    (cancel h s).pending = s.pending ∧ (cancel h s).store = s.store ∧
    (cancel h s).view = s.view ∧ (cancel h s).watch = s.watch ∧
    (cancel h s).clock = s.clock ∧ (cancel h s).net = s.net ∧ (cancel h s).radio = s.radio ∧
    (cancel h s).link = s.link ∧ (cancel h s).model = s.model := by
  simp [cancel]

@[simp] theorem close_frame (c : ConfigBlock) (h : Fin 4) (r : EndReason) (s : State) :
    (close c h r s).pending = s.pending ∧ (close c h r s).store = s.store ∧
    (close c h r s).view = s.view ∧ (close c h r s).watch = s.watch ∧
    (close c h r s).clock = s.clock ∧ (close c h r s).net = s.net ∧
    (close c h r s).radio = s.radio ∧ (close c h r s).records = s.records ∧
    (close c h r s).link = s.link ∧ (close c h r s).model = s.model := by
  simp [close]

@[simp] theorem endIssue_frame (c : ConfigBlock) (h : Fin 4) (r : EndReason) (s : State) :
    (endIssue c h r s).pending = s.pending ∧ (endIssue c h r s).store = s.store ∧
    (endIssue c h r s).view = s.view ∧ (endIssue c h r s).watch = s.watch ∧
    (endIssue c h r s).clock = s.clock ∧ (endIssue c h r s).net = s.net ∧
    (endIssue c h r s).radio = s.radio ∧ (endIssue c h r s).link = s.link ∧
    (endIssue c h r s).model = s.model := by
  unfold endIssue
  (repeat' split) <;> simp

@[simp] theorem reportHoseOut_frame (s : State) :
    (reportHoseOut s).pending = s.pending ∧ (reportHoseOut s).store = s.store ∧
    (reportHoseOut s).view = s.view ∧ (reportHoseOut s).watch = s.watch ∧
    (reportHoseOut s).clock = s.clock ∧ (reportHoseOut s).net = s.net ∧
    (reportHoseOut s).radio = s.radio ∧ (reportHoseOut s).field = s.field ∧
    (reportHoseOut s).hoses = s.hoses ∧ (reportHoseOut s).records = s.records ∧
    (reportHoseOut s).link = s.link ∧ (reportHoseOut s).model = s.model := by
  simp [reportHoseOut]

@[simp] theorem freezeAction_frame (c : ConfigBlock) (h : Fin 4) (s : State) :
    (freezeAction c h s).pending = s.pending ∧ (freezeAction c h s).store = s.store ∧
    (freezeAction c h s).view = s.view ∧ (freezeAction c h s).watch = s.watch ∧
    (freezeAction c h s).clock = s.clock ∧ (freezeAction c h s).net = s.net ∧
    (freezeAction c h s).radio = s.radio ∧ (freezeAction c h s).link = s.link ∧
    (freezeAction c h s).model = s.model := by
  unfold freezeAction
  split <;> simp

@[simp] theorem freeze_frame (c : ConfigBlock) (h : Fin 4) (s : State) :
    (freeze c h s).pending = s.pending ∧ (freeze c h s).store = s.store ∧
    (freeze c h s).view = s.view ∧ (freeze c h s).watch = s.watch ∧
    (freeze c h s).clock = s.clock ∧ (freeze c h s).net = s.net ∧
    (freeze c h s).radio = s.radio ∧ (freeze c h s).link = s.link ∧
    (freeze c h s).model = s.model := by
  simp [freeze]

@[simp] theorem healthEvent_frame (c : ConfigBlock) (h : Fin 4) (s : State) :
    (healthEvent c h s).pending = s.pending ∧ (healthEvent c h s).store = s.store ∧
    (healthEvent c h s).view = s.view ∧ (healthEvent c h s).watch = s.watch ∧
    (healthEvent c h s).clock = s.clock ∧ (healthEvent c h s).net = s.net ∧
    (healthEvent c h s).radio = s.radio ∧ (healthEvent c h s).link = s.link ∧
    (healthEvent c h s).model = s.model := by
  simp only [healthEvent]
  (repeat' split) <;> simp

@[simp] theorem issueHealthEvent_frame (c : ConfigBlock) (h : Fin 4) (s : State) :
    (issueHealthEvent c h s).pending = s.pending ∧ (issueHealthEvent c h s).store = s.store ∧
    (issueHealthEvent c h s).view = s.view ∧ (issueHealthEvent c h s).watch = s.watch ∧
    (issueHealthEvent c h s).clock = s.clock ∧ (issueHealthEvent c h s).net = s.net ∧
    (issueHealthEvent c h s).radio = s.radio ∧ (issueHealthEvent c h s).link = s.link ∧
    (issueHealthEvent c h s).model = s.model := by
  simp [issueHealthEvent]

@[simp] theorem drip_frame (c : ConfigBlock) (h : Fin 4) (n : Nat) (b : Bool) (s : State) :
    (drip c h n b s).pending = s.pending ∧ (drip c h n b s).store = s.store ∧
    (drip c h n b s).view = s.view ∧ (drip c h n b s).watch = s.watch ∧
    (drip c h n b s).clock = s.clock ∧ (drip c h n b s).net = s.net ∧
    (drip c h n b s).radio = s.radio ∧ (drip c h n b s).field = s.field ∧
    (drip c h n b s).records = s.records ∧ (drip c h n b s).link = s.link ∧
    (drip c h n b s).notices = s.notices ∧ (drip c h n b s).model = s.model := by
  unfold drip
  split <;> simp

@[simp] theorem leaveEnded_frame (h : Fin 4) (s : State) :
    (leaveEnded h s).pending = s.pending ∧ (leaveEnded h s).store = s.store ∧
    (leaveEnded h s).view = s.view ∧ (leaveEnded h s).watch = s.watch ∧
    (leaveEnded h s).clock = s.clock ∧ (leaveEnded h s).net = s.net ∧
    (leaveEnded h s).radio = s.radio ∧ (leaveEnded h s).records = s.records ∧
    (leaveEnded h s).link = s.link ∧ (leaveEnded h s).model = s.model := by
  simp [leaveEnded]

@[simp] theorem examineNozzle_frame (h : Fin 4) (s : State) :
    (examineNozzle h s).pending = s.pending ∧ (examineNozzle h s).store = s.store ∧
    (examineNozzle h s).view = s.view ∧ (examineNozzle h s).watch = s.watch ∧
    (examineNozzle h s).clock = s.clock ∧ (examineNozzle h s).net = s.net ∧
    (examineNozzle h s).radio = s.radio ∧ (examineNozzle h s).records = s.records ∧
    (examineNozzle h s).link = s.link ∧ (examineNozzle h s).model = s.model := by
  unfold examineNozzle
  split <;> simp

@[simp] theorem enterEnded_frame (c : ConfigBlock) (h : Fin 4) (n : Nat) (s : State) :
    (enterEnded c h n s).pending = s.pending ∧ (enterEnded c h n s).store = s.store ∧
    (enterEnded c h n s).view = s.view ∧ (enterEnded c h n s).watch = s.watch ∧
    (enterEnded c h n s).clock = s.clock ∧ (enterEnded c h n s).net = s.net ∧
    (enterEnded c h n s).radio = s.radio ∧ (enterEnded c h n s).records = s.records ∧
    (enterEnded c h n s).link = s.link ∧ (enterEnded c h n s).model = s.model := by
  simp [enterEnded]

@[simp] theorem completionHealth_frame (c : ConfigBlock) (h : Fin 4) (a b : Bool) (n : Nat) (s : State) :
    (completionHealth c h a b n s).pending = s.pending ∧
    (completionHealth c h a b n s).store = s.store ∧
    (completionHealth c h a b n s).view = s.view ∧
    (completionHealth c h a b n s).watch = s.watch ∧
    (completionHealth c h a b n s).clock = s.clock ∧
    (completionHealth c h a b n s).net = s.net ∧
    (completionHealth c h a b n s).radio = s.radio ∧
    (completionHealth c h a b n s).link = s.link ∧
    (completionHealth c h a b n s).model = s.model := by
  simp only [completionHealth]
  (repeat' split) <;> simp

@[simp] theorem complete_frame (c : ConfigBlock) (h : Fin 4) (x : IssueContext) (s : State) :
    (complete c h x s).pending = s.pending ∧ (complete c h x s).store = s.store ∧
    (complete c h x s).clock = s.clock ∧ (complete c h x s).net = s.net ∧
    (complete c h x s).link = s.link ∧ (complete c h x s).model = s.model := by
  simp [complete]

@[simp] theorem enterSlowing_frame (c : ConfigBlock) (h : Fin 4) (s : State) :
    (enterSlowing c h s).pending = s.pending ∧ (enterSlowing c h s).store = s.store ∧
    (enterSlowing c h s).view = s.view ∧ (enterSlowing c h s).watch = s.watch ∧
    (enterSlowing c h s).clock = s.clock ∧ (enterSlowing c h s).net = s.net ∧
    (enterSlowing c h s).radio = s.radio ∧ (enterSlowing c h s).records = s.records ∧
    (enterSlowing c h s).link = s.link ∧ (enterSlowing c h s).model = s.model := by
  simp [enterSlowing]

@[simp] theorem enterFlowing_frame (c : ConfigBlock) (h : Fin 4) (x : IssueContext) (s : State) :
    (enterFlowing c h x s).pending = s.pending ∧ (enterFlowing c h x s).store = s.store ∧
    (enterFlowing c h x s).view = s.view ∧ (enterFlowing c h x s).watch = s.watch ∧
    (enterFlowing c h x s).clock = s.clock ∧ (enterFlowing c h x s).net = s.net ∧
    (enterFlowing c h x s).radio = s.radio ∧ (enterFlowing c h x s).records = s.records ∧
    (enterFlowing c h x s).link = s.link ∧ (enterFlowing c h x s).model = s.model := by
  unfold enterFlowing
  split <;> simp

@[simp] theorem enterStarting_frame (c : ConfigBlock) (h : Fin 4) (x : IssueContext) (s : State) :
    (enterStarting c h x s).pending = s.pending ∧ (enterStarting c h x s).store = s.store ∧
    (enterStarting c h x s).view = s.view ∧ (enterStarting c h x s).watch = s.watch ∧
    (enterStarting c h x s).clock = s.clock ∧ (enterStarting c h x s).net = s.net ∧
    (enterStarting c h x s).radio = s.radio ∧ (enterStarting c h x s).records = s.records ∧
    (enterStarting c h x s).link = s.link ∧ (enterStarting c h x s).model = s.model := by
  simp only [enterStarting]
  (repeat' split) <;> simp

@[simp] theorem actOnFindings_frame (c : ConfigBlock) (h : Fin 4) (f : PulseFindings) (s : State) :
    (actOnFindings c h f s).pending = s.pending ∧ (actOnFindings c h f s).store = s.store ∧
    (actOnFindings c h f s).view = s.view ∧ (actOnFindings c h f s).watch = s.watch ∧
    (actOnFindings c h f s).clock = s.clock ∧ (actOnFindings c h f s).net = s.net ∧
    (actOnFindings c h f s).radio = s.radio ∧ (actOnFindings c h f s).link = s.link ∧
    (actOnFindings c h f s).model = s.model := by
  unfold actOnFindings
  (repeat' split) <;> simp

@[simp] theorem issuePulse_frame (c : ConfigBlock) (h : Fin 4) (x : IssueContext) (n : Nat) (s : State) :
    (issuePulse c h x n s).pending = s.pending ∧ (issuePulse c h x n s).store = s.store ∧
    (issuePulse c h x n s).view = s.view ∧ (issuePulse c h x n s).watch = s.watch ∧
    (issuePulse c h x n s).clock = s.clock ∧ (issuePulse c h x n s).net = s.net ∧
    (issuePulse c h x n s).radio = s.radio ∧ (issuePulse c h x n s).link = s.link ∧
    (issuePulse c h x n s).model = s.model := by
  simp [issuePulse]

@[simp] theorem creepPulse_frame (c : ConfigBlock) (h : Fin 4) (s : State) :
    (creepPulse c h s).pending = s.pending ∧ (creepPulse c h s).store = s.store ∧
    (creepPulse c h s).view = s.view ∧ (creepPulse c h s).watch = s.watch ∧
    (creepPulse c h s).clock = s.clock ∧ (creepPulse c h s).net = s.net ∧
    (creepPulse c h s).radio = s.radio ∧ (creepPulse c h s).link = s.link ∧
    (creepPulse c h s).model = s.model := by
  simp only [creepPulse]
  (repeat' split) <;> simp

@[simp] theorem takePulse_frame (c : ConfigBlock) (h : Fin 4) (n : Nat) (s : State) :
    (takePulse c h n s).pending = s.pending ∧ (takePulse c h n s).store = s.store ∧
    (takePulse c h n s).view = s.view ∧ (takePulse c h n s).watch = s.watch ∧
    (takePulse c h n s).clock = s.clock ∧ (takePulse c h n s).net = s.net ∧
    (takePulse c h n s).radio = s.radio ∧ (takePulse c h n s).link = s.link ∧
    (takePulse c h n s).model = s.model := by
  unfold takePulse
  split <;> simp

@[simp] theorem barHose_frame (c : ConfigBlock) (v : Nat) (h : Fin 4) (s : State) :
    (barHose c v h s).pending = s.pending ∧ (barHose c v h s).store = s.store ∧
    (barHose c v h s).view = s.view ∧ (barHose c v h s).watch = s.watch ∧
    (barHose c v h s).clock = s.clock ∧ (barHose c v h s).net = s.net ∧
    (barHose c v h s).radio = s.radio ∧ (barHose c v h s).link = s.link ∧
    (barHose c v h s).model = s.model := by
  unfold barHose
  (repeat' split) <;> simp

@[simp] theorem barEndsIssue_frame (c : ConfigBlock) (v : Nat) (s : State) :
    (barEndsIssue c v s).pending = s.pending ∧ (barEndsIssue c v s).store = s.store ∧
    (barEndsIssue c v s).view = s.view ∧ (barEndsIssue c v s).watch = s.watch ∧
    (barEndsIssue c v s).clock = s.clock ∧ (barEndsIssue c v s).net = s.net ∧
    (barEndsIssue c v s).radio = s.radio ∧ (barEndsIssue c v s).link = s.link ∧
    (barEndsIssue c v s).model = s.model := by
  simp [barEndsIssue, eachHose]

@[simp] theorem placeClock_frame (c : ConfigBlock) (p : ClockPos) (s : State) :
    (placeClock c p s).pending = s.pending ∧ (placeClock c p s).store = s.store ∧
    (placeClock c p s).view = s.view ∧ (placeClock c p s).watch = s.watch ∧
    (placeClock c p s).net = s.net ∧ (placeClock c p s).radio = s.radio ∧
    (placeClock c p s).field = s.field ∧ (placeClock c p s).hoses = s.hoses ∧
    (placeClock c p s).records = s.records ∧ (placeClock c p s).link = s.link ∧
    (placeClock c p s).notices = s.notices ∧ (placeClock c p s).model = s.model := by
  simp [placeClock]

@[simp] theorem shiftEffects_frame (s : State) :
    (shiftEffects s).pending = s.pending ∧ (shiftEffects s).store = s.store ∧
    (shiftEffects s).watch = s.watch ∧ (shiftEffects s).net = s.net ∧
    (shiftEffects s).radio = s.radio ∧ (shiftEffects s).field = s.field ∧
    (shiftEffects s).hoses = s.hoses ∧ (shiftEffects s).records = s.records ∧
    (shiftEffects s).link = s.link ∧ (shiftEffects s).notices = s.notices ∧
    (shiftEffects s).model = s.model := by
  simp [shiftEffects]

@[simp] theorem moveClock_frame (c : ConfigBlock) (p : ClockPos) (s : State) :
    (moveClock c p s).pending = s.pending ∧ (moveClock c p s).store = s.store ∧
    (moveClock c p s).watch = s.watch ∧ (moveClock c p s).net = s.net ∧
    (moveClock c p s).radio = s.radio ∧ (moveClock c p s).field = s.field ∧
    (moveClock c p s).hoses = s.hoses ∧ (moveClock c p s).records = s.records ∧
    (moveClock c p s).link = s.link ∧ (moveClock c p s).notices = s.notices ∧
    (moveClock c p s).model = s.model := by
  unfold moveClock
  split <;> simp

@[simp] theorem countSecond_frame (c : ConfigBlock) (s : State) :
    (countSecond c s).pending = s.pending ∧ (countSecond c s).store = s.store ∧
    (countSecond c s).watch = s.watch ∧ (countSecond c s).net = s.net ∧
    (countSecond c s).radio = s.radio ∧ (countSecond c s).field = s.field ∧
    (countSecond c s).hoses = s.hoses ∧ (countSecond c s).records = s.records ∧
    (countSecond c s).link = s.link ∧ (countSecond c s).notices = s.notices ∧
    (countSecond c s).model = s.model := by
  simp only [countSecond]
  (repeat' split) <;> simp

@[simp] theorem startClock_frame (c : ConfigBlock) (p : ClockPos) (s : State) :
    (startClock c p s).pending = s.pending ∧ (startClock c p s).store = s.store ∧
    (startClock c p s).watch = s.watch ∧ (startClock c p s).net = s.net ∧
    (startClock c p s).radio = s.radio ∧ (startClock c p s).field = s.field ∧
    (startClock c p s).hoses = s.hoses ∧ (startClock c p s).records = s.records ∧
    (startClock c p s).link = s.link ∧ (startClock c p s).notices = s.notices ∧
    (startClock c p s).model = s.model := by
  unfold startClock
  (repeat' split) <;> simp

@[simp] theorem beaconAtClock_frame (c : ConfigBlock) (p : ClockPos) (s : State) :
    (beaconAtClock c p s).pending = s.pending ∧ (beaconAtClock c p s).store = s.store ∧
    (beaconAtClock c p s).watch = s.watch ∧ (beaconAtClock c p s).net = s.net ∧
    (beaconAtClock c p s).radio = s.radio ∧ (beaconAtClock c p s).field = s.field ∧
    (beaconAtClock c p s).hoses = s.hoses ∧ (beaconAtClock c p s).records = s.records ∧
    (beaconAtClock c p s).link = s.link ∧ (beaconAtClock c p s).model = s.model := by
  simp only [beaconAtClock]
  (repeat' split) <;> simp

@[simp] theorem tallyAtClock_frame (c : ConfigBlock) (n : Nat) (s : State) :
    (tallyAtClock c n s).pending = s.pending ∧ (tallyAtClock c n s).store = s.store ∧
    (tallyAtClock c n s).watch = s.watch ∧ (tallyAtClock c n s).net = s.net ∧
    (tallyAtClock c n s).radio = s.radio ∧ (tallyAtClock c n s).field = s.field ∧
    (tallyAtClock c n s).hoses = s.hoses ∧ (tallyAtClock c n s).records = s.records ∧
    (tallyAtClock c n s).link = s.link ∧ (tallyAtClock c n s).notices = s.notices ∧
    (tallyAtClock c n s).model = s.model := by
  unfold tallyAtClock
  split <;> simp

@[simp] theorem clockUnderConfig_frame (c : ConfigBlock) (s : State) :
    (clockUnderConfig c s).pending = s.pending ∧ (clockUnderConfig c s).store = s.store ∧
    (clockUnderConfig c s).watch = s.watch ∧ (clockUnderConfig c s).net = s.net ∧
    (clockUnderConfig c s).radio = s.radio ∧ (clockUnderConfig c s).field = s.field ∧
    (clockUnderConfig c s).hoses = s.hoses ∧ (clockUnderConfig c s).records = s.records ∧
    (clockUnderConfig c s).link = s.link ∧ (clockUnderConfig c s).notices = s.notices ∧
    (clockUnderConfig c s).model = s.model := by
  simp only [clockUnderConfig]
  (repeat' split) <;> simp

@[simp] theorem setNetState_frame (st : NetState) (s : State) :
    (setNetState st s).pending = s.pending ∧ (setNetState st s).store = s.store ∧
    (setNetState st s).view = s.view ∧ (setNetState st s).watch = s.watch ∧
    (setNetState st s).clock = s.clock ∧ (setNetState st s).radio = s.radio ∧
    (setNetState st s).field = s.field ∧ (setNetState st s).hoses = s.hoses ∧
    (setNetState st s).records = s.records ∧ (setNetState st s).link = s.link ∧
    (setNetState st s).model = s.model := by
  unfold setNetState
  split <;> simp

@[simp] theorem setListen_frame (t : Option Nat) (s : State) :
    (setListen t s).pending = s.pending ∧ (setListen t s).store = s.store ∧
    (setListen t s).view = s.view ∧ (setListen t s).watch = s.watch ∧
    (setListen t s).clock = s.clock ∧ (setListen t s).radio = s.radio ∧
    (setListen t s).field = s.field ∧ (setListen t s).hoses = s.hoses ∧
    (setListen t s).records = s.records ∧ (setListen t s).link = s.link ∧
    (setListen t s).notices = s.notices ∧ (setListen t s).model = s.model := by
  simp [setListen]

@[simp] theorem clearPeers_frame (s : State) :
    (clearPeers s).pending = s.pending ∧ (clearPeers s).store = s.store ∧
    (clearPeers s).view = s.view ∧ (clearPeers s).watch = s.watch ∧
    (clearPeers s).clock = s.clock ∧ (clearPeers s).radio = s.radio ∧
    (clearPeers s).field = s.field ∧ (clearPeers s).hoses = s.hoses ∧
    (clearPeers s).records = s.records ∧ (clearPeers s).link = s.link ∧
    (clearPeers s).notices = s.notices ∧ (clearPeers s).model = s.model := by
  simp [clearPeers]

@[simp] theorem beaconAtPeer_frame (c : ConfigBlock) (i : Fin 16) (n : Nat) (s : State) :
    (beaconAtPeer c i n s).pending = s.pending ∧ (beaconAtPeer c i n s).store = s.store ∧
    (beaconAtPeer c i n s).view = s.view ∧ (beaconAtPeer c i n s).watch = s.watch ∧
    (beaconAtPeer c i n s).clock = s.clock ∧ (beaconAtPeer c i n s).radio = s.radio ∧
    (beaconAtPeer c i n s).field = s.field ∧ (beaconAtPeer c i n s).hoses = s.hoses ∧
    (beaconAtPeer c i n s).records = s.records ∧ (beaconAtPeer c i n s).link = s.link ∧
    (beaconAtPeer c i n s).model = s.model := by
  simp only [beaconAtPeer]
  (repeat' split) <;> simp

@[simp] theorem missAtPeer_frame (i : Fin 16) (s : State) :
    (missAtPeer i s).pending = s.pending ∧ (missAtPeer i s).store = s.store ∧
    (missAtPeer i s).view = s.view ∧ (missAtPeer i s).watch = s.watch ∧
    (missAtPeer i s).clock = s.clock ∧ (missAtPeer i s).radio = s.radio ∧
    (missAtPeer i s).field = s.field ∧ (missAtPeer i s).hoses = s.hoses ∧
    (missAtPeer i s).records = s.records ∧ (missAtPeer i s).link = s.link ∧
    (missAtPeer i s).model = s.model := by
  simp only [missAtPeer]
  (repeat' split) <;> simp

@[simp] theorem leaveListenIn_frame (s : State) :
    (leaveListenIn s).pending = s.pending ∧ (leaveListenIn s).store = s.store ∧
    (leaveListenIn s).view = s.view ∧ (leaveListenIn s).watch = s.watch ∧
    (leaveListenIn s).clock = s.clock ∧ (leaveListenIn s).radio = s.radio ∧
    (leaveListenIn s).field = s.field ∧ (leaveListenIn s).hoses = s.hoses ∧
    (leaveListenIn s).records = s.records ∧ (leaveListenIn s).link = s.link ∧
    (leaveListenIn s).model = s.model := by
  simp [leaveListenIn]

@[simp] theorem enterListenIn_frame (c : ConfigBlock) (s : State) :
    (enterListenIn c s).pending = s.pending ∧ (enterListenIn c s).store = s.store ∧
    (enterListenIn c s).view = s.view ∧ (enterListenIn c s).watch = s.watch ∧
    (enterListenIn c s).clock = s.clock ∧ (enterListenIn c s).radio = s.radio ∧
    (enterListenIn c s).field = s.field ∧ (enterListenIn c s).hoses = s.hoses ∧
    (enterListenIn c s).records = s.records ∧ (enterListenIn c s).link = s.link ∧
    (enterListenIn c s).model = s.model := by
  simp [enterListenIn]

@[simp] theorem enterStandby_frame (s : State) :
    (enterStandby s).pending = s.pending ∧ (enterStandby s).store = s.store ∧
    (enterStandby s).view = s.view ∧ (enterStandby s).watch = s.watch ∧
    (enterStandby s).clock = s.clock ∧ (enterStandby s).radio = s.radio ∧
    (enterStandby s).field = s.field ∧ (enterStandby s).hoses = s.hoses ∧
    (enterStandby s).records = s.records ∧ (enterStandby s).link = s.link ∧
    (enterStandby s).model = s.model := by
  simp [enterStandby]

@[simp] theorem sendBeacon_frame (c : ConfigBlock) (s : State) :
    (sendBeacon c s).pending = s.pending ∧ (sendBeacon c s).store = s.store ∧
    (sendBeacon c s).view = s.view ∧ (sendBeacon c s).watch = s.watch ∧
    (sendBeacon c s).clock = s.clock ∧ (sendBeacon c s).net = s.net ∧
    (sendBeacon c s).field = s.field ∧ (sendBeacon c s).hoses = s.hoses ∧
    (sendBeacon c s).records = s.records ∧ (sendBeacon c s).link = s.link ∧
    (sendBeacon c s).notices = s.notices ∧ (sendBeacon c s).model = s.model := by
  simp [sendBeacon]

@[simp] theorem sendTally_frame (c : ConfigBlock) (s : State) :
    (sendTally c s).pending = s.pending ∧ (sendTally c s).store = s.store ∧
    (sendTally c s).view = s.view ∧ (sendTally c s).watch = s.watch ∧
    (sendTally c s).clock = s.clock ∧ (sendTally c s).net = s.net ∧
    (sendTally c s).field = s.field ∧ (sendTally c s).hoses = s.hoses ∧
    (sendTally c s).records = s.records ∧ (sendTally c s).link = s.link ∧
    (sendTally c s).notices = s.notices ∧ (sendTally c s).model = s.model := by
  unfold sendTally
  (repeat' split) <;> simp

@[simp] theorem opportunity_frame (c : ConfigBlock) (s : State) :
    (opportunity c s).pending = s.pending ∧ (opportunity c s).store = s.store ∧
    (opportunity c s).view = s.view ∧ (opportunity c s).watch = s.watch ∧
    (opportunity c s).clock = s.clock ∧ (opportunity c s).net = s.net ∧
    (opportunity c s).field = s.field ∧ (opportunity c s).hoses = s.hoses ∧
    (opportunity c s).records = s.records ∧ (opportunity c s).link = s.link ∧
    (opportunity c s).notices = s.notices ∧ (opportunity c s).model = s.model := by
  unfold opportunity
  (repeat' split) <;> simp

@[simp] theorem startSchedules_frame (s : State) :
    (startSchedules s).pending = s.pending ∧ (startSchedules s).store = s.store ∧
    (startSchedules s).view = s.view ∧ (startSchedules s).watch = s.watch ∧
    (startSchedules s).clock = s.clock ∧ (startSchedules s).net = s.net ∧
    (startSchedules s).field = s.field ∧ (startSchedules s).hoses = s.hoses ∧
    (startSchedules s).records = s.records ∧ (startSchedules s).link = s.link ∧
    (startSchedules s).notices = s.notices := by
  simp [startSchedules]

@[simp] theorem nextBeacon_frame (c : ConfigBlock) (s : State) :
    (nextBeacon c s).pending = s.pending ∧ (nextBeacon c s).store = s.store ∧
    (nextBeacon c s).view = s.view ∧ (nextBeacon c s).watch = s.watch ∧
    (nextBeacon c s).clock = s.clock ∧ (nextBeacon c s).net = s.net ∧
    (nextBeacon c s).field = s.field ∧ (nextBeacon c s).hoses = s.hoses ∧
    (nextBeacon c s).records = s.records ∧ (nextBeacon c s).link = s.link ∧
    (nextBeacon c s).notices = s.notices := by
  simp [nextBeacon]

@[simp] theorem countDrop_frame (x : DropCause) (s : State) :
    (countDrop x s).pending = s.pending ∧ (countDrop x s).store = s.store ∧
    (countDrop x s).view = s.view ∧ (countDrop x s).watch = s.watch ∧
    (countDrop x s).clock = s.clock ∧ (countDrop x s).net = s.net ∧
    (countDrop x s).field = s.field ∧ (countDrop x s).hoses = s.hoses ∧
    (countDrop x s).records = s.records ∧ (countDrop x s).link = s.link ∧
    (countDrop x s).notices = s.notices ∧ (countDrop x s).model = s.model := by
  unfold countDrop
  split <;> simp

@[simp] theorem takeBeacon_frame (c : ConfigBlock) (i : Fin 16) (p : ClockPos) (n : Nat) (s : State) :
    (takeBeacon c i p n s).pending = s.pending ∧ (takeBeacon c i p n s).store = s.store ∧
    (takeBeacon c i p n s).watch = s.watch ∧ (takeBeacon c i p n s).radio = s.radio ∧
    (takeBeacon c i p n s).field = s.field ∧ (takeBeacon c i p n s).hoses = s.hoses ∧
    (takeBeacon c i p n s).records = s.records ∧ (takeBeacon c i p n s).link = s.link ∧
    (takeBeacon c i p n s).model = s.model := by
  unfold takeBeacon
  split <;> simp

@[simp] theorem mergeIntoView_frame (c : ConfigBlock) (k : Fin 8) (f : TallyFrame) (s : State) :
    (mergeIntoView c k f s).pending = s.pending ∧ (mergeIntoView c k f s).store = s.store ∧
    (mergeIntoView c k f s).clock = s.clock ∧ (mergeIntoView c k f s).net = s.net ∧
    (mergeIntoView c k f s).link = s.link ∧ (mergeIntoView c k f s).model = s.model := by
  simp only [mergeIntoView]
  (repeat' split) <;> simp

@[simp] theorem tallyAtView_frame (c : ConfigBlock) (f : TallyFrame) (s : State) :
    (tallyAtView c f s).pending = s.pending ∧ (tallyAtView c f s).store = s.store ∧
    (tallyAtView c f s).clock = s.clock ∧ (tallyAtView c f s).net = s.net ∧
    (tallyAtView c f s).link = s.link ∧ (tallyAtView c f s).model = s.model := by
  unfold tallyAtView
  (repeat' split) <;> simp

@[simp] theorem takeTally_frame (c : ConfigBlock) (i : Fin 16) (f : TallyFrame) (s : State) :
    (takeTally c i f s).pending = s.pending ∧ (takeTally c i f s).store = s.store ∧
    (takeTally c i f s).link = s.link ∧ (takeTally c i f s).model = s.model := by
  unfold takeTally
  split <;> simp

@[simp] theorem linkError_frame (s : State) :
    (linkError s).pending = s.pending ∧ (linkError s).store = s.store ∧
    (linkError s).view = s.view ∧ (linkError s).watch = s.watch ∧
    (linkError s).clock = s.clock ∧ (linkError s).net = s.net ∧
    (linkError s).radio = s.radio ∧ (linkError s).field = s.field ∧
    (linkError s).hoses = s.hoses ∧ (linkError s).records = s.records ∧
    (linkError s).notices = s.notices ∧ (linkError s).model = s.model := by
  simp [linkError]

@[simp] theorem emptyView_frame (s : State) :
    (emptyView s).pending = s.pending ∧ (emptyView s).store = s.store ∧
    (emptyView s).clock = s.clock ∧ (emptyView s).net = s.net ∧
    (emptyView s).field = s.field ∧ (emptyView s).hoses = s.hoses ∧
    (emptyView s).records = s.records ∧ (emptyView s).link = s.link ∧
    (emptyView s).model = s.model := by
  simp [emptyView]

@[simp] theorem loadAllowances_frame (c : ConfigBlock) (s : State) :
    (loadAllowances c s).pending = s.pending ∧ (loadAllowances c s).store = s.store ∧
    (loadAllowances c s).view = s.view ∧ (loadAllowances c s).watch = s.watch ∧
    (loadAllowances c s).net = s.net ∧ (loadAllowances c s).radio = s.radio ∧
    (loadAllowances c s).field = s.field ∧ (loadAllowances c s).hoses = s.hoses ∧
    (loadAllowances c s).records = s.records ∧ (loadAllowances c s).link = s.link ∧
    (loadAllowances c s).notices = s.notices ∧ (loadAllowances c s).model = s.model := by
  simp [loadAllowances]

@[simp] theorem restartFilters_frame (s : State) :
    (restartFilters s).pending = s.pending ∧ (restartFilters s).store = s.store ∧
    (restartFilters s).view = s.view ∧ (restartFilters s).watch = s.watch ∧
    (restartFilters s).clock = s.clock ∧ (restartFilters s).net = s.net ∧
    (restartFilters s).radio = s.radio ∧ (restartFilters s).records = s.records ∧
    (restartFilters s).link = s.link ∧ (restartFilters s).model = s.model := by
  simp [restartFilters]

@[simp] theorem hoseUnderConfig_frame (c : ConfigBlock) (h : Fin 4) (s : State) :
    (hoseUnderConfig c h s).pending = s.pending ∧ (hoseUnderConfig c h s).store = s.store ∧
    (hoseUnderConfig c h s).view = s.view ∧ (hoseUnderConfig c h s).watch = s.watch ∧
    (hoseUnderConfig c h s).clock = s.clock ∧ (hoseUnderConfig c h s).net = s.net ∧
    (hoseUnderConfig c h s).radio = s.radio ∧ (hoseUnderConfig c h s).records = s.records ∧
    (hoseUnderConfig c h s).link = s.link ∧ (hoseUnderConfig c h s).model = s.model := by
  simp [hoseUnderConfig]

@[simp] theorem installConfig_frame (c : ConfigBlock) (s : State) :
    (installConfig c s).pending = s.pending ∧ (installConfig c s).net = s.net ∧
    (installConfig c s).records = s.records ∧ (installConfig c s).link = s.link ∧
    (installConfig c s).model = s.model := by
  simp [installConfig, eachHose]

@[simp] theorem dropParts_frame (s : State) :
    (dropParts s).pending = s.pending ∧ (dropParts s).view = s.view ∧
    (dropParts s).watch = s.watch ∧ (dropParts s).clock = s.clock ∧
    (dropParts s).net = s.net ∧ (dropParts s).radio = s.radio ∧
    (dropParts s).field = s.field ∧ (dropParts s).hoses = s.hoses ∧
    (dropParts s).records = s.records ∧ (dropParts s).link = s.link ∧
    (dropParts s).notices = s.notices ∧ (dropParts s).model = s.model := by
  simp [dropParts]

@[simp] theorem startStation_frame (c : ConfigBlock) (p : ClockPos) (s : State) :
    (startStation c p s).pending = s.pending ∧ (startStation c p s).watch = s.watch ∧
    (startStation c p s).records = s.records ∧ (startStation c p s).link = s.link := by
  simp [startStation]

@[simp] theorem standbyStation_frame (s : State) :
    (standbyStation s).pending = s.pending ∧ (standbyStation s).store = s.store ∧
    (standbyStation s).view = s.view ∧ (standbyStation s).watch = s.watch ∧
    (standbyStation s).clock = s.clock ∧ (standbyStation s).field = s.field ∧
    (standbyStation s).hoses = s.hoses ∧ (standbyStation s).records = s.records ∧
    (standbyStation s).link = s.link ∧ (standbyStation s).model = s.model := by
  unfold standbyStation
  split <;> simp

@[simp] theorem endByRestart_frame (c : ConfigBlock) (h : Fin 4) (x : IssueContext) (s : State) :
    (endByRestart c h x s).pending = s.pending ∧ (endByRestart c h x s).store = s.store ∧
    (endByRestart c h x s).clock = s.clock ∧ (endByRestart c h x s).net = s.net ∧
    (endByRestart c h x s).link = s.link ∧ (endByRestart c h x s).model = s.model := by
  simp [endByRestart]

@[simp] theorem restartHose_frame (c : ConfigBlock) (h : Fin 4) (s : State) :
    (restartHose c h s).pending = s.pending ∧ (restartHose c h s).store = s.store ∧
    (restartHose c h s).clock = s.clock ∧ (restartHose c h s).net = s.net ∧
    (restartHose c h s).link = s.link ∧ (restartHose c h s).model = s.model := by
  unfold restartHose
  (repeat' split) <;> simp

@[simp] theorem restartStation_frame (c : ConfigBlock) (s : State) :
    (restartStation c s).pending = s.pending ∧ (restartStation c s).store = s.store ∧
    (restartStation c s).clock = s.clock ∧ (restartStation c s).link = s.link := by
  simp [restartStation, eachHose]

@[simp] theorem storePresented_frame (c : ConfigBlock) (p : Presentation) (e : VehicleEntry) (s : State) :
    (storePresented c p e s).pending = s.pending ∧ (storePresented c p e s).store = s.store ∧
    (storePresented c p e s).clock = s.clock ∧ (storePresented c p e s).net = s.net ∧
    (storePresented c p e s).field = s.field ∧ (storePresented c p e s).hoses = s.hoses ∧
    (storePresented c p e s).records = s.records ∧ (storePresented c p e s).link = s.link ∧
    (storePresented c p e s).model = s.model := by
  simp only [storePresented]
  (repeat' split) <;> simp

@[simp] theorem acceptPresentation_frame (c : ConfigBlock) (h : Fin 4) (p : Presentation) (e : VehicleEntry) (k : PresentCheck) (s : State) :
    (acceptPresentation c h p e k s).pending = s.pending ∧
    (acceptPresentation c h p e k s).store = s.store ∧
    (acceptPresentation c h p e k s).clock = s.clock ∧
    (acceptPresentation c h p e k s).net = s.net ∧
    (acceptPresentation c h p e k s).link = s.link ∧
    (acceptPresentation c h p e k s).model = s.model := by
  simp [acceptPresentation]

@[simp] theorem thawHose_frame (h : Fin 4) (s : State) :
    (thawHose h s).pending = s.pending ∧ (thawHose h s).store = s.store ∧
    (thawHose h s).view = s.view ∧ (thawHose h s).watch = s.watch ∧
    (thawHose h s).clock = s.clock ∧ (thawHose h s).net = s.net ∧
    (thawHose h s).radio = s.radio ∧ (thawHose h s).records = s.records ∧
    (thawHose h s).link = s.link ∧ (thawHose h s).model = s.model := by
  unfold thawHose
  split <;> simp

@[simp] theorem thaw_frame (h : Fin 4) (s : State) :
    (thaw h s).pending = s.pending ∧ (thaw h s).store = s.store ∧ (thaw h s).view = s.view ∧
    (thaw h s).watch = s.watch ∧ (thaw h s).clock = s.clock ∧ (thaw h s).net = s.net ∧
    (thaw h s).radio = s.radio ∧ (thaw h s).records = s.records ∧ (thaw h s).link = s.link ∧
    (thaw h s).model = s.model := by
  simp [thaw]

@[simp] theorem setBar_frame (c : ConfigBlock) (b : Bool) (e : VehicleEntry) (s : State) :
    (setBar c b e s).pending = s.pending ∧ (setBar c b e s).store = s.store ∧
    (setBar c b e s).clock = s.clock ∧ (setBar c b e s).net = s.net ∧
    (setBar c b e s).link = s.link ∧ (setBar c b e s).model = s.model := by
  unfold setBar
  split <;> simp

@[simp] theorem setStaged_frame (k : Fin 8) (v : Option Nat) (s : State) :
    (setStaged k v s).pending = s.pending ∧ (setStaged k v s).store = s.store ∧
    (setStaged k v s).view = s.view ∧ (setStaged k v s).watch = s.watch ∧
    (setStaged k v s).net = s.net ∧ (setStaged k v s).radio = s.radio ∧
    (setStaged k v s).field = s.field ∧ (setStaged k v s).hoses = s.hoses ∧
    (setStaged k v s).records = s.records ∧ (setStaged k v s).link = s.link ∧
    (setStaged k v s).notices = s.notices ∧ (setStaged k v s).model = s.model := by
  simp [setStaged]

@[simp] theorem releaseOldest_frame (l : List IssueRecord) (s : State) :
    (releaseOldest l s).pending = s.pending ∧ (releaseOldest l s).store = s.store ∧
    (releaseOldest l s).view = s.view ∧ (releaseOldest l s).watch = s.watch ∧
    (releaseOldest l s).clock = s.clock ∧ (releaseOldest l s).net = s.net ∧
    (releaseOldest l s).radio = s.radio ∧ (releaseOldest l s).field = s.field ∧
    (releaseOldest l s).hoses = s.hoses ∧ (releaseOldest l s).link = s.link ∧
    (releaseOldest l s).model = s.model := by
  simp [releaseOldest]

@[simp] theorem runCountdown_frame (c : ConfigBlock) (n : Nat) (s : State) :
    (runCountdown c n s).pending = s.pending ∧ (runCountdown c n s).store = s.store ∧
    (runCountdown c n s).view = s.view ∧ (runCountdown c n s).watch = s.watch ∧
    (runCountdown c n s).clock = s.clock ∧ (runCountdown c n s).net = s.net ∧
    (runCountdown c n s).field = s.field ∧ (runCountdown c n s).hoses = s.hoses ∧
    (runCountdown c n s).records = s.records ∧ (runCountdown c n s).link = s.link ∧
    (runCountdown c n s).notices = s.notices ∧ (runCountdown c n s).model = s.model := by
  unfold runCountdown
  split <;> simp

@[simp] theorem liftAt_frame (c : ConfigBlock) (h : Fin 4) (s : State) :
    (liftAt c h s).pending = s.pending ∧ (liftAt c h s).store = s.store ∧
    (liftAt c h s).view = s.view ∧ (liftAt c h s).watch = s.watch ∧
    (liftAt c h s).clock = s.clock ∧ (liftAt c h s).net = s.net ∧
    (liftAt c h s).radio = s.radio ∧ (liftAt c h s).records = s.records ∧
    (liftAt c h s).link = s.link ∧ (liftAt c h s).model = s.model := by
  unfold liftAt
  split <;> simp

@[simp] theorem hangAt_frame (c : ConfigBlock) (h : Fin 4) (s : State) :
    (hangAt c h s).pending = s.pending ∧ (hangAt c h s).store = s.store ∧
    (hangAt c h s).view = s.view ∧ (hangAt c h s).watch = s.watch ∧
    (hangAt c h s).clock = s.clock ∧ (hangAt c h s).net = s.net ∧
    (hangAt c h s).radio = s.radio ∧ (hangAt c h s).records = s.records ∧
    (hangAt c h s).link = s.link ∧ (hangAt c h s).model = s.model := by
  unfold hangAt
  (repeat' split) <;> simp

@[simp] theorem setNozzle_frame (c : ConfigBlock) (h : Fin 4) (b : Bool) (s : State) :
    (setNozzle c h b s).pending = s.pending ∧ (setNozzle c h b s).store = s.store ∧
    (setNozzle c h b s).view = s.view ∧ (setNozzle c h b s).watch = s.watch ∧
    (setNozzle c h b s).clock = s.clock ∧ (setNozzle c h b s).net = s.net ∧
    (setNozzle c h b s).radio = s.radio ∧ (setNozzle c h b s).field = s.field ∧
    (setNozzle c h b s).records = s.records ∧ (setNozzle c h b s).link = s.link ∧
    (setNozzle c h b s).notices = s.notices ∧ (setNozzle c h b s).model = s.model := by
  simp [setNozzle]

@[simp] theorem changeNozzle_frame (c : ConfigBlock) (h : Fin 4) (b : Bool) (s : State) :
    (changeNozzle c h b s).pending = s.pending ∧ (changeNozzle c h b s).store = s.store ∧
    (changeNozzle c h b s).view = s.view ∧ (changeNozzle c h b s).watch = s.watch ∧
    (changeNozzle c h b s).clock = s.clock ∧ (changeNozzle c h b s).net = s.net ∧
    (changeNozzle c h b s).radio = s.radio ∧ (changeNozzle c h b s).records = s.records ∧
    (changeNozzle c h b s).link = s.link ∧ (changeNozzle c h b s).model = s.model := by
  unfold changeNozzle
  split <;> simp

@[simp] theorem setStop_frame (c : ConfigBlock) (b : Bool) (s : State) :
    (setStop c b s).pending = s.pending ∧ (setStop c b s).store = s.store ∧
    (setStop c b s).view = s.view ∧ (setStop c b s).watch = s.watch ∧
    (setStop c b s).clock = s.clock ∧ (setStop c b s).net = s.net ∧
    (setStop c b s).radio = s.radio ∧ (setStop c b s).hoses = s.hoses ∧
    (setStop c b s).records = s.records ∧ (setStop c b s).link = s.link ∧
    (setStop c b s).model = s.model := by
  simp [setStop]

@[simp] theorem changeStop_frame (c : ConfigBlock) (b : Bool) (s : State) :
    (changeStop c b s).pending = s.pending ∧ (changeStop c b s).store = s.store ∧
    (changeStop c b s).view = s.view ∧ (changeStop c b s).watch = s.watch ∧
    (changeStop c b s).clock = s.clock ∧ (changeStop c b s).net = s.net ∧
    (changeStop c b s).radio = s.radio ∧ (changeStop c b s).link = s.link ∧
    (changeStop c b s).model = s.model := by
  unfold changeStop eachHose
  split <;> simp

@[simp] theorem setMeterInput_frame (c : ConfigBlock) (h : Fin 4) (s : State) :
    (setMeterInput c h s).pending = s.pending ∧ (setMeterInput c h s).store = s.store ∧
    (setMeterInput c h s).view = s.view ∧ (setMeterInput c h s).watch = s.watch ∧
    (setMeterInput c h s).clock = s.clock ∧ (setMeterInput c h s).net = s.net ∧
    (setMeterInput c h s).radio = s.radio ∧ (setMeterInput c h s).field = s.field ∧
    (setMeterInput c h s).records = s.records ∧ (setMeterInput c h s).link = s.link ∧
    (setMeterInput c h s).notices = s.notices ∧ (setMeterInput c h s).model = s.model := by
  simp [setMeterInput]

@[simp] theorem endPrimeWait_frame (c : ConfigBlock) (h : Fin 4) (x : IssueContext) (s : State) :
    (endPrimeWait c h x s).pending = s.pending ∧ (endPrimeWait c h x s).store = s.store ∧
    (endPrimeWait c h x s).view = s.view ∧ (endPrimeWait c h x s).watch = s.watch ∧
    (endPrimeWait c h x s).clock = s.clock ∧ (endPrimeWait c h x s).net = s.net ∧
    (endPrimeWait c h x s).radio = s.radio ∧ (endPrimeWait c h x s).records = s.records ∧
    (endPrimeWait c h x s).link = s.link ∧ (endPrimeWait c h x s).model = s.model := by
  simp [endPrimeWait]

end Sys2Proof.Machine
end

