-- ==== Sys2Proof/Laws/State.lean ====
section
/-! SUPPORT. Sys2Proof/Laws/State.lean: what each update of the state writes: the hose tables, the peer
table, the notice table and the radio block after an update, each a simp lemma; and what a step is. -/

namespace Sys2Proof.Machine

open Sys2Proof

/-! ### Hoses -/

theorem hose_mapHose (s : State) (h k : Fin 4) (f : Hose → Hose) :
    (s.mapHose h f).hose k = if k = h then f (s.hose k) else s.hose k := by
  by_cases e : k = h
  · subst e; simp [State.mapHose, State.hose]
  · have : (h : Nat) ≠ k := fun x => e (Fin.ext x.symm)
    simp [State.mapHose, State.hose, e, this]

@[simp] theorem hose_mapHose_self (s : State) (h : Fin 4) (f : Hose → Hose) :
    (s.mapHose h f).hose h = f (s.hose h) := by simp [hose_mapHose]

@[simp] theorem hose_mapCtl (s : State) (h k : Fin 4) (f : HoseControl → HoseControl) :
    (s.mapCtl h f).hose k = if k = h then { s.hose k with ctl := f (s.hose k).ctl } else s.hose k :=
  hose_mapHose s h k _

@[simp] theorem hose_mapMeter (s : State) (h k : Fin 4) (f : Meter → Meter) :
    (s.mapMeter h f).hose k = if k = h then { s.hose k with meter := f (s.hose k).meter } else s.hose k :=
  hose_mapHose s h k _

@[simp] theorem hose_mapHealth (s : State) (h k : Fin 4) (f : Health → Health) :
    (s.mapHealth h f).hose k = if k = h then { s.hose k with health := f (s.hose k).health } else s.hose k :=
  hose_mapHose s h k _

@[simp] theorem hose_mapContext (s : State) (h k : Fin 4) (f : IssueContext → IssueContext) :
    (s.mapContext h f).hose k = if k = h then { s.hose k with ctl := { (s.hose k).ctl with
      context := (s.hose k).ctl.context.map f } } else s.hose k :=
  hose_mapHose s h k _

/-- A hose is read from the hose table alone, so an operation that keeps the table keeps every hose. -/
theorem hose_congr {s t : State} (e : t.hoses = s.hoses) (h : Fin 4) : t.hose h = s.hose h := by
  simp [State.hose, e]

@[simp] theorem hose_raise (src : NoticeSource) (s : State) (h : Fin 4) : (raise src s).hose h = s.hose h :=
  rfl

@[simp] theorem hose_report (src : NoticeSource) (b : Bool) (s : State) (h : Fin 4) :
    (report src b s).hose h = s.hose h := rfl

@[simp] theorem hose_drivePump (s : State) (h : Fin 4) : (drivePump s).hose h = s.hose h :=
  hose_congr (by simp) h

/-- A test over the hose table holds when it holds of some hose. -/
theorem anyTable_hoses (s : State) (p : Hose → Bool) :
    anyTable s.hoses p = true ↔ ∃ h, p (s.hose h) = true := by
  simp only [anyTable, State.hose, List.any_eq_true, Vector.mem_toList_iff, Vector.mem_iff_getElem]
  constructor
  · rintro ⟨x, ⟨i, hi, rfl⟩, hx⟩; exact ⟨⟨i, hi⟩, hx⟩
  · rintro ⟨i, hi⟩; exact ⟨_, ⟨i.1, i.2, rfl⟩, hi⟩

/-- An operation made on every hose keeps what it keeps on each. -/
theorem eachHose_keeps {α : Type} (p : State → α) (f : Fin 4 → State → State)
    (hf : ∀ h s, p (f h s) = p s) (s : State) : p (eachHose f s) = p s := by
  simp [eachHose, hf]

/-- An operation made on every hose keeps an invariant that it keeps on each. -/
theorem eachHose_inv (P : State → Prop) (f : Fin 4 → State → State) (hf : ∀ h s, P s → P (f h s))
    (s : State) (hs : P s) : P (eachHose f s) :=
  hf 3 _ (hf 2 _ (hf 1 _ (hf 0 _ hs)))

/-! ### Peers -/

@[simp] theorem peers_mapPeer (s : State) (i : Fin 16) (f : Peer → Peer) :
    (s.mapPeer i f).net.peers = s.net.peers.set i (f s.net.peers[i]) := rfl

@[simp] theorem state_mapPeer (s : State) (i : Fin 16) (f : Peer → Peer) :
    (s.mapPeer i f).net.state = s.net.state := rfl

@[simp] theorem listen_mapPeer (s : State) (i : Fin 16) (f : Peer → Peer) :
    (s.mapPeer i f).net.listen = s.net.listen := rfl

@[simp] theorem clash_mapPeer (s : State) (i : Fin 16) (f : Peer → Peer) :
    (s.mapPeer i f).net.clash = s.net.clash := rfl

/-- The net block after the net state is set: only the state changes. -/
@[simp] theorem net_setNetState (st : NetState) (s : State) :
    (setNetState st s).net = { s.net with state := st } := by
  unfold setNetState
  split
  · next h => simp [← h]
  · simp

/-! ### Radio -/

@[simp] theorem radio_mapRadio (s : State) (f : RadioBlock → RadioBlock) :
    (s.mapRadio f).radio = f s.radio := rfl

/-! ### Notices -/

@[simp] theorem entries_withNotices (s : State) (v : Vector NoticeEntry 12) :
    (s.withNotices v).notices.entries = v := rfl

@[simp] theorem attention_withNotices (s : State) (v : Vector NoticeEntry 12) :
    (s.withNotices v).notices.attention = anyTable v (·.pending) := rfl

theorem entries_mapNotice (s : State) (i : Fin 12) (j : Nat) (hj : j < 12) (f : NoticeEntry → NoticeEntry) :
    (s.mapNotice i f).notices.entries[j] =
      if j = i.val then f s.notices.entries[j] else s.notices.entries[j] := by
  by_cases e : j = i.val
  · subst e; simp [State.mapNotice]
  · have : i.val ≠ j := fun x => e x.symm
    simp [State.mapNotice, e, this]

theorem entries_raise (src : NoticeSource) (s : State) (j : Nat) (hj : j < 12) :
    (raise src s).notices.entries[j] =
      if j = src.index.val then s.notices.entries[j].raised else s.notices.entries[j] :=
  entries_mapNotice s _ j hj _

theorem entries_report (src : NoticeSource) (b : Bool) (s : State) (j : Nat) (hj : j < 12) :
    (report src b s).notices.entries[j] =
      if j = src.index.val then s.notices.entries[j].reported b else s.notices.entries[j] :=
  entries_mapNotice s _ j hj _

theorem entries_mapNotices (s : State) (f : Fin 12 → NoticeEntry → NoticeEntry) (j : Nat) (hj : j < 12) :
    (s.mapNotices f).notices.entries[j] = f ⟨j, hj⟩ s.notices.entries[j] := by
  simp [State.mapNotices]

/-- A raised occurrence is raised in the terms of the statements. -/
theorem raised_raise (src : NoticeSource) (s : State) :
    (raise src s).notices.entries[src.index].pending =
      (s.notices.entries[src.index].pending || s.notices.entries[src.index].enabled) := by
  have := entries_raise src s src.index.val src.index.isLt
  simp only [if_true] at this
  exact congrArg NoticeEntry.pending this

/-- The guard's evaluation raises NOZZLE_GUARD and moves no other notice. -/
theorem notices_guardEval (s : State) (j : Nat) (hj : j < 12) (h2 : j ≠ 2) :
    (guardEval s).notices.entries[j] = s.notices.entries[j] := by
  have all := eachHose_keeps (fun s : State => s.notices) countOffence (by intro h s; simp)
  simp only [guardEval]
  (repeat' split) <;> simp [entries_raise, NoticeSource.index, h2, all]

theorem notices_enterState (h : Fin 4) (st : HoseState) (s : State) (j : Nat) (hj : j < 12) (h2 : j ≠ 2) :
    (enterState h st s).notices.entries[j] = s.notices.entries[j] := by
  simp only [enterState, notices_guardEval _ j hj h2]; simp

/-! ### The state of a hose -/

/-- The guard's evaluation leaves of each hose everything but its guard counter. -/
theorem parts_guardEval (k : Fin 4) (s : State) :
    ((guardEval s).hose k).ctl = (s.hose k).ctl ∧ ((guardEval s).hose k).meter = (s.hose k).meter ∧
    ((guardEval s).hose k).health = (s.hose k).health ∧
    ((guardEval s).hose k).nozzle = (s.hose k).nozzle ∧
    ((guardEval s).hose k).meterInput = (s.hose k).meterInput := by
  have one : ∀ (h : Fin 4) (s : State),
      { (countOffence h s).hose k with guardCount := 0 } = { s.hose k with guardCount := 0 } := by
    intro h s
    unfold countOffence
    split
    · simp only [hose_mapHose]; split <;> rfl
    · rfl
  have all := fun s => eachHose_keeps (fun s : State => { s.hose k with guardCount := 0 }) countOffence one s
  simp only [Hose.mk.injEq, and_true] at all
  simp only [guardEval]
  (repeat' split) <;> first | exact ⟨rfl, rfl, rfl, rfl, rfl⟩ | exact all _

/-- The guard's evaluation leaves of the field lines everything but its match state. -/
theorem field_guardEval (s : State) :
    (guardEval s).field.stop = s.field.stop ∧ (guardEval s).field.pumpRun = s.field.pumpRun ∧
    (guardEval s).field.sincePumpOn = s.field.sincePumpOn ∧
    (guardEval s).field.samplePhase = s.field.samplePhase := by
  have all := eachHose_keeps (fun s : State => s.field) countOffence (by intro h s; simp)
  simp only [guardEval]
  (repeat' split) <;> simp [all]

/-- What entering a state does to each hose's controller: the hose's own takes the state, with its valves
as the state and the stop line ask; the others keep theirs. -/
theorem ctl_enterState (h k : Fin 4) (st : HoseState) (s : State) :
    ((enterState h st s).hose k).ctl = if k = h then { (s.hose k).ctl with
      state := st
      mainValve := mainValveOf s.field.stop.active st
      slowValve := slowValveOf s.field.stop.active st } else (s.hose k).ctl := by
  simp only [enterState, parts_guardEval, hose_drivePump, driveValves, hose_mapCtl]
  split <;> simp_all

/-- What entering a state leaves of each hose beside its controller and its guard counter. -/
theorem parts_enterState (h k : Fin 4) (st : HoseState) (s : State) :
    ((enterState h st s).hose k).meter = (s.hose k).meter ∧
    ((enterState h st s).hose k).health = (s.hose k).health ∧
    ((enterState h st s).hose k).nozzle = (s.hose k).nozzle ∧
    ((enterState h st s).hose k).meterInput = (s.hose k).meterInput := by
  simp only [enterState, parts_guardEval, hose_drivePump, driveValves, hose_mapCtl]
  split <;> simp

@[simp] theorem stop_enterState (h : Fin 4) (st : HoseState) (s : State) :
    (enterState h st s).field.stop = s.field.stop := by
  simp only [enterState, guardEval, drivePump]
  (repeat' split) <;> simp [eachHose]

/-! ### Serving a request -/

/-- A request with fewer than four responses held: its effect, with its response added at the tail. -/
theorem serve_taken (kind : Nat) (s : State) (request : State → Reply)
    (h : s.link.responses.length < responseRoom) :
    serve kind s request =
      { (request s).1 with link := { (request s).1.link with
          responses := (request s).1.link.responses ++ [⟨kind, (request s).2.1, (request s).2.2⟩] } } := by
  simp [serve, Nat.not_le.mpr h]

/-- A request with four responses held is discarded and counted (R166). -/
theorem serve_discarded (kind : Nat) (s : State) (request : State → Reply)
    (h : responseRoom ≤ s.link.responses.length) : serve kind s request = linkError s := by
  simp [serve, h]

/-! ### Steps -/

/-- A frame taken from a line leaves the arrivals, one shorter, and nothing else. -/
theorem mem_oldestFrom {line : Instr → Bool} {s : State} {x : Instr × State} (h : x ∈ oldestFrom line s) :
    x.2 = { s with model := x.2.model } ∧ x.2.model.arrived.length + 1 = s.model.arrived.length := by
  unfold oldestFrom at h
  split at h
  · simp at h
  · next i hi =>
    simp only [List.mem_singleton] at h
    subst h
    refine ⟨rfl, ?_⟩
    have := List.length_eraseP_of_mem (List.mem_of_find?_eq_some hi) (List.find?_some hi)
    have := List.length_pos_of_mem (List.mem_of_find?_eq_some hi)
    simp only; omega

/-- An event that may be taken in the state as it stands is one of the part's own that has come about. -/
theorem mem_candidates_self (i : Instr) (s : State) : (i, s) ∈ candidates s ↔ i ∈ ownDue s := by
  have no : ∀ line, (i, s) ∉ oldestFrom line s := fun line h => by
    have := (mem_oldestFrom h).2; simp at this
  simp [candidates, no]

/-- What a step is: the command at the front of the queue; with none, an event of the part that has come
about, taken in a state that differs in the model's own fields alone; with none, a tick. -/
theorem step_cases (s : State) :
    (∃ c rest, s.pending = c :: rest ∧ step s = exec c { s with pending := rest }) ∨
    (s.pending = [] ∧ ∃ c m, step s = exec c { s with model := m }) ∨
    (s.pending = [] ∧ step s = .next (tick s)) := by
  unfold step
  split
  · next c rest h => exact .inl ⟨c, rest, h, rfl⟩
  · next h =>
    split
    · next c s1 e =>
      refine .inr (.inl ⟨h, c, s1.model, ?_⟩)
      have : s1 = { s with model := s1.model } := by
        unfold nextEvent at e
        simp only [Option.map_eq_some_iff, Prod.mk.injEq] at e
        obtain ⟨x, hx, rfl, rfl⟩ := e
        have hm : x ∈ candidates s := List.mem_of_getElem? hx
        simp only [candidates, List.mem_append, List.mem_map] at hm
        rcases hm with (hm | hm) | ⟨i, -, rfl⟩
        · obtain ⟨h2, -⟩ := mem_oldestFrom hm; rw [h2]; rfl
        · obtain ⟨h2, -⟩ := mem_oldestFrom hm; rw [h2]; rfl
        · rfl
      rw [← this]
    · exact .inr (.inr ⟨h, rfl⟩)

end Sys2Proof.Machine
end

