-- ==== Sys2Proof/Laws/Hoses.lean ====
section
/-! SUPPORT. Sys2Proof/Laws/Hoses.lean: what the operations of one hose do to the hoses: first that each leaves
every other hose as it was but for its guard counter, then what each does to its own hose. -/

namespace Sys2Proof.Machine

open Sys2Proof

/-! ### Operations that touch no hose -/

@[simp] theorem hose_releaseReservation (s : State) (k : Fin 4) : (releaseReservation s).hose k = s.hose k :=
  rfl

@[simp] theorem hose_takeReservation (s : State) (k : Fin 4) : (takeReservation s).hose k = s.hose k := rfl

@[simp] theorem hose_charge (c : ConfigBlock) (v n : Nat) (s : State) (k : Fin 4) :
    (charge c v n s).hose k = s.hose k := hose_congr (by simp) k

@[simp] theorem hose_commitRecord (h : Fin 4) (x : IssueContext) (s : State) (k : Fin 4) :
    (commitRecord h x s).hose k = s.hose k := hose_congr (by simp) k

@[simp] theorem hose_reportHoseOut (s : State) (k : Fin 4) : (reportHoseOut s).hose k = s.hose k := rfl

/-! ### The other hoses -/

@[simp] theorem enterState_others (st : HoseState) (h k : Fin 4) (s : State) (hk : k ≠ h) :
    ((enterState h st s).hose k).ctl = (s.hose k).ctl ∧ ((enterState h st s).hose k).meter = (s.hose k).meter ∧
    ((enterState h st s).hose k).health = (s.hose k).health ∧
    ((enterState h st s).hose k).nozzle = (s.hose k).nozzle ∧
    ((enterState h st s).hose k).meterInput = (s.hose k).meterInput := by
  simp [ctl_enterState, parts_enterState, hk]

@[simp] theorem markIssue_others (h k : Fin 4) (s : State) (hk : k ≠ h) :
    ((markIssue h s).hose k).ctl = (s.hose k).ctl ∧ ((markIssue h s).hose k).meter = (s.hose k).meter ∧
    ((markIssue h s).hose k).health = (s.hose k).health ∧
    ((markIssue h s).hose k).nozzle = (s.hose k).nozzle ∧
    ((markIssue h s).hose k).meterInput = (s.hose k).meterInput := by
  simp [markIssue, hk]

@[simp] theorem cancel_others (h k : Fin 4) (s : State) (hk : k ≠ h) :
    ((cancel h s).hose k).ctl = (s.hose k).ctl ∧ ((cancel h s).hose k).meter = (s.hose k).meter ∧
    ((cancel h s).hose k).health = (s.hose k).health ∧
    ((cancel h s).hose k).nozzle = (s.hose k).nozzle ∧
    ((cancel h s).hose k).meterInput = (s.hose k).meterInput := by
  simp [cancel, hk, hose_releaseReservation]

@[simp] theorem close_others (c : ConfigBlock) (r : EndReason) (h k : Fin 4) (s : State) (hk : k ≠ h) :
    ((close c h r s).hose k).ctl = (s.hose k).ctl ∧ ((close c h r s).hose k).meter = (s.hose k).meter ∧
    ((close c h r s).hose k).health = (s.hose k).health ∧
    ((close c h r s).hose k).nozzle = (s.hose k).nozzle ∧
    ((close c h r s).hose k).meterInput = (s.hose k).meterInput := by
  simp [close, hk]

@[simp] theorem freezeAction_others (c : ConfigBlock) (h k : Fin 4) (s : State) (hk : k ≠ h) :
    ((freezeAction c h s).hose k).ctl = (s.hose k).ctl ∧ ((freezeAction c h s).hose k).meter = (s.hose k).meter ∧
    ((freezeAction c h s).hose k).health = (s.hose k).health ∧
    ((freezeAction c h s).hose k).nozzle = (s.hose k).nozzle ∧
    ((freezeAction c h s).hose k).meterInput = (s.hose k).meterInput := by
  unfold freezeAction; split <;> simp [hk]

@[simp] theorem freeze_others (c : ConfigBlock) (h k : Fin 4) (s : State) (hk : k ≠ h) :
    ((freeze c h s).hose k).ctl = (s.hose k).ctl ∧ ((freeze c h s).hose k).meter = (s.hose k).meter ∧
    ((freeze c h s).hose k).health = (s.hose k).health ∧
    ((freeze c h s).hose k).nozzle = (s.hose k).nozzle ∧
    ((freeze c h s).hose k).meterInput = (s.hose k).meterInput := by
  simp [freeze, hk, reportHoseOut]

@[simp] theorem healthEvent_others (c : ConfigBlock) (h k : Fin 4) (s : State) (hk : k ≠ h) :
    ((healthEvent c h s).hose k).ctl = (s.hose k).ctl ∧ ((healthEvent c h s).hose k).meter = (s.hose k).meter ∧
    ((healthEvent c h s).hose k).health = (s.hose k).health ∧
    ((healthEvent c h s).hose k).nozzle = (s.hose k).nozzle ∧
    ((healthEvent c h s).hose k).meterInput = (s.hose k).meterInput := by
  simp only [healthEvent]; (repeat' split) <;> simp [hk]

@[simp] theorem issueHealthEvent_others (c : ConfigBlock) (h k : Fin 4) (s : State) (hk : k ≠ h) :
    ((issueHealthEvent c h s).hose k).ctl = (s.hose k).ctl ∧ ((issueHealthEvent c h s).hose k).meter = (s.hose k).meter ∧
    ((issueHealthEvent c h s).hose k).health = (s.hose k).health ∧
    ((issueHealthEvent c h s).hose k).nozzle = (s.hose k).nozzle ∧
    ((issueHealthEvent c h s).hose k).meterInput = (s.hose k).meterInput := by
  simp [issueHealthEvent, hk]

@[simp] theorem drip_others (c : ConfigBlock) (n : Nat) (b : Bool) (h k : Fin 4) (s : State) (hk : k ≠ h) :
    ((drip c h n b s).hose k).ctl = (s.hose k).ctl ∧ ((drip c h n b s).hose k).meter = (s.hose k).meter ∧
    ((drip c h n b s).hose k).health = (s.hose k).health ∧
    ((drip c h n b s).hose k).nozzle = (s.hose k).nozzle ∧
    ((drip c h n b s).hose k).meterInput = (s.hose k).meterInput := by
  unfold drip; split <;> simp [hk]

@[simp] theorem leaveEnded_others (h k : Fin 4) (s : State) (hk : k ≠ h) :
    ((leaveEnded h s).hose k).ctl = (s.hose k).ctl ∧ ((leaveEnded h s).hose k).meter = (s.hose k).meter ∧
    ((leaveEnded h s).hose k).health = (s.hose k).health ∧
    ((leaveEnded h s).hose k).nozzle = (s.hose k).nozzle ∧
    ((leaveEnded h s).hose k).meterInput = (s.hose k).meterInput := by
  simp [leaveEnded, hk]

@[simp] theorem examineNozzle_others (h k : Fin 4) (s : State) (hk : k ≠ h) :
    ((examineNozzle h s).hose k).ctl = (s.hose k).ctl ∧ ((examineNozzle h s).hose k).meter = (s.hose k).meter ∧
    ((examineNozzle h s).hose k).health = (s.hose k).health ∧
    ((examineNozzle h s).hose k).nozzle = (s.hose k).nozzle ∧
    ((examineNozzle h s).hose k).meterInput = (s.hose k).meterInput := by
  unfold examineNozzle; split <;> simp [hk]

@[simp] theorem enterEnded_others (c : ConfigBlock) (n : Nat) (h k : Fin 4) (s : State) (hk : k ≠ h) :
    ((enterEnded c h n s).hose k).ctl = (s.hose k).ctl ∧ ((enterEnded c h n s).hose k).meter = (s.hose k).meter ∧
    ((enterEnded c h n s).hose k).health = (s.hose k).health ∧
    ((enterEnded c h n s).hose k).nozzle = (s.hose k).nozzle ∧
    ((enterEnded c h n s).hose k).meterInput = (s.hose k).meterInput := by
  simp [enterEnded, hk]

@[simp] theorem completionHealth_others (c : ConfigBlock) (a b : Bool) (n : Nat) (h k : Fin 4) (s : State) (hk : k ≠ h) :
    ((completionHealth c h a b n s).hose k).ctl = (s.hose k).ctl ∧ ((completionHealth c h a b n s).hose k).meter = (s.hose k).meter ∧
    ((completionHealth c h a b n s).hose k).health = (s.hose k).health ∧
    ((completionHealth c h a b n s).hose k).nozzle = (s.hose k).nozzle ∧
    ((completionHealth c h a b n s).hose k).meterInput = (s.hose k).meterInput := by
  simp only [completionHealth]; (repeat' split) <;> simp [hk]

@[simp] theorem complete_others (c : ConfigBlock) (x : IssueContext) (h k : Fin 4) (s : State) (hk : k ≠ h) :
    ((complete c h x s).hose k).ctl = (s.hose k).ctl ∧ ((complete c h x s).hose k).meter = (s.hose k).meter ∧
    ((complete c h x s).hose k).health = (s.hose k).health ∧
    ((complete c h x s).hose k).nozzle = (s.hose k).nozzle ∧
    ((complete c h x s).hose k).meterInput = (s.hose k).meterInput := by
  simp [complete, hk, hose_charge, hose_commitRecord]

@[simp] theorem enterSlowing_others (c : ConfigBlock) (h k : Fin 4) (s : State) (hk : k ≠ h) :
    ((enterSlowing c h s).hose k).ctl = (s.hose k).ctl ∧ ((enterSlowing c h s).hose k).meter = (s.hose k).meter ∧
    ((enterSlowing c h s).hose k).health = (s.hose k).health ∧
    ((enterSlowing c h s).hose k).nozzle = (s.hose k).nozzle ∧
    ((enterSlowing c h s).hose k).meterInput = (s.hose k).meterInput := by
  simp [enterSlowing, hk]

@[simp] theorem enterFlowing_others (c : ConfigBlock) (x : IssueContext) (h k : Fin 4) (s : State) (hk : k ≠ h) :
    ((enterFlowing c h x s).hose k).ctl = (s.hose k).ctl ∧ ((enterFlowing c h x s).hose k).meter = (s.hose k).meter ∧
    ((enterFlowing c h x s).hose k).health = (s.hose k).health ∧
    ((enterFlowing c h x s).hose k).nozzle = (s.hose k).nozzle ∧
    ((enterFlowing c h x s).hose k).meterInput = (s.hose k).meterInput := by
  simp only [enterFlowing]; split <;> simp [hk]

@[simp] theorem enterStarting_others (c : ConfigBlock) (x : IssueContext) (h k : Fin 4) (s : State) (hk : k ≠ h) :
    ((enterStarting c h x s).hose k).ctl = (s.hose k).ctl ∧ ((enterStarting c h x s).hose k).meter = (s.hose k).meter ∧
    ((enterStarting c h x s).hose k).health = (s.hose k).health ∧
    ((enterStarting c h x s).hose k).nozzle = (s.hose k).nozzle ∧
    ((enterStarting c h x s).hose k).meterInput = (s.hose k).meterInput := by
  simp only [enterStarting]; split <;> simp [hk]

@[simp] theorem actOnFindings_others (c : ConfigBlock) (f : PulseFindings) (h k : Fin 4) (s : State) (hk : k ≠ h) :
    ((actOnFindings c h f s).hose k).ctl = (s.hose k).ctl ∧ ((actOnFindings c h f s).hose k).meter = (s.hose k).meter ∧
    ((actOnFindings c h f s).hose k).health = (s.hose k).health ∧
    ((actOnFindings c h f s).hose k).nozzle = (s.hose k).nozzle ∧
    ((actOnFindings c h f s).hose k).meterInput = (s.hose k).meterInput := by
  unfold actOnFindings; (repeat' split) <;> simp [hk]

@[simp] theorem issuePulse_others (c : ConfigBlock) (x : IssueContext) (n : Nat) (h k : Fin 4) (s : State) (hk : k ≠ h) :
    ((issuePulse c h x n s).hose k).ctl = (s.hose k).ctl ∧ ((issuePulse c h x n s).hose k).meter = (s.hose k).meter ∧
    ((issuePulse c h x n s).hose k).health = (s.hose k).health ∧
    ((issuePulse c h x n s).hose k).nozzle = (s.hose k).nozzle ∧
    ((issuePulse c h x n s).hose k).meterInput = (s.hose k).meterInput := by
  simp [issuePulse, hk]

@[simp] theorem creepPulse_others (c : ConfigBlock) (h k : Fin 4) (s : State) (hk : k ≠ h) :
    ((creepPulse c h s).hose k).ctl = (s.hose k).ctl ∧ ((creepPulse c h s).hose k).meter = (s.hose k).meter ∧
    ((creepPulse c h s).hose k).health = (s.hose k).health ∧
    ((creepPulse c h s).hose k).nozzle = (s.hose k).nozzle ∧
    ((creepPulse c h s).hose k).meterInput = (s.hose k).meterInput := by
  simp only [creepPulse]; split <;> simp [hk]

@[simp] theorem takePulse_others (c : ConfigBlock) (n : Nat) (h k : Fin 4) (s : State) (hk : k ≠ h) :
    ((takePulse c h n s).hose k).ctl = (s.hose k).ctl ∧ ((takePulse c h n s).hose k).meter = (s.hose k).meter ∧
    ((takePulse c h n s).hose k).health = (s.hose k).health ∧
    ((takePulse c h n s).hose k).nozzle = (s.hose k).nozzle ∧
    ((takePulse c h n s).hose k).meterInput = (s.hose k).meterInput := by
  unfold takePulse; split <;> simp [hk]

@[simp] theorem endIssue_others (c : ConfigBlock) (r : EndReason) (h k : Fin 4) (s : State) (hk : k ≠ h) :
    ((endIssue c h r s).hose k).ctl = (s.hose k).ctl ∧ ((endIssue c h r s).hose k).meter = (s.hose k).meter ∧
    ((endIssue c h r s).hose k).health = (s.hose k).health ∧
    ((endIssue c h r s).hose k).nozzle = (s.hose k).nozzle ∧
    ((endIssue c h r s).hose k).meterInput = (s.hose k).meterInput := by
  unfold endIssue; (repeat' split) <;> simp [hk]

@[simp] theorem barHose_others (c : ConfigBlock) (v : Nat) (h k : Fin 4) (s : State) (hk : k ≠ h) :
    ((barHose c v h s).hose k).ctl = (s.hose k).ctl ∧ ((barHose c v h s).hose k).meter = (s.hose k).meter ∧
    ((barHose c v h s).hose k).health = (s.hose k).health ∧
    ((barHose c v h s).hose k).nozzle = (s.hose k).nozzle ∧
    ((barHose c v h s).hose k).meterInput = (s.hose k).meterInput := by
  unfold barHose; (repeat' split) <;> simp [hk]

@[simp] theorem liftAt_others (c : ConfigBlock) (h k : Fin 4) (s : State) (hk : k ≠ h) :
    ((liftAt c h s).hose k).ctl = (s.hose k).ctl ∧ ((liftAt c h s).hose k).meter = (s.hose k).meter ∧
    ((liftAt c h s).hose k).health = (s.hose k).health ∧
    ((liftAt c h s).hose k).nozzle = (s.hose k).nozzle ∧
    ((liftAt c h s).hose k).meterInput = (s.hose k).meterInput := by
  unfold liftAt; split <;> simp [hk]

@[simp] theorem hangAt_others (c : ConfigBlock) (h k : Fin 4) (s : State) (hk : k ≠ h) :
    ((hangAt c h s).hose k).ctl = (s.hose k).ctl ∧ ((hangAt c h s).hose k).meter = (s.hose k).meter ∧
    ((hangAt c h s).hose k).health = (s.hose k).health ∧
    ((hangAt c h s).hose k).nozzle = (s.hose k).nozzle ∧
    ((hangAt c h s).hose k).meterInput = (s.hose k).meterInput := by
  unfold hangAt; (repeat' split) <;> simp [hk]

@[simp] theorem endByRestart_others (c : ConfigBlock) (x : IssueContext) (h k : Fin 4) (s : State) (hk : k ≠ h) :
    ((endByRestart c h x s).hose k).ctl = (s.hose k).ctl ∧ ((endByRestart c h x s).hose k).meter = (s.hose k).meter ∧
    ((endByRestart c h x s).hose k).health = (s.hose k).health ∧
    ((endByRestart c h x s).hose k).nozzle = (s.hose k).nozzle ∧
    ((endByRestart c h x s).hose k).meterInput = (s.hose k).meterInput := by
  simp [endByRestart, hk]

@[simp] theorem restartHose_others (c : ConfigBlock) (h k : Fin 4) (s : State) (hk : k ≠ h) :
    ((restartHose c h s).hose k).ctl = (s.hose k).ctl ∧ ((restartHose c h s).hose k).meter = (s.hose k).meter ∧
    ((restartHose c h s).hose k).health = (s.hose k).health ∧
    ((restartHose c h s).hose k).nozzle = (s.hose k).nozzle ∧
    ((restartHose c h s).hose k).meterInput = (s.hose k).meterInput := by
  unfold restartHose; (repeat' split) <;> simp [hk]

@[simp] theorem thawHose_others (h k : Fin 4) (s : State) (hk : k ≠ h) :
    ((thawHose h s).hose k).ctl = (s.hose k).ctl ∧ ((thawHose h s).hose k).meter = (s.hose k).meter ∧
    ((thawHose h s).hose k).health = (s.hose k).health ∧
    ((thawHose h s).hose k).nozzle = (s.hose k).nozzle ∧
    ((thawHose h s).hose k).meterInput = (s.hose k).meterInput := by
  unfold thawHose; split <;> simp [hk]

@[simp] theorem thaw_others (h k : Fin 4) (s : State) (hk : k ≠ h) :
    ((thaw h s).hose k).ctl = (s.hose k).ctl ∧ ((thaw h s).hose k).meter = (s.hose k).meter ∧
    ((thaw h s).hose k).health = (s.hose k).health ∧
    ((thaw h s).hose k).nozzle = (s.hose k).nozzle ∧
    ((thaw h s).hose k).meterInput = (s.hose k).meterInput := by
  simp [thaw, hk, reportHoseOut]

@[simp] theorem endPrimeWait_others (c : ConfigBlock) (x : IssueContext) (h k : Fin 4) (s : State) (hk : k ≠ h) :
    ((endPrimeWait c h x s).hose k).ctl = (s.hose k).ctl ∧ ((endPrimeWait c h x s).hose k).meter = (s.hose k).meter ∧
    ((endPrimeWait c h x s).hose k).health = (s.hose k).health ∧
    ((endPrimeWait c h x s).hose k).nozzle = (s.hose k).nozzle ∧
    ((endPrimeWait c h x s).hose k).meterInput = (s.hose k).meterInput := by
  exact enterFlowing_others c x h k _ hk

@[simp] theorem changeNozzle_others (c : ConfigBlock) (b : Bool) (h k : Fin 4) (s : State) (hk : k ≠ h) :
    ((changeNozzle c h b s).hose k).ctl = (s.hose k).ctl ∧ ((changeNozzle c h b s).hose k).meter = (s.hose k).meter ∧
    ((changeNozzle c h b s).hose k).health = (s.hose k).health ∧
    ((changeNozzle c h b s).hose k).nozzle = (s.hose k).nozzle ∧
    ((changeNozzle c h b s).hose k).meterInput = (s.hose k).meterInput := by
  simp only [changeNozzle]; split <;> simp [hk, parts_guardEval, setNozzle, hose_mapHose]

/-! ### The hose itself -/

/-- A cancellation: the hose rests with no context, its timer stopped and its valves off (R142). -/
theorem cancel_own (h : Fin 4) (s : State) :
    ((cancel h s).hose h).ctl = { (s.hose h).ctl with
      state := restingState (s.hose h).health.frozen, context := none, authTimer := none
      mainValve := false, slowValve := false } ∧
    ((cancel h s).hose h).meter = (s.hose h).meter ∧ ((cancel h s).hose h).health = (s.hose h).health ∧
    ((cancel h s).hose h).nozzle = (s.hose h).nozzle ∧
    ((cancel h s).hose h).meterInput = (s.hose h).meterInput := by
  simp only [cancel, ctl_enterState, parts_enterState]
  simp [mainValveOf, slowValveOf]
  cases (s.hose h).health.frozen <;> simp [restingState]

/-- A close: the hose is in CLOSING with its end reason, the overrun window running, every other timer of the
issue stopped and the valves off (R139, R113). -/
theorem close_own (c : ConfigBlock) (h : Fin 4) (r : EndReason) (s : State) :
    ((close c h r s).hose h).ctl = { (s.hose h).ctl with
      state := .closing
      context := (s.hose h).ctl.context.map fun x => { x with endReason := some r }
      primeTimer := none, startTimer := none, noFlowTimer := none
      overrunTimer := some (c.overrunWindow * second), mainValve := false, slowValve := false } ∧
    ((close c h r s).hose h).meter = (s.hose h).meter.enterClosing ∧
    ((close c h r s).hose h).health = (s.hose h).health ∧
    ((close c h r s).hose h).nozzle = (s.hose h).nozzle ∧
    ((close c h r s).hose h).meterInput = (s.hose h).meterInput := by
  simp only [close, ctl_enterState, parts_enterState]
  simp [mainValveOf, slowValveOf]

/-- Marking an issue sets the health event flag of its context alone. -/
theorem markIssue_own (h : Fin 4) (s : State) :
    ((markIssue h s).hose h).ctl = { (s.hose h).ctl with
      context := (s.hose h).ctl.context.map fun x => { x with healthEvent := true } } ∧
    ((markIssue h s).hose h).meter = (s.hose h).meter ∧
    ((markIssue h s).hose h).health = (s.hose h).health ∧
    ((markIssue h s).hose h).nozzle = (s.hose h).nozzle ∧
    ((markIssue h s).hose h).meterInput = (s.hose h).meterInput := by
  simp [markIssue]

/-- What the freeze makes of a hose's controller (R145). -/
theorem freezeAction_own (c : ConfigBlock) (h : Fin 4) (s : State) :
    ((freezeAction c h s).hose h).health = (s.hose h).health ∧
    ((freezeAction c h s).hose h).nozzle = (s.hose h).nozzle ∧
    ((freezeAction c h s).hose h).meterInput = (s.hose h).meterInput ∧
    ((s.hose h).ctl.state = .closing ∨ (s.hose h).ctl.state = .ended ∨
        (s.hose h).ctl.state = .outOfService → freezeAction c h s = s) ∧
    ((s.hose h).ctl.state.issuing = true → freezeAction c h s = close c h .fault (markIssue h s)) ∧
    ((s.hose h).ctl.state = .authorized → freezeAction c h s = cancel h s) ∧
    ((s.hose h).ctl.state = .idle → freezeAction c h s = enterState h .outOfService s) := by
  unfold freezeAction
  split <;> simp_all [cancel_own, close_own, markIssue_own, parts_enterState, HoseState.issuing]

/-- A health event at a hose: the count one higher, frozen from the threshold on; without a freeze nothing
else moves (R150, R151). -/
theorem healthEvent_own (c : ConfigBlock) (h : Fin 4) (s : State) :
    ((s.hose h).health.frozen = true → healthEvent c h s = s) ∧
    ((s.hose h).health.frozen = false → ((healthEvent c h s).hose h).health = { (s.hose h).health with
      count := min 15 ((s.hose h).health.count + 1)
      frozen := decide (c.healthThreshold ≤ min 15 ((s.hose h).health.count + 1)) }) ∧
    ((healthEvent c h s).hose h).nozzle = (s.hose h).nozzle ∧
    ((healthEvent c h s).hose h).meterInput = (s.hose h).meterInput ∧
    ((s.hose h).ctl.state = .closing ∨ (s.hose h).ctl.state = .ended ∨
        (s.hose h).ctl.state = .outOfService →
      ((healthEvent c h s).hose h).ctl = (s.hose h).ctl ∧
      ((healthEvent c h s).hose h).meter = (s.hose h).meter ∧
      (healthEvent c h s).records = s.records) := by
  unfold healthEvent
  by_cases hf : (s.hose h).health.frozen = true
  · simp [hf]
  · simp only [Bool.not_eq_true] at hf
    simp only [hf, satAdd]
    by_cases ht : c.healthThreshold ≤ min 15 ((s.hose h).health.count + 1)
    · simp only [ht, if_true, freeze]
      refine ⟨by simp, fun _ => ?_, ?_, ?_, fun hc => ?_⟩
      · simp [freezeAction_own]
      · simp [freezeAction_own]
      · simp [freezeAction_own]
      · rw [(freezeAction_own c h _).2.2.2.1 (by simpa using hc)]; simp
    · simp [ht, hf]

/-- A health event moves a count that stays below the threshold, and nothing else of the hose. -/
theorem healthEvent_below (c : ConfigBlock) (h : Fin 4) (s : State)
    (ht : min 15 ((s.hose h).health.count + 1) < c.healthThreshold) :
    ((healthEvent c h s).hose h).ctl = (s.hose h).ctl ∧
    ((healthEvent c h s).hose h).meter = (s.hose h).meter := by
  unfold healthEvent
  split
  · simp
  · simp only [satAdd, Nat.not_le.mpr ht, if_false]; simp

/-- A thaw: the count and the flag cleared, a fitted hose out of service back in IDLE (R155). -/
theorem thaw_own (h : Fin 4) (s : State) :
    ((thaw h s).hose h).health = { count := 0, frozen := false, accumulator := 0 } ∧
    ((thaw h s).hose h).ctl.state = (if (s.hose h).ctl.state = .outOfService ∧ s.fitted h = true then .idle
        else (s.hose h).ctl.state) ∧
    ((thaw h s).hose h).ctl.context = (s.hose h).ctl.context ∧
    ((thaw h s).hose h).meter = (s.hose h).meter := by
  have e : (reportHoseOut (s.mapHealth h fun _ => ⟨0, false, 0⟩)).fitted h = s.fitted h := by
    simp [State.fitted]
  simp only [thaw, thawHose, e, hose_reportHoseOut, hose_mapHealth, if_true]
  split
  · simp [ctl_enterState, parts_enterState]
  · simp

/-- Entry to SLOWING (R113, R137). -/
theorem enterSlowing_own (c : ConfigBlock) (h : Fin 4) (s : State) :
    ((enterSlowing c h s).hose h).ctl = { (s.hose h).ctl with
      state := .slowing, mainValve := false, slowValve := !s.field.stop.active } ∧
    ((enterSlowing c h s).hose h).meter = (s.hose h).meter.enterSlowing (c.settleTime * second) ∧
    ((enterSlowing c h s).hose h).health = (s.hose h).health ∧
    ((enterSlowing c h s).hose h).nozzle = (s.hose h).nozzle ∧
    ((enterSlowing c h s).hose h).meterInput = (s.hose h).meterInput := by
  simp [enterSlowing, ctl_enterState, parts_enterState, mainValveOf, slowValveOf]

/-- Entry to FLOWING, or on into SLOWING when the slow point is 0 (R135). -/
theorem enterFlowing_own (c : ConfigBlock) (h : Fin 4) (x : IssueContext) (s : State) :
    ((enterFlowing c h x s).hose h).ctl = { (s.hose h).ctl with
      state := if x.slowPoint = 0 then .slowing else .flowing
      primeTimer := none, startTimer := some (c.startTime * second)
      mainValve := decide (x.slowPoint ≠ 0) && !s.field.stop.active
      slowValve := !s.field.stop.active } ∧
    ((enterFlowing c h x s).hose h).meter = (if x.slowPoint = 0 then
      (s.hose h).meter.enterFlowing.enterSlowing (c.settleTime * second)
      else (s.hose h).meter.enterFlowing) ∧
    ((enterFlowing c h x s).hose h).health = (s.hose h).health ∧
    ((enterFlowing c h x s).hose h).nozzle = (s.hose h).nozzle ∧
    ((enterFlowing c h x s).hose h).meterInput = (s.hose h).meterInput := by
  simp only [enterFlowing]
  by_cases h0 : x.slowPoint = 0 <;>
    simp [h0, enterSlowing_own, ctl_enterState, parts_enterState, mainValveOf, slowValveOf]

/-- Entry to a state with pump demand turns the pump on; the time since it turned on starts afresh when it
was off (R109). -/
theorem pump_enterState (h : Fin 4) (st : HoseState) (s : State) (hp : st.pumpDemand = true) :
    (enterState h st s).field.pumpRun = true ∧
    (enterState h st s).field.sincePumpOn = if s.field.pumpRun = true then s.field.sincePumpOn else 0 := by
  have hd : (driveValves h (s.mapCtl h fun x => { x with state := st })).pumpDemand = true := by
    simp only [State.pumpDemand, anyTable_hoses]
    exact ⟨h, by simp [driveValves, hp]⟩
  simp only [enterState, field_guardEval, drivePump, hd, if_true]
  split <;> simp_all

/-- Entry to STARTING: a new issue, the pump on; with the pump's run of the prime time behind it the hose is
in FLOWING or SLOWING at once, and otherwise waits for the rest of it (R133, R134). -/
theorem enterStarting_own (c : ConfigBlock) (h : Fin 4) (x : IssueContext) (s : State) (run : Nat)
    (hr : run = if s.field.pumpRun = true then s.field.sincePumpOn else 0) :
    ((enterStarting c h x s).hose h).ctl = (if c.primeTime * second ≤ run then { (s.hose h).ctl with
        state := if x.slowPoint = 0 then .slowing else .flowing
        authTimer := none, primeTimer := none, startTimer := some (c.startTime * second)
        mainValve := decide (x.slowPoint ≠ 0) && !s.field.stop.active
        slowValve := !s.field.stop.active }
      else { (s.hose h).ctl with
        state := .starting, authTimer := none, primeTimer := some (c.primeTime * second - run)
        mainValve := false, slowValve := false }) ∧
    ((enterStarting c h x s).hose h).meter = (if c.primeTime * second ≤ run then
        if x.slowPoint = 0 then (s.hose h).meter.startIssue.enterFlowing.enterSlowing (c.settleTime * second)
        else (s.hose h).meter.startIssue.enterFlowing
      else (s.hose h).meter.startIssue) ∧
    ((enterStarting c h x s).hose h).health = (s.hose h).health ∧
    ((enterStarting c h x s).hose h).nozzle = (s.hose h).nozzle ∧
    ((enterStarting c h x s).hose h).meterInput = (s.hose h).meterInput ∧
    (enterStarting c h x s).field.pumpRun = true := by
  have hf := pump_enterState h .starting
    ((s.mapMeter h Meter.startIssue).mapCtl h fun k => { k with authTimer := none }) rfl
  have e : (enterState h .starting ((s.mapMeter h Meter.startIssue).mapCtl h fun k =>
      { k with authTimer := none })).field.sincePumpOn = run := by rw [hf.2, hr]; simp
  simp only [enterStarting, e]
  by_cases hp : c.primeTime * second ≤ run
  · simp only [hp, if_true]
    refine ⟨?_, ?_, ?_, ?_, ?_, ?_⟩
    · simp [enterFlowing_own, ctl_enterState]
    · simp [enterFlowing_own, parts_enterState]
    · simp [enterFlowing_own, parts_enterState]
    · simp [enterFlowing_own, parts_enterState]
    · simp [enterFlowing_own, parts_enterState]
    · simp only [enterFlowing]
      split
      · rw [enterSlowing]; exact (pump_enterState h .slowing _ rfl).1
      · exact (pump_enterState h .flowing _ rfl).1
  · simp only [hp, if_false]
    refine ⟨?_, ?_, ?_, ?_, ?_, ?_⟩
    · simp [ctl_enterState, mainValveOf, slowValveOf]
    · simp [parts_enterState]
    · simp [parts_enterState]
    · simp [parts_enterState]
    · simp [parts_enterState]
    · simpa using hf.1

end Sys2Proof.Machine
end

