-- ==== Sys2Proof/Laws/Requests.lean ====
section
/-! SUPPORT. Sys2Proof/Laws/Requests.lean: how a command finds its hose, station, group or source; what it is to
answer a request; the operand tests of the requests; the entries of the view after a write; the terms of
Sys2Proof/Safety.lean in the model's operations; and what the send decision does. -/

namespace Sys2Proof.Machine

open Sys2Proof

/-! ### Numbers and tables -/

@[simp] theorem indexOf_succ {n : Nat} (i : Fin n) : indexOf n (i.val + 1) = some i := by simp [indexOf]

theorem indexOf_none {n k : Nat} (h : k = 0 ∨ n < k) : indexOf n k = none := by
  simp only [indexOf, dite_eq_right_iff, reduceCtorEq, imp_false]; omega

@[simp] theorem indexFrom0_val {n : Nat} (i : Fin n) : indexFrom0 n i.val = some i := by simp [indexFrom0]

theorem indexFrom0_none {n k : Nat} (h : n ≤ k) : indexFrom0 n k = none := by
  simp only [indexFrom0, dite_eq_right_iff, reduceCtorEq, imp_false]; omega

theorem fitted_eq {s : State} {c : ConfigBlock} (hb : s.store.block = some c) (h : Fin 4) :
    s.fitted h = c.fitted[h] := by simp [State.fitted, hb]

/-- A field event at a fitted hose finds the configuration in force and the hose. -/
theorem fieldHose_fitted {s : State} {c : ConfigBlock} {h : Fin 4} (hb : s.store.block = some c)
    (hf : c.fitted[h] = true) : s.fieldHose (h.val + 1) = some (c, h) := by
  simp only [State.fieldHose, hb, indexOf_succ, hf, if_true]

theorem running_true {s : State} (h : s.net.state ≠ .standby) : s.running = true := by
  simpa [State.running] using h

theorem running_false {s : State} (h : s.net.state = .standby) : s.running = false := by
  simp [State.running, h]

theorem badVehicle_true {v : Nat} (h : v = 0 ∨ 4095 < v) : badVehicle v = true := by
  simp only [badVehicle, Bool.or_eq_true, beq_iff_eq, decide_eq_true_eq]; exact h

theorem badVehicle_false {v : Nat} (h1 : 1 ≤ v) (h2 : v ≤ 4095) : badVehicle v = false := by
  have h3 : v ≠ 0 := by omega
  have h4 : ¬ vehicleTop < v := Nat.not_lt.mpr h2
  simp [badVehicle, h3, h4]

theorem badReadings_false {hours flag total : Nat} (h1 : hours ≤ 9999999) (h2 : flag ≤ 1)
    (h3 : flag = 1 → total ≤ 99999999) : badReadings hours flag total = false := by
  simp only [badReadings, Bool.or_eq_false_iff, Bool.and_eq_false_iff, decide_eq_false_iff_not, Nat.not_lt,
    beq_eq_false_iff_ne]
  exact ⟨⟨h1, h2⟩, by by_cases h : flag = 1 <;> simp [h, h3]⟩

theorem badReadings_true {hours flag total : Nat}
    (h : 9999999 < hours ∨ 1 < flag ∨ flag = 1 ∧ 99999999 < total) : badReadings hours flag total = true := by
  simp only [badReadings, Bool.or_eq_true, Bool.and_eq_true, decide_eq_true_eq, beq_iff_eq]; tauto

/-! ### Answering a request -/

/-- A request with fewer than four responses held is answered: its effect, with its response made (R166). -/
theorem serve_answered {kind : Nat} {s t : State} {request : State → Reply} {r : Result} {payload : List Byte}
    (h : s.canAnswer) (e : request s = (t, r, payload)) : serve kind s request = t.respond kind r payload := by
  rw [serve_taken _ _ _ (show s.link.responses.length < responseRoom from h), e]; rfl

/-- A response made changes nothing but the responses held. -/
@[simp] theorem respond_frame (s : State) (kind : Nat) (r : Result) (payload : List Byte) :
    (s.respond kind r payload).pending = s.pending ∧ (s.respond kind r payload).store = s.store ∧
    (s.respond kind r payload).view = s.view ∧ (s.respond kind r payload).watch = s.watch ∧
    (s.respond kind r payload).clock = s.clock ∧ (s.respond kind r payload).net = s.net ∧
    (s.respond kind r payload).radio = s.radio ∧ (s.respond kind r payload).field = s.field ∧
    (s.respond kind r payload).hoses = s.hoses ∧ (s.respond kind r payload).records = s.records ∧
    (s.respond kind r payload).notices = s.notices ∧ (s.respond kind r payload).model = s.model ∧
    (s.respond kind r payload).link.responses = s.link.responses ++ [⟨kind, r, payload⟩] :=
  ⟨rfl, rfl, rfl, rfl, rfl, rfl, rfl, rfl, rfl, rfl, rfl, rfl, rfl⟩

@[simp] theorem hose_respond (s : State) (kind : Nat) (r : Result) (payload : List Byte) (h : Fin 4) :
    (s.respond kind r payload).hose h = s.hose h := rfl

@[simp] theorem entry_respond (s : State) (kind : Nat) (r : Result) (payload : List Byte) (v : Nat) :
    (s.respond kind r payload).entry v = s.entry v := rfl

/-! ### Hoses that stand as before -/

theorem Hose.same_of {x y : Hose} (h : x.ctl = y.ctl ∧ x.meter = y.meter ∧ x.health = y.health ∧
    x.nozzle = y.nozzle ∧ x.meterInput = y.meterInput) : x.same y := h

/-! ### Entries of the view -/

/-- An entry read after an entry is put: the one put under its own number, as before under any other. -/
theorem findEntry_putEntry (e : VehicleEntry) (l : List VehicleEntry) (v : Nat) :
    findEntry (putEntry e l) v = if v = e.number then some e else findEntry l v := by
  induction l with
  | nil =>
    by_cases h : v = e.number
    · simp [putEntry, findEntry, h]
    · simp [putEntry, findEntry, h, Ne.symm h]
  | cons x xs ih =>
    simp only [findEntry] at ih
    simp only [putEntry, findEntry]
    split
    · by_cases h : v = e.number
      · simp [h]
      · simp [h, Ne.symm h]
    · split
      · next he =>
        by_cases h : v = e.number
        · simp [h]
        · have : x.number ≠ v := fun hx => h (by omega)
          simp [h, Ne.symm h, this]
      · next h1 h2 =>
        by_cases hx : x.number = v
        · have : v ≠ e.number := by omega
          simp [hx, this]
        · simp [hx, ih]

theorem number_withUsage (c : ConfigBlock) (e : VehicleEntry) : (withUsage c e).number = e.number := rfl

/-- The entries after an entry is stored: the stored one with its usage recomputed, the others as before. -/
theorem entry_storeEntry (c : ConfigBlock) (e : VehicleEntry) (s : State) (v : Nat) :
    (storeEntry c e s).entry v = if v = e.number then some (withUsage c e) else s.entry v := by
  have := findEntry_putEntry (withUsage c e) s.view.entries v
  simp only [storeEntry]
  split <;> simp only [updateWatch_frame, State.entry, State.putEntry] <;> exact this

theorem entry_changeEntry (c : ConfigBlock) (e : VehicleEntry) (s : State) (v : Nat) :
    (changeEntry c e s).entry v = if v = e.number then some (withUsage c e) else s.entry v := by
  simpa [changeEntry, State.entry] using entry_storeEntry c e s v

theorem queued_queueChanged (v w : Nat) (q : List QueueItem) :
    queued (queueChanged v q) w = (queued q w || w == v) := by
  unfold queueChanged
  split
  · next h =>
    have e : queued (q.map fun x => if x.vehicle = v then { x with cover := 0 } else x) w = queued q w := by
      simp only [queued, List.any_map]
      congr 1; funext x; simp only [Function.comp]; split <;> rfl
    rw [e]
    by_cases hw : w = v
    · subst hw; simp [h]
    · simp [hw]
  · by_cases hw : w = v
    · simp [queued, List.any_append, hw]
    · have e1 : (v == w) = false := beq_false_of_ne fun e => hw e.symm
      have e2 : (w == v) = false := beq_false_of_ne hw
      simp [queued, List.any_append, e1, e2]

/-- A changed vehicle is queued to be sent (R20). -/
theorem queued_changeEntry (c : ConfigBlock) (e : VehicleEntry) (s : State) :
    queued (changeEntry c e s).radio.queue e.number = true := by
  simp [changeEntry, vehicleChanged, queued_queueChanged]

/-! ### The terms of the statements and the model's operations -/

theorem queueChanged_eq_queueWith (v : Nat) (q : List QueueItem) : queueChanged v q = queueWith v q := by
  unfold queueChanged queueWith
  have h : queued q v = true ↔ ∃ x ∈ q, x.vehicle = v := by simp [queued]
  simp only [h]
  congr 1
  refine List.map_congr_left fun x _ => ?_
  split <;> simp_all

theorem queueCovered_eq_queueHeard (threshold v : Nat) (q : List QueueItem) :
    queueCovered threshold v q = queueHeard threshold v q := by
  unfold queueCovered queueHeard
  induction q with
  | nil => rfl
  | cons x q ih =>
    by_cases hx : x.vehicle = v
    · by_cases ht : threshold ≤ x.cover + 1 <;> simp_all
    · simp_all

theorem elapsedTime_eq_elapsedSeconds (shiftLength : Nat) (now stamp : ClockPos) :
    elapsedTime shiftLength now stamp = elapsedSeconds shiftLength now stamp := by
  unfold elapsedTime elapsedSeconds; omega

theorem hoursTop_eq (c : ConfigBlock) (now : ClockPos) (r : Reading) :
    hoursTop c now r = r.value + allowedHourRise c now r.stamp := by
  simp only [hoursTop, allowedHourRise, ceilDiv, elapsedTime_eq_elapsedSeconds]; omega

theorem totaliserTop_eq (c : ConfigBlock) (cls : Fin 8) (now : ClockPos) (r : Reading) :
    totaliserTop c cls now r = r.value + allowedFuelRise c cls now r.stamp := by
  simp only [totaliserTop, allowedFuelRise, ceilDiv, elapsedTime_eq_elapsedSeconds]; omega

theorem registerCovered_iff (l r : Option Reading) :
    registerCovered l r = true ↔ ∀ x, l = some x → ∃ y, r = some y ∧ x.value ≤ y.value := by
  cases l <;> cases r <;> simp [registerCovered]

theorem pairBelow_eq_false (a b c d : Nat) : pairBelow a b c d = false ↔ c < a ∨ c = a ∧ d ≤ b := by
  simp only [pairBelow, Bool.or_eq_false_iff, Bool.and_eq_false_iff, decide_eq_false_iff_not, beq_eq_false_iff_ne]
  omega

/-- The cover test is the one of R18. -/
theorem covers_iff_tallyCovers (shift : Nat) (f : TallyFrame) (e : VehicleEntry) :
    covers shift f e = true ↔ TallyCovers shift f e := by
  have all4 : ∀ p : Fin 4 → Prop, (∀ i, p i) ↔ p 0 ∧ p 1 ∧ p 2 ∧ p 3 := fun p => by
    refine ⟨fun h => ⟨h _, h _, h _, h _⟩, fun h i => ?_⟩
    fin_cases i <;> simp_all
  simp only [covers, TallyCovers, Bool.and_eq_true, Bool.not_eq_true', registerCovered_iff, pairBelow_eq_false,
    List.all_cons, List.all_nil, and_true, Bool.or_eq_true, beq_iff_eq, List.isEmpty_iff, List.all_eq_true,
    originCovered, List.any_eq_true, keyIs, decide_eq_true_eq, all4, and_assoc]

/-! ### The send decision -/

/-- The refresh vehicle is the next of the rotation (R97). -/
theorem refreshEntry_next (pointer : Nat) (entries : List VehicleEntry) (hne : entries ≠ [])
    (hs : entries.Pairwise (fun a b => a.number < b.number)) :
    ∃ e, refreshEntry pointer entries = some e ∧ NextInRotation pointer entries e := by
  unfold refreshEntry
  cases hf : entries.find? (fun e => pointer < e.number) with
  | some e =>
    refine ⟨e, by simp, List.mem_of_find?_eq_some hf, .inl ⟨by simpa using List.find?_some hf, ?_⟩⟩
    intro x hx hp
    obtain ⟨_, as, bs, rfl, has⟩ := List.find?_eq_some_iff_append.mp hf
    rw [List.pairwise_append] at hs
    rcases List.mem_append.mp hx with h | h
    · have := has x h; simp at this; omega
    · rcases List.mem_cons.mp h with rfl | h
      · exact Nat.le_refl _
      · exact Nat.le_of_lt ((List.pairwise_cons.mp hs.2.1).1 x h)
  | none =>
    obtain ⟨e, rest, rfl⟩ := List.exists_cons_of_ne_nil hne
    refine ⟨e, by simp, List.mem_cons_self, .inr ⟨fun x hx => ?_, fun x hx => ?_⟩⟩
    · simpa using List.find?_eq_none.mp hf x hx
    · rcases List.mem_cons.mp hx with rfl | h
      · exact Nat.le_refl _
      · exact Nat.le_of_lt ((List.pairwise_cons.mp hs).1 x h)

/-- What the send decision does when a frame can be sent (R85, R86, R97). -/
theorem opportunity_sent (c : ConfigBlock) (s : State) (hc : CanSend s)
    (hs : s.view.entries.Pairwise (fun a b => a.number < b.number)) : SentAtOpportunity c s (opportunity c s) := by
  unfold opportunity
  split
  · next h => exact .inl ⟨h, rfl⟩
  · next h =>
    rcases hc with hb | ⟨ht, hc⟩
    · exact absurd hb h
    · refine .inr ⟨by simpa using h, ht, ?_⟩
      rw [if_pos ht]
      unfold sendTally
      rcases hc with ⟨q, rest, e, hq, he⟩ | ⟨hq, hne⟩
      · refine .inl ⟨q, rest, e, hq, he, ?_⟩
        simp only [hq, he]; rfl
      · obtain ⟨e, he, hn⟩ := refreshEntry_next s.radio.refresh s.view.entries hne hs
        refine .inr ⟨e, hq, hn, ?_⟩
        simp only [hq, he]; rfl

end Sys2Proof.Machine
end

