-- ==== Sys2Proof/Laws/Guard.lean ====
section
/-! SUPPORT. Sys2Proof/Laws/Guard.lean: what an evaluation of the nozzle guard leaves, and what an update of the
watch list does to its notice. -/

namespace Sys2Proof.Machine

/-! ### The nozzle guard (R104 to R106) -/

/-- A hose does not offend exactly when it is not fitted, its nozzle is hung, or its state allows a lifted one. -/
theorem offends_eq_false (s : State) (h : Fin 4) : s.offends h = false ↔
    (s.fitted h = true → (s.hose h).nozzle.active = true →
      (s.hose h).ctl.state ≠ .idle ∧ (s.hose h).ctl.state ≠ .outOfService) := by
  unfold State.offends
  cases s.fitted h <;> cases (s.hose h).nozzle.active <;> cases (s.hose h).ctl.state <;>
    simp [HoseState.expectsHung]

/-- The guard is sound exactly when, in a running station, it is matched while no hose offends. -/
theorem guardSound_iff (s : State) :
    GuardSound s ↔ (s.running = true → (s.field.matched = true ↔ ∀ h, s.offends h = false)) := by
  simp only [GuardSound, offends_eq_false]

/-- Soundness rests on the net state, the match state, the configuration, the nozzles and the hose states alone. -/
theorem guardSound_congr {s t : State} (hn : t.net.state = s.net.state) (hf : t.field.matched = s.field.matched)
    (hs : t.store.block = s.store.block)
    (hh : ∀ h, (t.hose h).nozzle.active = (s.hose h).nozzle.active ∧ (t.hose h).ctl.state = (s.hose h).ctl.state) :
    GuardSound t ↔ GuardSound s := by
  simp only [GuardSound, State.running, State.fitted, hn, hf, hs, hh]

/-- The match state after an evaluation in a running station, from whatever it was before. -/
theorem matched_guardEval (s : State) (hr : s.running = true) :
    (guardEval s).field.matched = !hoseIndices.any s.offends := by
  simp only [guardEval, hr]
  simp only [Bool.not_true, Bool.false_eq_true, if_false]
  split
  · simp [eachHose]
  · rfl

/-- An evaluation leaves the guard sound (R105, R106). -/
theorem guardSound_guardEval (s : State) : GuardSound (guardEval s) := by
  rw [guardSound_iff]
  intro hr
  have hr' : s.running = true := by simpa [State.running] using hr
  rw [matched_guardEval s hr']
  have ho : ∀ h, (guardEval s).offends h = s.offends h := by
    intro h
    simp [State.offends, State.fitted, parts_guardEval]
  simp [ho, hoseIndices, Fin.forall_fin_succ]

/-- So does every entry to a hose state. -/
theorem guardSound_enterState (h : Fin 4) (st : HoseState) (s : State) : GuardSound (enterState h st s) :=
  guardSound_guardEval _

/-! ### WATCH_CHANGED (R42) -/

/-- An update of the watch list raises WATCH_CHANGED when the sequence of vehicle numbers changes, and leaves the
entry otherwise. -/
theorem watchChanged_updateWatch (c : ConfigBlock) (e : VehicleEntry) (s : State) :
    (updateWatch c e s).notices.entries[4] =
      if (updateWatch c e s).watch.members.map (·.vehicle) = s.watch.members.map (·.vehicle) then
        s.notices.entries[4]
      else (raise .watchChanged s).notices.entries[4] := by
  simp only [updateWatch]
  split
  · next h =>
    have h' := bne_iff_ne.mp h
    simp [entries_report, entries_raise, NoticeSource.index, h']
  · next h =>
    have h' := Classical.not_not.mp (mt bne_iff_ne.mpr h)
    simp [entries_report, NoticeSource.index, h']

end Sys2Proof.Machine
end

