-- ==== Sys2Proof/Laws/Time.lean ====
section
/-! SUPPORT. Sys2Proof/Laws/Time.lean: what a step does at rest, once for each block, and which events have come
about. -/

namespace Sys2Proof.Machine

/-! ### A step at rest -/

/-- At rest a step is a tick. -/
theorem step_atRest {s : State} (h : AtRest s) : step s = .next (tick s) := by
  obtain ⟨hp, hc⟩ := h
  simp [step, nextEvent, hp, hc]

/-- The receiver's bit moves the radio's line and receiver and the arrivals alone. -/
theorem radioBit_frame (s : State) :
    radioBit s = { s with radio := { s.radio with rxd := (radioBit s).radio.rxd, receiver := (radioBit s).radio.receiver }
                          model := { s.model with arrived := (radioBit s).model.arrived } } := by
  unfold radioBit
  split
  · split <;> rfl
  · rfl
  · rfl

/-- The link's byte moves the link's line, receiver and wait and the arrivals alone. -/
theorem linkByte_frame (s : State) :
    linkByte s = { s with link := { s.link with
                            line := (linkByte s).link.line
                            receiver := (linkByte s).link.receiver
                            waited := (linkByte s).link.waited }
                          model := { s.model with arrived := (linkByte s).model.arrived } } := by
  unfold linkByte
  split
  · rfl
  · split <;> rfl

@[simp] theorem tick_pending (s : State) : (tick s).pending = s.pending := by
  simp only [tick]; rw [linkByte_frame]; split
  · rw [radioBit_frame]
  · rfl

@[simp] theorem tick_clock (s : State) : (tick s).clock = s.clock.tick := by
  simp only [tick]; rw [linkByte_frame]; split
  · rw [radioBit_frame]
  · rfl

@[simp] theorem tick_net (s : State) : (tick s).net =
    { s.net with listen := countDown s.net.listen, peers := mapTable Peer.tick s.net.peers } := by
  simp only [tick]; rw [linkByte_frame]; split
  · rw [radioBit_frame]
  · rfl

@[simp] theorem tick_field (s : State) :
    (tick s).field = s.field.tick s.store.block (s.field.samplePhase == 0) := by
  simp only [tick]; rw [linkByte_frame]; split
  · rw [radioBit_frame]
  · rfl

@[simp] theorem tick_hose (s : State) (h : Fin 4) :
    (tick s).hose h = (s.hose h).tick s.store.block h (s.field.samplePhase == 0) := by
  have : (tick s).hoses = Vector.ofFn fun h => s.hoses[h].tick s.store.block h (s.field.samplePhase == 0) := by
    simp only [tick]; rw [linkByte_frame]; split
    · rw [radioBit_frame]
    · rfl
  simp [State.hose, this]

/-- A tick moves the timers of the radio, and at the bit clock its line and receiver. -/
theorem tick_radio (s : State) : (tick s).radio = { s.radio.tick with
    rxd := (tick s).radio.rxd, receiver := (tick s).radio.receiver } := by
  simp only [tick]; rw [linkByte_frame]; split
  · rw [radioBit_frame]
  · rfl

@[simp] theorem tick_store (s : State) : (tick s).store = s.store := by
  simp only [tick]; rw [linkByte_frame]; split
  · rw [radioBit_frame]
  · rfl

/-- The response under way is what a tick moves of the link beside the line, the receiver and the wait. -/
theorem tick_link (s : State) : (tick s).link = { s.link.tickSending with
    line := (tick s).link.line, receiver := (tick s).link.receiver, waited := (tick s).link.waited } := by
  simp only [tick]; rw [linkByte_frame]; split
  · rw [radioBit_frame]
  · rfl

/-! ### Events that have come about -/

/-- An event has come about when it is one of the part's own that are due. -/
theorem comesAbout_iff (c : Instr) (s : State) : ComesAbout c s ↔ c ∈ ownDue s := mem_candidates_self c s

/-- A timer has run out exactly at 0. -/
theorem runOut_iff (t : Option Nat) : runOut t = true ↔ t = some 0 := by simp [runOut]

/-- A command stands in a conditional event exactly when it is that event and its condition holds. -/
@[simp] theorem mem_dueWhen (b : Bool) (c d : Instr) : d ∈ dueWhen b c ↔ b = true ∧ d = c := by
  cases b <;> simp [dueWhen]

end Sys2Proof.Machine
end

