-- ==== Sys2Proof/Tests/Slice0.lean ====
section
/-! SUPPORT. Sys2Proof/Tests/Slice0.lean: the model's own tests: an ill-formed term for each check of
WellFormed, words and numbers the spec works out, one step at a time, and for each statement a state and
operands that meet its hypotheses. -/

namespace Sys2Proof.Machine.Tests

open Sys2Proof Sys2Proof.Machine

/-! ### States to test on -/

/-- A class with a range and a daily allowance; types A, B and C are due by hours, A and B by fuel. -/
def truckClass (low high allowance : Nat) : ClassConfig :=
  { low := low, high := high, allowance := allowance, tank := 4500, maxBurn := 320
    hoursInterval := #v[250, 500, 1000, 0], fuelInterval := #v[30000, 60000, 0, 0] }

/-- A configuration in the ranges of Table 11-5: station 5, hoses 1 to 3 fitted, 12-hour shifts. -/
def cfg : ConfigBlock :=
  { station := 5, fitted := #v[true, true, true, false]
    nozzleHigh := Vector.replicate 4 true, meterHigh := Vector.replicate 4 true, stopHigh := true
    nozzleFilter := 30, stopFilter := 5, meterFilter := 3
    pulseStep := #v[1024, 2681, 1024, 1024], edgeMode := Vector.replicate 4 .rising
    maxFlow := #v[600, 900, 600, 600], slowFlow := #v[100, 120, 100, 100]
    settleTime := 3, slowdown := 20, overrunWindow := 2, overrunAllowance := 30
    authTime := 90, startTime := 15, noFlowTime := 30, primeTime := 3, healthThreshold := 6
    dripVolume := 5000, warn := 900, grace := 1100, holdCap := 300, hourTolerance := 10
    fuelTolerance := 50, minimumIssue := 10, netCap := 400, shiftLength := 43200
    beaconInterval := 10, baseGap := 250, refreshGap := 3, keyUpDelay := 8
    listenInTime := 90, rejoinTime := 20, suppression := 2
    classes := #v[truckClass 0 0 0, truckClass 1 99 100, truckClass 100 1300 3000, truckClass 1301 1400 1200,
      truckClass 0 0 0, truckClass 0 0 0, truckClass 0 0 0, truckClass 1401 4000 3000] }

/-- Right after power-on, the start tag being 7. -/
def fresh : State :=
  State.powerOn [] 7 (Vector.replicate 4 false) (Vector.replicate 4 false) false false [] []
    { draws := 1, orders := 0, arrived := [] }

/-- In STANDBY with the configuration in force: the fitted hoses are IDLE. -/
def standing : State :=
  { fresh with
    store := { fresh.store with block := some cfg }
    hoses := Vector.ofFn fun h => { fresh.hose h with ctl := { HoseControl.powerOn with
      state := if cfg.fitted[h] then .idle else .outOfService } } }

/-- A peer heard at once. -/
def heardPeer : Peer := { Peer.cleared with state := .present, interval := 10, missTimer := some 900000, since := some 0 }

/-- A peer at a bucket. -/
def peerAt (st : PeerState) (bucket : Nat) : Peer := { heardPeer with state := st, bucket := bucket }

/-- Running in a net state, with the clock at (812, 20000) and station 9 as given. -/
def runningIn (st : NetState) (p : Peer) : State :=
  { standing with
    net := { state := st, listen := if st = .listenIn then some 100 else none
             peers := standing.net.peers.set 8 p, clash := 0 }
    clock := { standing.clock with set := true, pos := ⟨812, 20000⟩
                                   active := mapTable (·.allowance) cfg.classes }
    radio := { standing.radio with schedule := some 5, gapClock := some 0 } }

/-- Running in JOINED with station 9 present. -/
def joined : State := runningIn .joined heardPeer

/-- An issue of vehicle 877 with a limit of 3,000 L. -/
def issue : IssueContext :=
  { vehicle := 877, cls := 2, limit := 300000, bound := .allowance, slowPoint := 298000, hours := 1000
    totaliser := none, hoursFlag := false, totaliserFlag := false, serviceState := .current
    netState := .joined, authorised := ⟨812, 20000⟩, healthEvent := false, endReason := none
    delivered := 0, overrun := 0 }

/-- The controller of an issue in a state, every timer running. -/
def issuing (st : HoseState) (x : IssueContext) : HoseControl :=
  { state := st, context := some x, authTimer := some 1, primeTimer := some 1, startTimer := some 1
    noFlowTimer := some 1, overrunTimer := some 1, mainValve := st == .flowing
    slowValve := st == .flowing || st == .slowing }

/-- The entry of vehicle 877: its own origin entry holds 100 cL. -/
def truck : VehicleEntry :=
  { newEntry 877 2 with origins := [⟨5, 7, 100⟩], hours := some ⟨1000, ⟨812, 10000⟩⟩ }

/-- JOINED, with the entry of vehicle 877, and hose 1 in a state with its issue. -/
def hoseIn (st : HoseState) (x : IssueContext) (lifted : Bool) : State :=
  { joined with
    view := { joined.view with entries := [withUsage cfg truck] }
    field := { joined.field with pumpRun := st.pumpDemand, sincePumpOn := 500000 }
    records := { joined.records with reservations := if st.reserved then 1 else 0 }
    hoses := joined.hoses.set 0 { joined.hose 0 with
      ctl := issuing st x, nozzle := { joined.hose 0 |>.nozzle with active := lifted } } }

/-- A state with four responses held. -/
def congested : State :=
  { joined with link := { joined.link with responses := List.replicate 4 ⟨0x05, .ok, []⟩ } }

/-- A command's next state satisfies a test. -/
def leads (c : Instr) (s : State) (p : State → Bool) : Bool :=
  match exec c s with
  | .next t => p t
  | _ => false

/-- The result and the payload of the last response made. -/
def answer (s : State) : Option (Result × List Byte) := s.link.responses.getLast?.map fun r => (r.result, r.payload)

/-- A command answers with a result and a payload. -/
def answers (c : Instr) (s : State) (r : Result) (p : List Byte) : Bool :=
  leads c s fun t => answer t == some (r, p)

/-! ### WellFormed refuses -/

theorem test_wf_part : (Instr.loadConfig 256 (List.replicate 72 0)).wf = false := by decide
theorem test_wf_part_length : (Instr.loadConfig 1 []).wf = false := by decide
theorem test_wf_start : (Instr.start 16777216 0).wf = false ∧ (Instr.start 0 16777216).wf = false := by decide
theorem test_wf_present : (Instr.presentVehicle 256 1 0 0 0 0).wf = false ∧
    (Instr.presentVehicle 1 65536 0 0 0 0).wf = false ∧ (Instr.presentVehicle 1 1 16777216 0 0 0).wf = false ∧
    (Instr.presentVehicle 1 1 0 256 0 0).wf = false ∧ (Instr.presentVehicle 1 1 0 0 4294967296 0).wf = false ∧
    (Instr.presentVehicle 1 1 0 0 0 4294967296).wf = false := by decide
theorem test_wf_hose_requests : (Instr.stopHose 256).wf = false ∧ (Instr.readHose 256).wf = false ∧
    (Instr.clearHoseFault 256).wf = false := by decide
theorem test_wf_vehicle_requests : (Instr.readVehicle 65536).wf = false ∧ (Instr.barVehicle 65536).wf = false ∧
    (Instr.clearBar 65536).wf = false ∧ (Instr.recordService 1 256 0 0 0).wf = false ∧
    (Instr.recordService 65536 0 0 0 0).wf = false := by decide
theorem test_wf_other_requests : (Instr.stageAllowance 256 0).wf = false ∧ (Instr.stageAllowance 0 16777216).wf = false ∧
    (Instr.clearStaged 256).wf = false ∧ (Instr.releaseRecord 65536).wf = false ∧ (Instr.readPeers 256).wf = false ∧
    (Instr.ackNotice 256).wf = false ∧ (Instr.setNoticeEnables 65536).wf = false ∧
    (Instr.unknownRequestKind 256).wf = false := by decide
theorem test_wf_frames : (Instr.beacon 17 ⟨0, 0⟩ 10).wf = false ∧ (Instr.beacon 1 ⟨0, 86400⟩ 10).wf = false ∧
    (Instr.beacon 1 ⟨0, 0⟩ 4).wf = false ∧ (Instr.tally 0 (tallyOf 812 truck)).wf = false ∧
    (Instr.tally 9 { tallyOf 812 truck with bar := ⟨true, 1, 17⟩ }).wf = false ∧
    (Instr.tally 9 { tallyOf 812 truck with origins := [⟨9, 0, 5⟩] }).wf = false := by decide
theorem test_wf_tally_fields : (Instr.tally 9 { tallyOf 812 truck with hours := some ⟨10000000, ⟨812, 0⟩⟩ }).wf = false ∧
    (Instr.tally 9 { tallyOf 812 truck with totaliser := some ⟨100000000, ⟨812, 0⟩⟩ }).wf = false ∧
    (Instr.tally 9 { tallyOf 812 truck with services := Vector.replicate 4 ⟨1, 0, 0, none⟩ }).wf = false ∧
    (Instr.tally 9 { tallyOf 812 truck with origins := List.replicate 17 ⟨9, 1, 5⟩ }).wf = false := by decide
theorem test_wf_timers : (Instr.missTimerExpiry 17).wf = false ∧ (Instr.authTimerExpiry 0).wf = false ∧
    (Instr.primeWaitExpiry 5).wf = false ∧ (Instr.startTimerExpiry 5).wf = false ∧
    (Instr.noFlowTimerExpiry 5).wf = false ∧ (Instr.settleTimerExpiry 5).wf = false ∧
    (Instr.creepQuietTimerExpiry 5).wf = false ∧ (Instr.overrunWindowExpiry 5).wf = false := by decide
theorem test_wf_field : (Instr.nozzleChange 5 true).wf = false ∧ (Instr.meterPulse 5 0).wf = false ∧
    (Instr.meterPulse 1 65536).wf = false := by decide
theorem test_wf_accepts : (Instr.tally 9 (tallyOf 812 truck)).wf = true ∧ (Instr.readHose 255).wf = true := by decide

/-! ### Numbers the spec works out -/

/-- The check value of chapter 5: the nine bytes 31h to 39h give 29B1h. -/
theorem test_crc_check_value : crc [0x31#8, 0x32#8, 0x33#8, 0x34#8, 0x35#8, 0x36#8, 0x37#8, 0x38#8, 0x39#8] = 0x29B1#16 := by
  decide +kernel

/-- The rows of the command table give no bits, so no word spells a command. -/
theorem test_no_word_decodes : decodeTableWord 8 0x05 = none ∧ decodeTableWord 0 0 = none := by decide

/-- A link frame READ_HOSE 2, and one of a kind not in Table 11-1. -/
theorem test_requests_decode : requestOf 0x12#8 [0x02#8] = .readHose 2 ∧
    requestOf 0x31#8 [0x01#8, 0x02#8] = .releaseRecord 258 ∧ requestOf 0x77#8 [] = .unknownRequestKind 0x77 ∧
    requestOf 0x12#8 [] = .unknownRequestKind 0x12 := by decide

/-- A beacon of station 9 at (812, 20500) with interval 10 is read back from the bytes of its body. -/
theorem test_beacon_body : (beaconBody 9 ⟨812, 20500⟩ 10).take 10 =
      [0x09#8, 0x09#8, 0x61#8, 0x00#8, 0x03#8, 0x2C#8, 0x00#8, 0x50#8, 0x14#8, 0x0A#8] ∧
    checkBody 43200 (beaconBody 9 ⟨812, 20500⟩ 10) = .beacon 9 ⟨812, 20500⟩ 10 := by decide +kernel

/-- Table 2-7: the readings against a register of 124,600 stamped (812, 30,000), at (812, 37,200). -/
theorem test_hours_check : [124635, 124630, 124595, 124580].map
      (hoursCheck cfg ⟨812, 37200⟩ (some ⟨124600, ⟨812, 30000⟩⟩)) = [.implausible, .rise, .hold, .regression] := by
  decide

/-- Table 2-8: the readings against a register of 1,460,000. -/
theorem test_totaliser_check : [some 1460712, some 1460650, some 1459960, none].map
      (totaliserCheck cfg 2 ⟨812, 37200⟩ (some ⟨1460000, ⟨812, 30000⟩⟩)) = [.implausible, .rise, .hold, .hold] := by
  decide

/-- Section 2.8.1: the elapsed time across a rollover, and 0 for a stamp ahead of the clock. -/
theorem test_elapsed_time : elapsedTime 43200 ⟨812, 1600⟩ ⟨811, 40000⟩ = 4800 ∧
    elapsedTime 43200 ⟨812, 32050⟩ ⟨812, 32100⟩ = 0 := by decide

/-- Table 8-10, cases 1, 2, 3, 4 and 10. -/
theorem test_issue_limits :
    issueLimit cfg 2 3000 .joined [⟨3, 1, 223040⟩] false 0 = (.allowance, 76960) ∧
    issueLimit cfg 2 3000 .isolated [⟨3, 1, 223040⟩] false 0 = (.net, 40000) ∧
    issueLimit cfg 2 3000 .isolated [⟨3, 1, 223040⟩] true 0 = (.hold, 30000) ∧
    issueLimit cfg 2 3000 .listenIn [⟨3, 1, 260000⟩] false 0 = (.allowance, 40000) ∧
    issueLimit cfg 2 3000 .joined [⟨3, 1, 150000⟩] false 1500 = (.preset, 1500) ∧
    slowPointOf cfg 1500 = 0 := by decide

/-- Table 7-4, pulses 1 to 3: delivered, fraction and last flow. -/
theorem test_conversion :
    let m1 := (Meter.powerOn.startIssue.enterFlowing).countPulse 2681 9412
    let m2 := ({ m1 with interval := 0 }).countPulse 2681 172
    let m3 := m2.countPulse 2681 170
    (m1.delivered, m1.fraction, m1.lastFlow) = (3, 121, 0) ∧
    (m2.delivered, m2.fraction, m2.lastFlow) = (5, 754, 1522) ∧
    (m3.delivered, m3.fraction, m3.lastFlow) = (8, 363, 1540) := by decide

/-- Table 9-5, steps 1 and 2: the drip of hose 2. -/
theorem test_drip : dripped 500000 76998 ⟨3, false, 420000⟩ = ⟨3, false, 496998⟩ ∧
    dripped 500000 57512 ⟨3, false, 496998⟩ = ⟨2, false, 54510⟩ := by decide

/-- Table 3-3, steps 3, 5 and 6: a beacon ahead moves the clock, one behind or too far ahead does not. -/
theorem test_beacon_at_clock :
    (beaconAtClock cfg ⟨812, 20010⟩ joined).clock.pos = ⟨812, 20010⟩ ∧
    (beaconAtClock cfg ⟨812, 20002⟩ joined).clock.pos = ⟨812, 20000⟩ ∧
    (beaconAtClock cfg ⟨814, 100⟩ joined).clock.pos = ⟨812, 20000⟩ ∧
    (beaconAtClock cfg ⟨814, 100⟩ joined).clock.reject = 1 := by decide

/-! ### Single steps -/

/-- From reset, READ_STATUS of a part with no configuration: the first bytes of Table 11-6. -/
theorem test_read_status : (leads .readStatus fresh fun t => (answer t).map (fun x => x.2.take 5) ==
    some [0x00#8, 0x00#8, 0x00#8, 0x00#8, 0x07#8]) = true := by decide

theorem test_start_needs_config : answers (.start 812 20000) fresh .noConfig [] = true := by decide

/-- Table 8-2: a presentation at a hung, idle hose authorises it; its limit is 3,000 L less 1 L. -/
theorem test_present : (leads (.presentVehicle 1 877 1001 0 0 0) (hoseIn .closing issue false) fun t =>
      answer t == some (.busy, [])) = true ∧
    (leads (.presentVehicle 2 1350 100 0 0 0) joined fun t =>
      decide ((t.hose 1).ctl.state = .authorized) &&
      (t.context 1).map (·.limit) == some 120000) = true := by decide

/-- Table 8-11: the lift with the pump's prime time already run opens the valves at once. -/
theorem test_lift : (leads (.nozzleChange 1 true) { hoseIn .authorized issue false with
      field := { joined.field with pumpRun := true, sincePumpOn := 500000 } } fun t =>
    decide ((t.hose 0).ctl.state = .flowing) && (t.hose 0).ctl.mainValve) = true := by decide

/-- Table 8-6: the limit-reaching pulse closes the hose with reason LIMIT. -/
theorem test_limit_pulse : (leads (.meterPulse 1 500)
      ((hoseIn .slowing { issue with limit := 1 } true)) fun t =>
    decide ((t.hose 0).ctl.state = .closing) &&
    (t.context 0).map (·.endReason) == some (some .limit)) = true := by decide

/-- Table 4-2: a beacon returns a LOST peer to PRESENT at bucket 2. -/
theorem test_lost_peer_beacon : (leads (.beacon 9 ⟨812, 20001⟩ 10)
      (runningIn .isolated { peerAt .lost 8 with missTimer := none }) fun t =>
    decide (t.net.state = .listenIn) && t.net.peers[8].bucket == 2) = true := by decide

/-- Table 4-1: the eighth miss makes a peer LOST and, the last active one gone, the station ISOLATED. -/
theorem test_eighth_miss : (leads (.missTimerExpiry 9) (runningIn .joined (peerAt .fading 7)) fun t =>
    decide (t.net.state = .isolated) && decide (t.net.peers[8].state = .lost)) = true := by decide

/-- R90: a rise of CD in the countdown freezes it and doubles CW. -/
theorem test_carrier_rise : (leads .carrierDetectRise
      (joined.mapRadio fun r => { r with tx := .countdown 5 200 }) fun t =>
    decide (t.radio.tx = .quiet none (some 5)) && t.radio.cw == 32) = true := by decide

/-! ### States that meet the hypotheses of the statements -/

/-- The values of fields 1 to 47 of Table 11-5. -/
def values1 : List Nat :=
  [5, 7, 511, 30, 5, 3, 1024, 2681, 1024, 1024, 0, 0, 0, 0, 600, 900, 600, 600, 100, 120, 100, 100, 3, 20, 2,
   30, 90, 15, 30, 3, 6, 5000, 900, 1100, 300, 10, 50, 10, 400, 43200, 10, 250, 3, 8, 90, 20, 2]

/-- The values of a class group of Table 11-5. -/
def classValues (low high allowance : Nat) : List Nat :=
  [low, high, allowance, 4500, 320, 250, 500, 1000, 0, 30000, 60000, 0, 0]

/-- The values of fields 48 to 151 of Table 11-5. -/
def values2 : List Nat :=
  classValues 0 0 0 ++ classValues 1 99 100 ++ classValues 100 1300 3000 ++ classValues 1301 1400 1200 ++
    classValues 0 0 0 ++ classValues 0 0 0 ++ classValues 0 0 0 ++ classValues 1401 4000 3000

/-- Values in the widths of their fields. -/
def bytesOf (fields : List FieldSpec) (values : List Nat) : List Byte :=
  fieldBytes ((fields.map (·.width)).zip values)

/-- Part 1 of the block of `cfg`. -/
def bytes1 : List Byte := bytesOf (blockFields.take 47) values1

/-- Part 2 of the block of `cfg`. -/
def bytes2 : List Byte := bytesOf (blockFields.drop 47) values2

/-- The two parts are the bytes of `cfg`. -/
theorem test_config_bytes : bytes1.length = 72 ∧ bytes2.length = 248 ∧ partsFailure bytes1 bytes2 = none ∧
    configOfParts bytes1 bytes2 = cfg := by decide +kernel

/-- STANDBY with parts held. -/
def holding (p1 p2 : Option (List Byte)) : State :=
  { standing with store := { standing.store with part1 := p1, part2 := p2 } }

theorem witness_RefusedRequestChangesNothing : isRequest .restart = true ∧ standing.canAnswer ∧
    isRequest (.loadConfig 3 []) = true ∧ answers .restart standing .notRunning [] = true := by
  unfold State.canAnswer; decide

theorem witness_LoadConfigParts : (holding none none).canAnswer ∧ (holding none none).net.state = .standby ∧
    bytes1.length = 72 ∧ bytes2.length = 248 ∧ (holding none none).store.part2 = none ∧
    (holding none none).store.part1 = none ∧
    partsFailure (List.replicate 72 0) bytes2 = some 1 ∧ partsFailure bytes1 (List.replicate 248 0) = some 51 ∧
    (holding none (some bytes2)).store.part2 = some bytes2 ∧ joined.net.state ≠ .standby := by
  unfold State.canAnswer; decide +kernel

theorem witness_LoadConfigInstalls : (holding none (some bytes2)).canAnswer ∧
    (holding none (some bytes2)).net.state = .standby ∧ bytes1.length = 72 ∧ bytes2.length = 248 ∧
    partsFailure bytes1 bytes2 = none ∧ (holding none (some bytes2)).store.part2 = some bytes2 ∧
    (holding (some bytes1) none).store.part1 = some bytes1 := by
  unfold State.canAnswer; decide +kernel

theorem witness_StartRequest : joined.canAnswer ∧ joined.net.state ≠ .standby ∧
    fresh.canAnswer ∧ fresh.net.state = .standby ∧ fresh.store.block = none ∧
    standing.canAnswer ∧ standing.net.state = .standby ∧ standing.store.block = some cfg ∧
    cfg.shiftLength ≤ 43200 ∧ 43199 < cfg.shiftLength ∧ 16777215 ≤ 16777215 ∧
    (leads (.start 16777215 43199) standing fun t => t.clock.held && t.net.state == .listenIn) = true := by
  unfold State.canAnswer; decide

/-- STANDBY with the clock set in the shift before, an allowance staged for class 2, nozzle 1 out of its boot. -/
def staged : State :=
  { standing with
    clock := { standing.clock with set := true, pos := ⟨811, 5⟩, staged := standing.clock.staged.set 2 (some 9) }
    hoses := standing.hoses.set 0 { standing.hose 0 with nozzle := ⟨true, 0, true⟩ } }

/-- A START that advances the shift takes the staged allowance; the lifted nozzle of an idle hose is counted. -/
theorem witness_StartRequest_shift : staged.canAnswer ∧ staged.net.state = .standby ∧
    staged.store.block = some cfg ∧ staged.clock.set = true ∧ staged.clock.pos.shift < 812 ∧
    (leads (.start 812 0) staged fun t => t.clock.active[2] == 9 && t.clock.staged[2].isNone &&
      !t.field.matched && (t.hose 0).guardCount == 1 && t.notices.entries[2].pending) = true ∧
    (leads (.start 811 4) staged fun t => t.clock.staged[2] == some 9 && t.clock.pos == ⟨811, 5⟩) = true := by
  unfold State.canAnswer; decide

theorem witness_StandbyRequest : (hoseIn .flowing issue true).canAnswer ∧
    ((hoseIn .flowing issue true).hose 0).ctl.state ≠ .idle ∧
    ((hoseIn .flowing issue true).hose 0).ctl.state ≠ .outOfService ∧
    (∀ h : Fin 4, (standing.hose h).ctl.state = .idle ∨ (standing.hose h).ctl.state = .outOfService) ∧
    standing.net.state = .standby ∧
    (∀ h : Fin 4, (joined.hose h).ctl.state = .idle ∨ (joined.hose h).ctl.state = .outOfService) ∧
    joined.net.state ≠ .standby ∧ standing.canAnswer ∧ joined.canAnswer := by
  unfold State.canAnswer; decide

/-- JOINED, with a frame of a kind on air and vehicles queued. -/
def sending (kind : OnAirKind) (queue : List QueueItem) : State :=
  joined.mapRadio fun r => { r with tx := .sending ⟨kind, [], 9⟩, queue := queue, refresh := 877 }

/-- R92: a tally cut off returns to the head of the queue unless its vehicle is queued, or moves the pointer back. -/
theorem witness_StandbyRequest_cutOff :
    (∀ h : Fin 4, ((sending .beacon []).hose h).ctl.state = .idle ∨
      ((sending .beacon []).hose h).ctl.state = .outOfService) ∧ (sending .beacon []).canAnswer ∧
    (leads .standby (sending (.fromQueue 877) [⟨5, 1⟩]) fun t => t.radio.queue == [⟨877, 0⟩, ⟨5, 1⟩]) = true ∧
    (leads .standby (sending (.fromQueue 877) [⟨5, 1⟩, ⟨877, 1⟩]) fun t =>
      t.radio.queue == [⟨5, 1⟩, ⟨877, 1⟩]) = true ∧
    (leads .standby (sending (.refresh 877 860) []) fun t => t.radio.refresh == 860 && t.radio.queue == []) = true := by
  unfold State.canAnswer; decide

/-- A hose with an issue in FLOWING, or in CLOSING, in a station whose relations hold. -/
theorem witness_RestartRequest : standing.canAnswer ∧ standing.net.state = .standby ∧
    (hoseIn .flowing issue true).canAnswer ∧ (hoseIn .flowing issue true).net.state ≠ .standby ∧
    (hoseIn .flowing issue true).store.block = some cfg ∧ IssuesAccounted (hoseIn .flowing issue true) ∧
    OutputsFollow (hoseIn .flowing issue true) ∧
    (leads .restart (hoseIn .flowing issue true) fun t => t.records.records.length == 1) = true := by
  unfold State.canAnswer IssuesAccounted OutputsFollow; decide

/-- R170: RESTART clears what was pending; ISSUE_ENDED and NET_STATE, which it raises itself, are pending after it. -/
theorem test_restart_notices : (leads .restart ((raise .clockReject (hoseIn .flowing issue true))) fun t =>
    t.notices.entries[0].pending && t.notices.entries[3].pending && !t.notices.entries[6].pending &&
    t.notices.entries[10].pending && t.notices.attention) = true := by decide

theorem witness_answers : joined.canAnswer ∧ ¬ congested.canAnswer ∧ isRequest .readStatus = true ∧
    answers .readStatus joined .ok (statusFields joined) = true := by
  unfold State.canAnswer; decide

theorem witness_IssueLimitIsSmallestBound : ∃ applies : Bound → Option Nat,
    applies .allowance = some (3000 * 100 - shiftTotal [⟨3, 1, 223040⟩]) ∧
    applies .hold = (if true = true then some (cfg.holdCap * 100) else none) ∧
    applies .net = (if NetState.isolated = .listenIn ∨ NetState.isolated = .isolated then some (cfg.netCap * 100)
      else none) ∧
    applies .tank = some (cfg.classes[2].tank * 100) ∧
    applies .preset = (if 0 = 0 then none else some 0) := by
  refine ⟨fun b => match b with
    | .allowance => some 76960 | .hold => some 30000 | .net => some 40000 | .tank => some 450000
    | .preset => none, ?_⟩
  decide

theorem witness_PresentRefusedInOrder : standing.canAnswer ∧ standing.net.state = .standby ∧
    joined.canAnswer ∧ joined.net.state ≠ .standby ∧ joined.store.block = some cfg ∧
    answers (.presentVehicle 5 1 0 0 0 0) joined .badRequest [] = true ∧
    answers (.presentVehicle 1 4096 0 0 0 0) joined .badRequest [] = true ∧
    answers (.presentVehicle 1 1 10000000 0 0 0) joined .badRequest [] = true ∧
    answers (.presentVehicle 1 1 0 1 100000000 0) joined .badRequest [] = true ∧
    answers (.presentVehicle 4 4095 9999999 1 99999999 4294967295) joined .notFitted [] = true ∧
    answers (.presentVehicle 1 4095 9999999 1 99999999 4294967295) joined .unknownClass [] = true ∧
    answers (.presentVehicle 2 877 0 0 0 0) (hoseIn .ended issue true) .vehicleActive [] = true := by
  unfold State.canAnswer; decide

/-- JOINED under caps of 9 L, with the entry of a vehicle alone in the view. -/
def capped (st : NetState) (e : VehicleEntry) : State :=
  { runningIn st heardPeer with
    store := { joined.store with block := some { cfg with holdCap := 9, netCap := 9 } }
    view := { joined.view with entries := [e] } }

/-- The entry of vehicle 877 with a totaliser register of 5,000 L. -/
def metered : VehicleEntry := { truck with totaliser := some ⟨5000, ⟨812, 10000⟩⟩ }

/-- Sixteen origin entries of other stations. -/
def sixteen : List OriginEntry := (List.range 16).map fun i => ⟨9, i + 1, 1⟩

/-- The premises of the last four checks of Table 8-3. -/
theorem witness_PassesToReadings : PassesToReadings (capped .joined metered)
    { cfg with holdCap := 9, netCap := 9 } 0 877 metered := by
  refine ⟨by decide, rfl, ⟨by decide, by decide⟩, by decide, by decide, by decide, by decide, by decide,
    ⟨2, by decide, by decide⟩, ?_, by decide, by decide⟩
  intro k x hx
  have none : ∀ k, (capped .joined metered).context k = none := by decide
  rw [none k] at hx
  cases hx

/-- Checks 13 to 16 of Table 8-3, with a register of 100.0 h and one of 5,000 L, both 10,000 s old: at most 103.8 h
and 5,939 L are accepted; 9.99 L are left of the allowance, 9 L of a hold or of the net, and 9.99 L asked for. -/
theorem test_present_readings :
    answers (.presentVehicle 1 877 1039 0 0 0) (capped .joined metered) .hoursImplausible
      [0x00#8, 0x03#8, 0xE8#8, 0x00#8, 0x04#8, 0x0E#8] = true ∧
    answers (.presentVehicle 1 877 1038 1 5940 0) (capped .joined metered) .totaliserImplausible
      [0x00#8, 0x00#8, 0x13#8, 0x88#8, 0x00#8, 0x00#8, 0x17#8, 0x33#8] = true ∧
    answers (.presentVehicle 1 877 1038 1 5939 0) (capped .joined { metered with origins := sixteen })
      .originFull [] = true := by decide

theorem test_present_limits :
    answers (.presentVehicle 1 877 1038 0 0 0) (capped .joined { metered with origins := [⟨9, 1, 299001⟩] })
      .allowanceUsed [0x00#8, 0x00#8, 0x03#8, 0xE7#8, 0x01#8] = true ∧
    answers (.presentVehicle 1 877 3000 0 0 0)
      (capped .isolated { metered with hours := some ⟨3000, ⟨812, 10000⟩⟩ })
      .serviceHold [0x00#8, 0x00#8, 0x03#8, 0x84#8, 0x02#8] = true ∧
    answers (.presentVehicle 1 877 1000 0 0 999) (capped .isolated metered)
      .netCap [0x00#8, 0x00#8, 0x03#8, 0x84#8, 0x03#8] = true ∧
    answers (.presentVehicle 1 877 1000 0 0 999) (capped .joined metered)
      .preset [0x00#8, 0x00#8, 0x03#8, 0xE7#8, 0x05#8] = true := by decide

theorem witness_PresentAccepted : joined.canAnswer ∧ joined.net.state ≠ .standby ∧
    joined.store.block = some cfg ∧ cfg.fitted[(1 : Fin 4)] = true ∧ (joined.hose 1).ctl.state = .idle ∧
    (joined.hose 1).nozzle.active = false ∧ joined.field.stop.active = false ∧
    joined.records.records.length + joined.records.reservations < 32 ∧ classOf cfg 1350 = some 3 ∧
    (∀ k : Fin 4, joined.context k = none) ∧ joined.view.entries.length < 256 ∧
    (joined.entryOrNew 1350 3).bar.barred = false ∧
    (presentCheck cfg ⟨1350, 9999999, some 99999999, 0⟩ (joined.entryOrNew 1350 3) joined).hours = .rise ∧
    (presentCheck cfg ⟨1350, 9999999, some 99999999, 0⟩ (joined.entryOrNew 1350 3) joined).totaliser = .rise ∧
    (joined.entryOrNew 1350 3).origins.length < 16 ∧
    cfg.minimumIssue * 100 ≤
      (presentCheck cfg ⟨1350, 9999999, some 99999999, 0⟩ (joined.entryOrNew 1350 3) joined).limit := by
  unfold State.canAnswer; decide

theorem witness_StopHoseByState : joined.canAnswer ∧ fresh.store.block = none ∧ fresh.canAnswer ∧
    cfg.fitted[(3 : Fin 4)] = false ∧ cfg.fitted[(0 : Fin 4)] = true ∧
    ((hoseIn .authorized issue false).hose 0).ctl.state = .authorized ∧
    (∀ st ∈ [HoseState.starting, .flowing, .slowing], ((hoseIn st issue true).hose 0).ctl.state.issuing = true ∧
      (hoseIn st issue true).context 0 = some issue) ∧
    ((hoseIn .closing issue true).hose 0).ctl.state = .closing ∧
    ((hoseIn .ended issue true).hose 0).ctl.state = .ended ∧ (joined.hose 0).ctl.state = .idle ∧
    answers (.stopHose 1) (hoseIn .starting issue true) .ok [0x06#8] = true ∧
    answers (.stopHose 5) joined .badRequest [] = true ∧ answers (.stopHose 0) joined .badRequest [] = true := by
  unfold State.canAnswer; decide

/-- JOINED, with the health count of hose 1 frozen. -/
def frozenHose : State :=
  { joined with hoses := joined.hoses.set 0 { joined.hose 0 with
      ctl := { (joined.hose 0).ctl with state := .outOfService }, health := ⟨6, true, 0⟩ } }

theorem witness_ClearHoseFaultThaws : frozenHose.canAnswer ∧ (frozenHose.hose 0).health.frozen = true ∧
    (joined.hose 0).health.frozen = false ∧ joined.canAnswer ∧
    answers (.clearHoseFault 1) frozenHose .ok [0x01#8, 0x00#8] = true := by
  unfold State.canAnswer; decide

theorem witness_ReadVehicleReports : (hoseIn .closing issue true).canAnswer ∧
    (hoseIn .closing issue true).entry 4095 = none ∧
    (hoseIn .closing issue true).entry 877 = some (withUsage cfg truck) ∧
    answers (.readVehicle 4096) joined .badRequest [] = true ∧ answers (.readVehicle 4095) joined .noEntry [] = true := by
  unfold State.canAnswer; decide

/-- JOINED, with 256 entries of other vehicles than 878. -/
def fullView : State := { joined with view := { joined.view with entries := List.replicate 256 truck } }

/-- JOINED, with the bar of vehicle 877 at a version. -/
def barredAt (version : Nat) : State :=
  { hoseIn .flowing issue true with view := { joined.view with
      entries := [{ truck with bar := ⟨false, version, 5⟩ }] } }

theorem witness_BarRequests : standing.canAnswer ∧ standing.net.state = .standby ∧ joined.canAnswer ∧
    joined.store.block = some cfg ∧ joined.net.state ≠ .standby ∧ classOf cfg 4095 = none ∧
    classOf cfg 878 = some 2 ∧ fullView.canAnswer ∧ fullView.entry 878 = none ∧ 256 ≤ fullView.view.entries.length ∧
    65535 ≤ ((barredAt 65535).entryOrNew 877 2).bar.version ∧
    ((barredAt 65534).entryOrNew 877 2).bar.version < 65535 ∧
    (barredAt 65534).context 0 = some issue ∧ ((barredAt 65534).hose 0).ctl.state.issuing = true ∧
    answers (.barVehicle 877) (barredAt 65534) .ok [0x01#8, 0xFF#8, 0xFF#8, 0x05#8] = true ∧
    answers (.clearBar 877) (barredAt 65535) .sequenceLimit [] = true ∧
    answers (.barVehicle 878) fullView .viewFull [] = true := by
  unfold State.canAnswer; decide +kernel

/-- R22: a bar cancels an authorisation, with no AUTH_EXPIRED. -/
theorem test_bar_authorized : (leads (.barVehicle 877) { hoseIn .authorized issue false with view := (barredAt 3).view }
    fun t => (t.hose 0).ctl.state == .idle && (t.context 0).isNone && t.records.reservations == 0 &&
      !t.notices.entries[1].pending) = true := by decide

theorem witness_ReadingsAndUsage :
    ((7200 : Nat) : Int) = max 0 ((((⟨812, 37200⟩ : ClockPos).shift : Int) - 812) * cfg.shiftLength +
      (((⟨812, 37200⟩ : ClockPos).time : Int) - 30000)) ∧
    30 = (7200 + 359) / 360 + cfg.hourTolerance ∧
    690 = (cfg.classes[2].maxBurn * 7200 + 3599) / 3600 + cfg.fuelTolerance ∧
    truck.hours = some ⟨1000, ⟨812, 10000⟩⟩ ∧ truck.totaliser = none ∧ truck.services[0].epoch = 0 ∧
    typeUsage cfg.classes[2] truck 0 = 400 := by decide

/-- Types A and B recorded, type C at its last epoch. -/
def serviced : VehicleEntry :=
  { truck with services := #v[⟨65534, 16, 0, none⟩, ⟨3, 16, 0, some 7⟩, ⟨65535, 16, 0, none⟩, ⟨0, 0, 0, none⟩] }

/-- A net state, with the entry of a serviced vehicle 877. -/
def servicing (st : NetState) : State :=
  { runningIn st heardPeer with view := { joined.view with entries := [serviced] } }

theorem witness_RecordServiceRequest : standing.canAnswer ∧ standing.net.state = .standby ∧
    (servicing .listenIn).net.state = .listenIn ∧ (servicing .joined).net.state = .joined ∧
    (servicing .isolated).net.state = .isolated ∧ (servicing .joined).canAnswer ∧ classOf cfg 877 = some 2 ∧
    (servicing .joined).entry 877 = some serviced ∧
    hoursCheck cfg ⟨812, 20000⟩ serviced.hours 1038 = .rise ∧
    hoursCheck cfg ⟨812, 20000⟩ serviced.hours 990 = .hold ∧
    totaliserCheck cfg serviced.cls ⟨812, 20000⟩ serviced.totaliser (some 99999999) = .rise ∧
    totaliserCheck cfg serviced.cls ⟨812, 20000⟩ serviced.totaliser none = .hold ∧
    (∀ i : Fin 4, i.val ≤ 1 → serviced.services[i].epoch < 65535) ∧
    answers (.recordService 877 2 1038 0 0) (servicing .joined) .sequenceLimit [] = true ∧
    answers (.recordService 877 1 1038 0 0) (servicing .listenIn) .notJoined [] = true := by
  unfold State.canAnswer; decide

/-- The refusals 3 to 8 of R32, on the registers of `test_present_readings`: at least 99.0 h and 4,950 L are
accepted. -/
theorem test_record_service_refusals :
    answers (.recordService 877 4 1000 0 0) (capped .joined metered) .badRequest [] = true ∧
    answers (.recordService 4095 0 1000 0 0) (capped .joined metered) .unknownClass [] = true ∧
    answers (.recordService 877 0 1039 0 0) (capped .joined metered) .hoursImplausible
      [0x00#8, 0x03#8, 0xE8#8, 0x00#8, 0x04#8, 0x0E#8] = true ∧
    answers (.recordService 877 0 989 0 0) (capped .joined metered) .hoursRegression
      [0x00#8, 0x03#8, 0xE8#8, 0x00#8, 0x03#8, 0xDE#8] = true ∧
    answers (.recordService 877 0 990 1 5940) (capped .joined metered) .totaliserImplausible
      [0x00#8, 0x00#8, 0x13#8, 0x88#8, 0x00#8, 0x00#8, 0x17#8, 0x33#8] = true ∧
    answers (.recordService 877 0 1038 1 4949) (capped .joined metered) .totaliserRegression
      [0x00#8, 0x00#8, 0x13#8, 0x88#8, 0x00#8, 0x00#8, 0x13#8, 0x56#8] = true := by decide

theorem test_record_service_full : answers (.recordService 878 0 1000 0 0) fullView .viewFull [] = true := by
  decide +kernel

theorem witness_StagedAllowances : fresh.canAnswer ∧ fresh.store.block = none ∧ standing.canAnswer ∧
    standing.store.block ≠ none ∧ (∃ table : State → List Byte, ∀ u, table u = allowanceFields u) ∧
    answers (.stageAllowance 8 0) standing .badRequest [] = true ∧
    answers (.stageAllowance 7 100001) standing .badRequest [] = true ∧
    (leads (.stageAllowance 7 100000) standing fun t => t.clock.staged[7] == some 100000) = true ∧
    answers (.clearStaged 8) standing .badRequest [] = true := by
  unfold State.canAnswer
  refine ⟨by decide, by decide, by decide, by decide, ⟨allowanceFields, fun _ => rfl⟩, ?_⟩
  decide

/-- An issue record with a number. -/
def recordNo (n : Nat) : IssueRecord := recordOf n 1 { issue with endReason := some .limit } ⟨812, 20000⟩

/-- JOINED, with records queued. -/
def queuedRecords (l : List IssueRecord) : State :=
  { joined with records := { records := l, reservations := 0, next := 4 } }

theorem witness_RecordRequests : joined.canAnswer ∧ joined.records.records = [] ∧
    (queuedRecords [recordNo 65535, recordNo 0]).canAnswer ∧
    (queuedRecords [recordNo 65535, recordNo 0]).records.records = recordNo 65535 :: [recordNo 0] ∧
    (recordNo 65535).number ≤ 65535 ∧
    answers (.releaseRecord 65535) (queuedRecords [recordNo 65535, recordNo 0]) .ok [0x01#8] = true ∧
    answers (.releaseRecord 0) (queuedRecords [recordNo 65535, recordNo 0]) .noMatch
      [0x02#8, 0xFF#8, 0xFF#8] = true ∧
    answers (.releaseRecord 65536) joined .badRequest [] = true := by
  unfold State.canAnswer; decide

theorem witness_requests_refused : answers (.readPeers 2) joined .badRequest [] = true ∧
    answers (.readHose 0) joined .badRequest [] = true ∧ answers (.readHose 5) joined .badRequest [] = true ∧
    answers (.ackNotice 12) joined .badRequest [] = true ∧
    answers (.setNoticeEnables 4096) joined .badRequest [] = true := by decide

/-- The clearing of an enable disables its entry; READ_NOTICES makes a pending condition await. -/
theorem test_notices : (leads (.setNoticeEnables 0x0EFF)
      { joined with notices := (report .hoseOut true joined).notices } fun t =>
        !t.notices.entries[8].enabled && !t.notices.attention) = true ∧
    (leads .readNotices { joined with notices := (report .hoseOut true joined).notices } fun t =>
        t.notices.entries[8].awaiting && !t.notices.entries[8].pending) = true := by decide

theorem witness_LinkEvents : ¬ congested.canAnswer ∧ isRequest .standby = true ∧
    congested.link.responses = ⟨0x05, .ok, []⟩ :: List.replicate 3 ⟨0x05, .ok, []⟩ := by
  unfold State.canAnswer; decide

/-- The frame of READ_HOSE 2, its length 2, between other bytes and with its CRC right or wrong. -/
theorem witness_LinkEvents_receiver : ([0x12#8] : List Byte).length ≤ 249 ∧
    crcField [0x02#8, 0x12#8, 0x02#8] = [0xE7#8, 0xAF#8] ∧
    takeBytes .hunt (([0x55#8, 0xC3#8, 0x02#8, 0x12#8, 0x02#8, 0xE7#8, 0xAF#8] : List Byte).map fun b => ⟨9, b, true⟩) =
      (.hunt, [.readHose 2]) ∧
    takeBytes .hunt (([0xC3#8, 0x02#8, 0x12#8, 0x02#8, 0xE7#8, 0xAE#8] : List Byte).map fun b => ⟨9, b, true⟩) =
      (.hunt, [.linkFrameDiscard .badCrc]) ∧
    takeBytes .hunt [⟨0, 0xC3#8, true⟩, ⟨1001, 0xC3#8, true⟩, ⟨1000, 0xFB#8, true⟩] =
      (.hunt, [.linkFrameDiscard .gap, .linkFrameDiscard .badLength]) := by decide +kernel

/-- A station at rest, the bytes of a line and the bits of the radio standing on them. -/
def resting (line : List LineByte) (bits : List Bool) : State :=
  { joined with link := { joined.link with line := line, waited := 7 }
                radio := { joined.radio with rxd := bits, bitPhase := 80800 } }

theorem witness_AtRest : AtRest (resting [⟨7, 0xC3#8, true⟩] [true]) ∧ AtRest joined ∧
    100000 ≤ (resting [] [true]).radio.bitPhase + 19200 ∧ joined.radio.bitPhase + 19200 < 100000 := by
  unfold AtRest; decide

theorem witness_BeaconTaken : joined.net.state ≠ .standby ∧ joined.radio.tx = .idle ∧
    joined.store.block = some cfg ∧ (4 : Fin 16).val + 1 = cfg.station ∧ (8 : Fin 16).val + 1 ≠ cfg.station ∧
    ((20002 : Int) - 20000 ≤ 2) ∧ clockLead 43200 ⟨812, 20002⟩ ⟨812, 20000⟩ = 2 ∧
    clockLead 43200 ⟨812, 20003⟩ ⟨812, 20000⟩ = 3 ∧ clockLead 43200 ⟨813, 20000⟩ ⟨812, 20000⟩ = 43200 ∧
    clockLead 43200 ⟨813, 20001⟩ ⟨812, 20000⟩ = 43201 ∧ joined.clock.held = false ∧
    (runningIn .isolated (peerAt .fading 3)).net.state = .isolated := by decide

/-- R84: a beacon and a tally taken whole are dealt with while a frame of the station is on air. -/
theorem test_frames_while_sending :
    (leads (.beacon 9 ⟨812, 20001⟩ 10) (sending .beacon []) fun t => t.net.peers[8].frames == 1) = true ∧
    (leads (.tally 9 (tallyOf 812 truck)) (sending .beacon []) fun t =>
      t.net.peers[8].frames == 1 && t.radio.queue == [⟨877, 0⟩]) = true ∧
    (leads (.radioFrameDrop .crc) (sending .beacon []) fun t => t.radio.badCrc == 1) = true := by decide

theorem witness_peers_sound : heardPeer.sound ∧ (peerAt .fading 3).sound ∧ (peerAt .fading 7).sound ∧
    Peer.cleared.sound ∧ ({ peerAt .lost 8 with missTimer := none } : Peer).sound := by
  refine ⟨?_, ?_, ?_, ?_, ?_⟩ <;> simp [Peer.sound, heardPeer, peerAt, Peer.cleared, within]

theorem witness_FramesDropped : joined.net.state ≠ .standby ∧ joined.radio.tx = .idle ∧
    joined.store.block = some cfg ∧ (tallyOf 812 { truck with number := 4095 }).inRange cfg.shiftLength = true ∧
    classOf cfg 4095 = none ∧ (tallyOf 812 { truck with number := 878 }).inRange cfg.shiftLength = true ∧
    classOf cfg 878 ≠ none ∧ fullView.entry 878 = none ∧ 256 ≤ fullView.view.entries.length ∧
    fullView.store.block = some cfg := by decide +kernel

/-- The clock at a position. -/
def clockAt (p : ClockPos) : State := { joined with clock := { joined.clock with pos := p } }

theorem witness_ClockSecond : joined.store.block = some cfg ∧ (clockAt ⟨812, 43198⟩).clock.set = true ∧
    (clockAt ⟨812, 43198⟩).clock.held = false ∧ 43198 + 1 < cfg.shiftLength ∧ 43197 + 2 < cfg.shiftLength ∧
    cfg.shiftLength ≤ 43199 + 1 ∧ cfg.shiftLength = 43198 + 2 ∧
    (leads .shiftClockSecond (clockAt ⟨812, 43199⟩) fun t => t.clock.pos == ⟨813, 0⟩) = true ∧
    (leads .shiftClockSecond (clockAt ⟨16777215, 43198⟩) fun t => t.clock.held) = true := by decide

theorem witness_PeerTimers : (runningIn .joined (peerAt .fading 7)).net.peers[8].missTimer.isSome = true ∧
    (runningIn .joined (peerAt .fading 7)).net.peers[8].bucket ≤ 7 ∧
    (leads (.missTimerExpiry 9) (runningIn .joined (peerAt .present 2)) fun t =>
      t.net.peers[8].state == .fading && t.net.state == .joined) = true ∧
    (runningIn .listenIn heardPeer).net.state = .listenIn ∧
    (runningIn .listenIn heardPeer).net.listen.isSome = true ∧
    (leads .listenTimerExpiry (runningIn .listenIn (peerAt .fading 3)) fun t => t.net.state == .isolated) = true := by
  decide

/-- JOINED, with vehicle 877 in the view and the radio as given. -/
def withRadio (f : RadioBlock → RadioBlock) : State := (hoseIn .closing issue true).mapRadio f

theorem witness_FramesFallDue : joined.store.block = some cfg ∧ joined.radio.schedule = some 5 ∧
    joined.radio.gapClock = some 0 ∧ joined.radio.dueTally = none ∧
    (withRadio id).view.entries ≠ [] ∧ (withRadio fun r => { r with queue := [⟨877, 0⟩] }).radio.queue ≠ [] ∧
    (leads .tallyDue (withRadio id) fun t => t.radio.tx == .quiet (some 1000) none) = true := by decide

theorem witness_BackoffAndSend : joined.store.block = some cfg ∧ 0 < joined.radio.cw ∧
    (withRadio fun r => { r with tx := .quiet (some 0) none }).radio.tx = .quiet (some 0) none ∧
    (withRadio fun r => { r with tx := .quiet (some 0) (some 1) }).radio.tx = .quiet (some 0) (some 1) ∧
    (withRadio fun r => { r with tx := .countdown 2 0 }).radio.tx = .countdown 2 0 ∧
    (withRadio fun r => { r with tx := .countdown 1 0, dueBeacon := some 1 }).radio.cd = false ∧
    (leads .backoffSlotEnd (withRadio fun r => { r with tx := .countdown 1 0, dueBeacon := some 1 }) fun t =>
      t.radio.tx.key && t.radio.dueBeacon.isNone) = true ∧
    (leads .backoffSlotEnd (withRadio fun r => { r with
        tx := .countdown 1 0, dueTally := some 1, queue := [⟨877, 1⟩, ⟨5, 0⟩] }) fun t =>
      t.radio.tx.key && t.radio.queue == [⟨5, 0⟩]) = true ∧
    refreshEntry 877 (withRadio id).view.entries = some (withUsage cfg truck) ∧
    (leads .backoffSlotEnd (withRadio fun r => { r with tx := .countdown 1 0, dueTally := some 1 }) fun t =>
      t.radio.tx.key && t.radio.refresh == 877) = true := by decide +kernel

theorem witness_BackoffAndSend_canSend : CanSend (withRadio fun r => { r with dueBeacon := some 1 }) ∧
    CanSend (withRadio fun r => { r with dueTally := some 1, queue := [⟨877, 1⟩, ⟨5, 0⟩] }) ∧
    CanSend (withRadio fun r => { r with dueTally := some 1 }) ∧
    (withRadio id).view.entries.Pairwise (fun a b => a.number < b.number) ∧
    NextInRotation 0 (withRadio id).view.entries (withUsage cfg truck) ∧
    NextInRotation 877 (withRadio id).view.entries (withUsage cfg truck) :=
  ⟨.inl rfl, .inr ⟨rfl, .inl ⟨_, _, _, rfl, rfl⟩⟩, .inr ⟨rfl, .inr ⟨rfl, by decide⟩⟩, by decide,
    by unfold NextInRotation; decide, by unfold NextInRotation; decide⟩

/-- A frozen count of 0 sends at the end of the quiet time; a tally put on air stops the gap clock (section 5.11). -/
theorem test_frozen_zero :
    (leads .quietTimePassed (withRadio fun r => { r with
        tx := .quiet (some 0) (some 0), dueTally := some 1, cw := 64, gapClock := some 80000 }) fun t =>
      t.radio.tx.key && t.radio.cw == 16 && t.radio.gapClock.isNone && t.radio.dueTally.isNone) = true ∧
    (leads .transmissionEnd (sending (.fromQueue 5) [⟨877, 0⟩]) fun t =>
      t.radio.gapClock == some 0 && t.radio.tx == .idle) = true := by decide +kernel

theorem witness_CarrierDetect : (withRadio fun r => { r with tx := .countdown 2 0 }).radio.cd = false ∧
    (withRadio fun r => { r with cd := true, tx := .quiet none (some 2) }).radio.cd = true ∧
    (leads .carrierDetectFall (withRadio fun r => { r with cd := true, tx := .quiet none (some 2) }) fun t =>
      t.radio.tx == .quiet (some 1000) (some 2)) = true ∧ joined.radio.tx = .idle ∧
    (leads .carrierDetectRise (withRadio fun r => { r with tx := .countdown 2 0, cw := 256 }) fun t =>
      t.radio.cw == 256) = true := by decide

theorem witness_AccessEnds : (withRadio fun r => { r with dueBeacon := some 0 }).radio.dueBeacon = some 0 ∧
    (withRadio fun r => { r with dueTally := some 0 }).radio.dueTally = some 0 ∧
    (leads (.accessLimitExpiry .tally) (withRadio fun r => { r with dueTally := some 0, tx := .quiet none none })
      fun t => t.radio.tx == .idle && t.radio.abandoned == 1) = true ∧
    (leads .transmissionEnd (withRadio fun r => { r with
        tx := .sending ⟨.beacon, [], 9⟩, dueTally := some 5, cd := true }) fun t =>
      t.radio.tx == .quiet none none) = true := by decide

theorem outputs_hoseIn : OutputsFollow (hoseIn .flowing issue true) ∧ OutputsFollow (hoseIn .authorized issue false) ∧
    OutputsFollow joined := by
  unfold OutputsFollow; decide

theorem witness_NozzleChange : joined.store.block = some cfg ∧ cfg.fitted[(0 : Fin 4)] = true ∧
    ((hoseIn .authorized issue false).hose 0).nozzle.active = false ∧
    (hoseIn .authorized issue false).context 0 = some issue ∧
    (hoseIn .authorized issue false).field.stop.active = false ∧
    (hoseIn .authorized issue false).field.pumpRun = false ∧ 0 < cfg.primeTime ∧ 0 < issue.slowPoint ∧
    cfg.primeTime * 100000 ≤ (hoseIn .flowing issue true).field.sincePumpOn ∧
    ((hoseIn .flowing issue true).hose 0).ctl.state.issuing = true ∧
    ((hoseIn .flowing issue true).hose 0).nozzle.active = true ∧
    ((hoseIn .ended issue true).hose 0).ctl.state = .ended ∧ joined.field.matched = true ∧
    (joined.hose 0).ctl.state = .idle ∧ joined.net.state ≠ .standby ∧
    (leads (.nozzleChange 1 true) (hoseIn .authorized issue false) fun t =>
      (t.hose 0).ctl.primeTimer == some 300000 && t.field.pumpRun) = true := by decide

/-- A lifted nozzle at an authorised hose while another hose's pump has run for the prime time. -/
def secondHose : State :=
  { hoseIn .flowing issue true with
    hoses := (hoseIn .flowing issue true).hoses.set 1 { joined.hose 1 with
      ctl := { issuing .authorized { issue with vehicle := 1350 } with mainValve := false, slowValve := false } } }

theorem witness_NozzleChange_second : OutputsFollow secondHose ∧ secondHose.field.pumpRun = true ∧
    cfg.primeTime * 100000 ≤ secondHose.field.sincePumpOn ∧ (secondHose.hose 1).ctl.state = .authorized ∧
    (leads (.nozzleChange 2 true) secondHose fun t => (t.hose 1).ctl.state == .flowing) = true := by
  unfold OutputsFollow; decide

theorem witness_StopLineChange : joined.store.block = some cfg ∧
    (hoseIn .flowing issue true).field.stop.active = false ∧
    ({ joined with field := { joined.field with stop := ⟨true, 0, true⟩ } } : State).field.stop.active = true ∧
    (leads (.stopLineChange true) (hoseIn .flowing issue true) fun t =>
      (t.hose 0).ctl.state == .closing && !(t.hose 0).ctl.slowValve && t.notices.entries[9].pending) = true := by
  decide

/-- A filter whose run count has reached its length brings the change about, and one short of it does not. -/
theorem witness_filters : AtRest joined ∧ OutputsFollow joined ∧
    cfg.nozzleFilter ≤ 30 ∧ cfg.stopFilter ≤ 5 ∧ cfg.meterFilter ≤ 3 ∧
    candidates { joined with field := { joined.field with stop := ⟨false, 5, true⟩ } } =
      [(.stopLineChange true, { joined with field := { joined.field with stop := ⟨false, 5, true⟩ } })] ∧
    candidates { joined with field := { joined.field with stop := ⟨false, 4, true⟩ } } = [] ∧
    (joined.hose 0).meterInput.active = none ∧
    (∀ m ∈ [EdgeMode.rising, .falling, .both], { cfg with edgeMode := Vector.replicate 4 m }.edgeMode[(0 : Fin 4)] = m) := by
  unfold AtRest OutputsFollow; decide

/-- Hose 1 FLOWING, with some of its meter's values given. -/
def metering (delivered fast interval : Nat) : State :=
  (hoseIn .flowing issue true).mapMeter 0 fun m => { m with
    delivered := delivered, fastCount := fast, interval := interval }

theorem witness_IssuePulse : (metering 5 2 0).store.block = some cfg ∧ cfg.fitted[(0 : Fin 4)] = true ∧
    ((metering 5 2 0).hose 0).ctl.state = .flowing ∧ (metering 5 2 0).context 0 = some issue ∧
    ((metering 5 2 0).hose 0).meter.firstPulse = false ∧ 0 < min 65535 (0 + 2) ∧
    cfg.maxFlow[(0 : Fin 4)] * 100 / 60 < cfg.pulseStep[(0 : Fin 4)] * 100000 / (1024 * 2) ∧
    (leads (.meterPulse 1 2) (metering 5 2 0) fun t =>
      (t.hose 0).ctl.state == .closing && (t.hose 0).health.count == 1) = true ∧
    (leads (.meterPulse 1 65535) (metering 299999 2 65535) fun t =>
      (t.context 0).map (·.endReason) == some (some .limit)) = true ∧
    (leads (.meterPulse 1 500) (metering 297999 0 0) fun t => (t.hose 0).ctl.state == .slowing) = true ∧
    (leads (.meterPulse 1 500) (metering 297998 0 0) fun t =>
      (t.hose 0).ctl.state == .flowing && (t.hose 0).ctl.startTimer.isNone) = true := by decide

/-- R119: the third capture over the slow-stage limit with the settle timer elapsed is a fault, none while it runs;
R112: in CLOSING a pulse moves the meter alone; R116: the first pulse since the valves opened keeps the last flow. -/
theorem test_pulse_stages :
    let slowing (settle : Option Nat) : State := (hoseIn .slowing issue true).mapMeter 0 fun m =>
      { m with interval := 0, slowCount := 2, settle := settle }
    (leads (.meterPulse 1 2) (slowing none) fun t =>
      (t.context 0).map (·.endReason) == some (some .fault) && (t.hose 0).health.count == 1) = true ∧
    (leads (.meterPulse 1 2) (slowing (some 1)) fun t =>
      (t.hose 0).ctl.state == .slowing && (t.hose 0).meter.slowCount == 2) = true ∧
    (leads (.meterPulse 1 2) (hoseIn .closing { issue with limit := 1 } true) fun t =>
      (t.hose 0).ctl == ((hoseIn .closing { issue with limit := 1 } true).hose 0).ctl &&
      (t.hose 0).meter.delivered == 1) = true ∧
    (leads (.meterPulse 1 2) ((metering 5 2 0).mapMeter 0 fun m => { m with firstPulse := true, lastFlow := 77 })
      fun t => (t.hose 0).meter.lastFlow == 77 && (t.hose 0).meter.fastCount == 2 &&
        !(t.hose 0).meter.firstPulse) = true := by decide

theorem witness_CreepPulse : joined.store.block = some cfg ∧ cfg.fitted[(1 : Fin 4)] = true ∧
    (joined.hose 1).ctl.state ≠ .flowing ∧ (joined.hose 1).meter.creep = none ∧
    (joined.hose 1).health.frozen = false ∧ (joined.hose 1).health.count < 15 ∧
    (frozenHose.hose 0).health.frozen = true ∧
    (leads (.meterPulse 2 7) joined fun t =>
      (t.hose 1).meter.unattributed == 3 && (t.hose 1).health.count == 1 &&
      (t.hose 1).meter.creep == some 1000000) = true := by decide

theorem witness_StartTimers : ((hoseIn .authorized issue false).hose 0).ctl.authTimer = some 1 ∧
    ((hoseIn .starting issue true).hose 0).ctl.primeTimer = some 1 ∧
    (hoseIn .starting issue true).context 0 = some issue ∧ (hoseIn .starting issue true).field.stop.active = false ∧
    ((hoseIn .starting { issue with slowPoint := 0 } true).hose 0).ctl.state = .starting ∧
    (leads (.authTimerExpiry 1) (hoseIn .authorized issue false) fun t =>
      (t.hose 0).ctl.state == .idle && t.notices.entries[1].pending) = true ∧
    (leads (.primeWaitExpiry 1) (hoseIn .starting { issue with slowPoint := 0 } true) fun t =>
      (t.hose 0).ctl.state == .slowing) = true := by decide

theorem witness_FlowTimers : ((hoseIn .flowing issue true).hose 0).ctl.startTimer = some 1 ∧
    ((hoseIn .slowing issue true).hose 0).ctl.noFlowTimer = some 1 ∧
    (hoseIn .slowing issue true).context 0 = some issue ∧
    (leads (.noFlowTimerExpiry 1) (hoseIn .slowing issue true) fun t =>
      (t.context 0).map (·.endReason) == some (some .noFlow)) = true := by decide

/-- Hose 1 in CLOSING with a volume delivered. -/
def closingWith (delivered : Nat) (lifted : Bool) : State :=
  (hoseIn .closing { issue with endReason := some .limit } lifted).mapMeter 0 fun m => { m with delivered := delivered }

theorem witness_OverrunWindowCompletes : (closingWith 300300 true).store.block = some cfg ∧
    ((closingWith 300300 true).hose 0).ctl.state = .closing ∧
    ((closingWith 300300 true).hose 0).ctl.overrunTimer = some 1 ∧
    (closingWith 300300 true).context 0 = some { issue with endReason := some .limit } ∧
    (closingWith 300300 true).entry 877 = some (withUsage cfg truck) ∧
    amountOf cfg.station (closingWith 300300 true).store.startTag (withUsage cfg truck).origins = some 100 ∧
    0 < ((closingWith 300300 true).hose 0).meter.delivered ∧ 0 < (closingWith 300300 true).records.reservations ∧
    (closingWith 300300 true).records.next ≤ 65535 ∧ 300300 - 300000 ≤ cfg.overrunAllowance * 10 ∧
    (leads (.overrunWindowExpiry 1) (closingWith 300300 true) fun t =>
      (t.hose 0).ctl.state == .ended && (t.hose 0).health.accumulator == 300300 &&
      (t.entry 877).map (fun e => e.origins) == some [⟨5, 7, 300400⟩]) = true ∧
    (leads (.overrunWindowExpiry 1) (closingWith 300301 false) fun t =>
      (t.hose 0).ctl.state == .idle && (t.hose 0).health.count == 1) = true := by decide

/-- Hose 1 in CLOSING, the entry of its vehicle with an origin list of its own. -/
def closingOn (origins : List OriginEntry) (reason : EndReason) (delivered : Nat) : State :=
  { (hoseIn .closing { issue with endReason := some reason } true).mapMeter 0 fun m =>
      { m with delivered := delivered } with
    view := { joined.view with entries := [withUsage cfg { truck with origins := origins }] } }

/-- R11 with nothing delivered, with the own entry absent and room, and with a full list; R150: an overrun over the
allowance and NO_START make one event each. -/
theorem test_completions :
    (leads (.overrunWindowExpiry 1) (closingOn sixteen .stop 0) fun t =>
      t.view.originFull == 0 && t.radio.queue == [] && t.records.records.length == 1) = true ∧
    (leads (.overrunWindowExpiry 1) (closingOn [⟨9, 1, 5⟩] .stop 7) fun t =>
      (t.entry 877).map (·.origins) == some [⟨5, 7, 7⟩, ⟨9, 1, 5⟩] && t.radio.queue == [⟨877, 0⟩]) = true ∧
    (leads (.overrunWindowExpiry 1) (closingOn sixteen .stop 7) fun t =>
      t.view.originFull == 1 && (t.entry 877).map (·.origins) == some sixteen && t.radio.queue == []) = true ∧
    (leads (.overrunWindowExpiry 1) (closingOn [] .noStart 300301) fun t => (t.hose 0).health.count == 2) = true := by
  decide

theorem witness_DeliveredFromPulses : ∃ m', m' = [5, 9].foldl (fun k n => k.countPulse 1536 n) Meter.powerOn.startIssue ∧
    m'.delivered = 3 ∧ m'.fraction = 512 := ⟨_, rfl, by decide⟩

theorem witness_EventsThatDoNotArise : joined.fitted 3 = false ∧ (joined.hose 0).nozzle.active = false ∧
    joined.field.stop.active = false ∧ (joined.hose 0).ctl.authTimer = none ∧
    joined.net.peers[(0 : Fin 16)].missTimer = none ∧ joined.net.listen = none ∧ fresh.clock.set = false ∧
    fresh.radio.schedule = none ∧ fresh.radio.gapClock = none ∧ joined.radio.tx = .idle ∧
    joined.radio.cd = false ∧ joined.radio.dueBeacon = none ∧ joined.radio.dueTally = none ∧
    fresh.net.state = .standby ∧ (withRadio fun r => { r with cd := true }).radio.cd = true := by decide

/-! ### A station in which every relation holds -/

theorem inRange_cfg : cfg.inRange := by
  unfold ConfigBlock.inRange within
  refine ⟨?_, ?_, ?_, ?_, ?_, ?_, ?_, ?_, ?_, ?_, ?_, ?_, ?_, ?_, ?_, ?_, ?_, ?_, ?_, ?_, ?_, ?_, ?_, ?_, ?_, ?_,
    ?_, ?_, ?_, ?_, ?_, ?_, ?_, ?_, ?_⟩
  all_goals first
    | decide
    | (unfold ClassConfig.inRange within; decide)
    | skip
  intro j k hjk v hv
  by_contra h
  rw [Bool.not_eq_false] at h
  revert hjk hv h
  simp only [ClassConfig.covers, Bool.and_eq_true, decide_eq_true_eq, Bool.not_eq_true', Bool.and_eq_false_iff,
    beq_eq_false_iff_ne]
  fin_cases j <;> fin_cases k <;> simp [cfg, truckClass] <;> omega

/-- A station with an issue flowing, its next command a reading of its status. -/
def safeStation : State := { hoseIn .flowing issue true with pending := [.readStatus] }

theorem configSound_safeStation : ConfigSound safeStation := by
  refine ⟨?_, by decide, by unfold within; decide⟩
  intro c hc
  have e : safeStation.store.block = some cfg := rfl
  rw [e] at hc
  exact Option.some.inj hc ▸ inRange_cfg

theorem viewOrdered_safeStation : ViewOrdered safeStation := by
  refine ⟨by decide, by decide, ?_⟩
  intro e he
  have h : safeStation.view.entries = [withUsage cfg truck] := rfl
  rw [h, List.mem_singleton] at he
  subst he
  exact ⟨⟨by decide, by decide⟩, cfg, rfl, by decide, by decide⟩

theorem clockSound_safeStation : ClockSound safeStation :=
  ⟨fun _ => ⟨cfg, rfl, by decide⟩, by decide, by decide, by decide⟩

theorem peersSound_safeStation : PeersSound safeStation := by
  refine ⟨?_, ?_, by decide, by decide, by decide, by decide⟩
  · intro i
    have h : i = 8 ∨ safeStation.net.peers[i] = Peer.cleared := by revert i; decide
    rcases h with rfl | h
    · exact witness_peers_sound.1
    · rw [h]; exact witness_peers_sound.2.2.2.1
  · intro c hc i hi
    have e : safeStation.store.block = some cfg := rfl
    rw [e] at hc
    obtain rfl := Option.some.inj hc
    revert i; decide

theorem radioSound_safeStation : RadioSound safeStation := by
  refine ⟨by decide, by intro q hq; exact absurd hq (by decide +revert), by decide, ?_, by decide⟩
  intro f hf
  exact absurd hf (by simp [safeStation, hoseIn, joined, runningIn, standing, fresh, State.powerOn])

theorem watchSound_safeStation : WatchSound safeStation := by
  have e : safeStation.store.block = some cfg := rfl
  simp only [WatchSound, e]
  unfold WatchExact WatchMember.before
  decide

/-- A station that meets the premises of every invariant, with a step to take. -/
theorem witness_StepKeeps : Safe safeStation ∧ ∃ t, step safeStation = .next t := by
  refine ⟨⟨configSound_safeStation, ?_, ?_, ?_, ?_, viewOrdered_safeStation, clockSound_safeStation,
    peersSound_safeStation, radioSound_safeStation, watchSound_safeStation, ?_⟩, ⟨_, rfl⟩⟩
  · exact outputs_hoseIn.1
  · unfold IssuesAccounted; decide
  · unfold HealthSound; decide
  · unfold NoticesTrue; decide
  · unfold GuardSound; decide

theorem witness_ClockNeverBack : safeStation.clock.set = true ∧ Instr.shiftClockSecond ≠ .powerOn ∧
    isLoadConfig .shiftClockSecond = false ∧ (∃ t, exec .shiftClockSecond safeStation = .next t) :=
  ⟨by decide, by decide, by decide, ⟨_, rfl⟩⟩

theorem witness_OrderedFieldsNeverFall : safeStation.entry 877 = some (withUsage cfg truck) ∧
    Instr.barVehicle 877 ≠ .powerOn ∧ isLoadConfig (.barVehicle 877) = false ∧
    (∃ t, exec (.barVehicle 877) safeStation = .next t) := ⟨by decide, by decide, by decide, ⟨_, rfl⟩⟩

theorem witness_FrozenContext : (safeStation.hose 0).ctl.state ≠ .idle ∧ safeStation.context 0 = some issue ∧
    (leads (.stopHose 1) safeStation fun t => t.context 0 == some { issue with endReason := some .stop }) = true := by
  decide

/-- A tally of the present shift and of the next one, for vehicle 877 and for one not yet in the view. -/
theorem witness_TallyMerged : safeStation.net.state ≠ .standby ∧ safeStation.radio.tx = .idle ∧
    safeStation.store.block = some cfg ∧
    (tallyOf 812 { truck with origins := [⟨5, 7, 99⟩, ⟨9, 1, 50⟩] }).inRange cfg.shiftLength = true ∧
    (tallyOf 813 truck).inRange cfg.shiftLength = true ∧ (tallyOf 811 truck).inRange cfg.shiftLength = true ∧
    classOf cfg 877 = some 2 ∧ classOf cfg 878 = some 2 ∧ safeStation.entry 878 = none ∧
    safeStation.view.entries.length < 256 ∧ safeStation.entryOrNew 877 2 = withUsage cfg truck ∧
    (leads (.tally 9 (tallyOf 812 { truck with origins := [⟨5, 7, 99⟩, ⟨9, 1, 50⟩] })) safeStation fun t =>
      (t.entry 877).map (·.origins) == some [⟨5, 7, 100⟩, ⟨9, 1, 50⟩]) = true ∧
    (leads (.tally 9 (tallyOf 813 truck)) safeStation fun t =>
      (t.entry 877).map (·.origins) == some [⟨5, 7, 100⟩] && t.clock.pos == ⟨813, 0⟩) = true := by decide

theorem witness_TallyMerged_sound : ConfigSound safeStation ∧ ViewOrdered safeStation ∧
    TallyCovers 812 (tallyOf 812 truck) (withUsage cfg truck) := by
  refine ⟨configSound_safeStation, viewOrdered_safeStation, by decide, by decide, ?_, ?_, by decide, by decide⟩
  · intro l hl; exact ⟨_, rfl, by cases hl; decide⟩
  · intro l hl; cases hl

/-- An unchanged, covering tally raises the cover count (R95); a bar that it brings ends the issue (R22). -/
theorem test_tally_cover_and_bar :
    (leads (.tally 9 (tallyOf 812 truck)) (safeStation.mapRadio fun r => { r with queue := [⟨877, 0⟩] }) fun t =>
      t.radio.queue == [⟨877, 1⟩]) = true ∧
    (leads (.tally 9 (tallyOf 812 truck)) (safeStation.mapRadio fun r => { r with queue := [⟨877, 1⟩] }) fun t =>
      t.radio.queue == []) = true ∧
    (leads (.tally 9 (tallyOf 812 { truck with bar := ⟨true, 1, 9⟩ })) safeStation fun t =>
      (t.context 0).map (·.endReason) == some (some .barred) && t.radio.queue == [⟨877, 0⟩]) = true := by decide

theorem witness_FramesReadBack : (tallyOf 812 truck).inRange 43200 = true ∧
    beaconInRange 86400 ⟨16777215, 86399⟩ 60 = true ∧ beaconInRange 3600 ⟨0, 0⟩ 5 = true := by decide

/-- Preamble, sync word and the body of a beacon, bit by bit; a length of 199 is dropped. -/
theorem test_radio_receiver :
    takeBits 43200 (.hunt 0) (([0x55#8, 0x55#8, 0x55#8, 0x55#8, 0xB3#8, 0x4E#8] ++
      beaconBody 9 ⟨812, 20500⟩ 10).flatMap bitsOf) = (.hunt 0, [.beacon 9 ⟨812, 20500⟩ 10]) ∧
    takeBits 43200 (.hunt 0) (([0xB3#8, 0x4E#8, 0xC7#8] : List Byte).flatMap bitsOf) =
      (.hunt 0, [.drop .length]) := by decide +kernel

/-! ### What has come about, field checks, and the events at a hose -/

/-- R67: a radio frame and a link request of the same tick may be taken in either order; frames of one line keep
their order. -/
theorem test_two_lines_offered :
    (candidates { joined with model := { joined.model with
      arrived := [.radioFrameDrop .crc, .beacon 9 ⟨812, 20001⟩ 10, .readStatus] } }).map (fun x =>
        (x.1, x.2.model.arrived)) =
      [(.radioFrameDrop .crc, [.beacon 9 ⟨812, 20001⟩ 10, .readStatus]),
       (.readStatus, [.radioFrameDrop .crc, .beacon 9 ⟨812, 20001⟩ 10])] := by decide

/-- R172: the lowest index is named; a shift length not a multiple of 60, a class range upside down, classes that
overlap, a tank below the minimum issue, a mask beyond hose 4; a field of bytes FFh takes its default. -/
theorem test_fields_named :
    partsFailure (bytesOf (blockFields.take 47) ((values1.set 39 43201).set 5 0)) bytes2 = some 6 ∧
    partsFailure (bytesOf (blockFields.take 47) (values1.set 39 43201)) bytes2 = some 40 ∧
    partsFailure bytes1 (bytesOf (blockFields.drop 47) (values2.set 13 100)) = some 62 ∧
    partsFailure bytes1 (bytesOf (blockFields.drop 47) (values2.set 14 100)) = some 74 ∧
    partsFailure bytes1 (bytesOf (blockFields.drop 47) (values2.set 16 9)) = some 64 ∧
    partsFailure (bytesOf (blockFields.take 47) (values1.set 1 16)) bytes2 = some 2 ∧
    partsFailure (bytesOf (blockFields.take 47) (values1.set 0 255)) bytes2 = some 1 ∧
    partsFailure (bytesOf (blockFields.take 47) (values1.set 39 (256 ^ 3 - 1))) bytes2 = none ∧
    (configOfParts (bytesOf (blockFields.take 47) (values1.set 4 255)) bytes2).stopFilter = 5 := by decide +kernel

theorem witness_LoadConfigParts_named :
    FieldNamed (bytesOf (blockFields.take 47) (values1.set 39 43201)) bytes2 40 ∧
    (configOfParts bytes1 bytes2).inRange ∧ fieldValue bytes1 bytes2 2 ≤ 15 ∧ fieldValue bytes1 bytes2 3 ≤ 511 ∧
    (∀ h : Fin 4, fieldValue bytes1 bytes2 (11 + h.val) ≤ 2) :=
  ⟨.inr (.inl ⟨rfl, by decide +kernel⟩), by rw [test_config_bytes.2.2.2]; exact inRange_cfg,
    by decide +kernel, by decide +kernel, by decide +kernel⟩

/-- JOINED with a gap clock, and with vehicles queued. -/
def gapAt (n : Nat) (queue : List QueueItem) (active : Nat) : State :=
  { withRadio (fun r => { r with gapClock := some n, queue := queue }) with
    net := { joined.net with peers := Vector.ofFn fun i : Fin 16 =>
      if i.val < active then heardPeer else Peer.cleared } }

/-- R88 with the defaults of section 5.6: 750 ms between queued tallies for a station that hears two peers, and a
refresh each 9 s with the queue empty; 250 ms for one that hears none. -/
theorem test_tally_falls_due :
    ComesAbout .tallyDue (gapAt 75000 [⟨877, 0⟩] 2) ∧ ¬ ComesAbout .tallyDue (gapAt 74999 [⟨877, 0⟩] 2) ∧
    ComesAbout .tallyDue (gapAt 900000 [] 2) ∧ ¬ ComesAbout .tallyDue (gapAt 899999 [] 2) ∧
    ComesAbout .tallyDue (gapAt 25000 [⟨877, 0⟩] 0) ∧ ¬ ComesAbout .tallyDue (gapAt 24999 [⟨877, 0⟩] 0) := by
  unfold ComesAbout; decide +kernel

/-- At rest the running timers of a hose in FLOWING, of a peer, of the schedule and of an access limit lose a tick. -/
theorem test_timers_tick :
    AtRest (metering 5 0 9) ∧
    (match step ((metering 5 0 9).mapRadio fun r => { r with dueBeacon := some 7, tx := .countdown 3 500 }) with
      | .next t => (t.hose 0).ctl.startTimer == some 0 && (t.hose 0).ctl.noFlowTimer == some 0 &&
          t.net.peers[8].missTimer == some 899999 && t.radio.schedule == some 4 &&
          t.radio.dueBeacon == some 6 && t.radio.tx == .countdown 3 499 && t.clock.phase == 1 &&
          (t.hose 0).meter.interval == 10
      | _ => false) = true := by
  unfold AtRest; decide +kernel

/-- Timers that have run out: each expiry has come about; one with a tick left has not. -/
theorem test_timers_run_out :
    let out : State := (hoseIn .flowing issue true).mapHose 0 fun y =>
      { y with ctl := { y.ctl with startTimer := some 0 } }
    let closing : State := (hoseIn .closing issue true).mapHose 0 fun y =>
      { y with ctl := { y.ctl with overrunTimer := some 0 } }
    ComesAbout (.startTimerExpiry 1) out ∧ ¬ ComesAbout (.noFlowTimerExpiry 1) out ∧
    ComesAbout (.overrunWindowExpiry 1) closing ∧
    ComesAbout (.missTimerExpiry 9) (runningIn .joined { heardPeer with missTimer := some 0 }) ∧
    ComesAbout .beaconDue (withRadio fun r => { r with schedule := some 0 }) ∧
    ComesAbout (.accessLimitExpiry .tally) (withRadio fun r => { r with dueTally := some 0 }) ∧
    ComesAbout .quietTimePassed (withRadio fun r => { r with tx := .quiet (some 0) none }) ∧
    ¬ ComesAbout .backoffSlotEnd (withRadio fun r => { r with tx := .countdown 3 0, cd := true }) ∧
    ComesAbout .shiftClockSecond { joined with clock := { joined.clock with phase := 100000 } } := by
  unfold ComesAbout; decide +kernel

/-- R164: the response of STANDBY refused HOSES_ACTIVE, byte by byte; seven bytes take 607.6 µs, so 61 ticks. -/
theorem test_response_envelope :
    responseFrame ⟨0x03, .hosesActive, []⟩ = [0xC3#8, 0x02#8, 0x03#8, 0x05#8] ++ crcField [0x02#8, 0x03#8, 0x05#8] ∧
    (responseFrame ⟨0x04, .ok, [0x02#8]⟩).length = 7 ∧
    (let held (n : Nat) : State := { joined with link := { joined.link with
        responses := [⟨0x04, .ok, [0x02#8]⟩], sending := n } }
     ComesAbout .responseSentWhole (held 61) ∧ ¬ ComesAbout .responseSentWhole (held 60)) := by
  unfold ComesAbout; decide +kernel

/-- R82: bodies dropped for their CRC, kind, station, length for the kind and field range, in this order. -/
theorem test_bodies_dropped :
    let body (len station kind : Byte) (rest : List Byte) : List Byte :=
      len :: station :: kind :: rest ++ crcField (len :: station :: kind :: rest)
    let beacon : List Byte := [0x00#8, 0x03#8, 0x2C#8, 0x00#8, 0x4E#8, 0x20#8, 0x0A#8]
    checkBody 43200 (0x09#8 :: 0x11#8 :: 0x62#8 :: beacon ++ [0#8, 0#8]) = .drop .crc ∧
    checkBody 43200 (body 0x09#8 0x11#8 0x62#8 beacon) = .drop .kind ∧
    checkBody 43200 (body 0x03#8 0x11#8 0x61#8 [0x00#8]) = .drop .station ∧
    checkBody 43200 (body 0x03#8 0x09#8 0x61#8 [0x00#8]) = .drop .lengthForKind ∧
    checkBody 20000 (body 0x09#8 0x09#8 0x61#8 beacon) = .drop .fieldRange ∧
    checkBody 20001 (body 0x09#8 0x09#8 0x61#8 beacon) = .beacon 9 ⟨812, 20000⟩ 10 := by decide +kernel

/-- A command with a station outside 1..16, a position past the shift or an interval of 4 s or 61 s is malformed. -/
theorem test_malformed_commands :
    [Instr.beacon 0 ⟨812, 20001⟩ 10, .beacon 17 ⟨812, 20001⟩ 10, .beacon 9 ⟨812, 43200⟩ 10, .beacon 9 ⟨812, 0⟩ 4,
      .beacon 9 ⟨812, 0⟩ 61, .tally 0 (tallyOf 812 truck), .tally 17 (tallyOf 812 truck)].all (fun i =>
        leads i joined fun t => t == { joined with radio := { joined.radio with malformed := 1 } }) = true := by
  decide +kernel

/-- R12: a tally one shift ahead rolls the clock over before it is dropped, of no class or meeting a full view. -/
theorem test_dropped_tally_ahead :
    (leads (.tally 9 (tallyOf 813 { truck with number := 4095 })) joined fun t =>
      t.clock.pos == ⟨813, 0⟩ && t.view.noClass == 1 && t.net.peers[8].frames == 1) = true ∧
    (leads (.tally 9 (tallyOf 813 { truck with number := 878 })) fullView fun t =>
      t.clock.pos == ⟨813, 0⟩ && t.view.viewFull == 1 && t.view.entries.all (·.origins.isEmpty)) = true := by
  decide +kernel

/-- A beacon that leads a held clock within a longer shift length leaves it (notes/assumptions/13.md). -/
theorem test_held_clock :
    let held : State := { joined with clock := { joined.clock with pos := ⟨16777215, 43100⟩, held := true } }
    clockLead 43200 ⟨16777215, 43150⟩ ⟨16777215, 43100⟩ = 50 ∧
    (leads (.beacon 9 ⟨16777215, 43150⟩ 10) held fun t => t.clock == held.clock && t.net.peers[8].frames == 1) =
      true := by decide

/-- R145 at the first creep pulse that brings a count to its threshold, in each state it may find. -/
theorem test_creep_freezes :
    let creeping (st : HoseState) : State := (hoseIn st issue (st == .starting)).mapHose 0 fun y =>
      { y with health := { y.health with count := 5 }, meter := { y.meter with creep := none } }
    (leads (.meterPulse 1 7) (creeping .authorized) fun t =>
      (t.hose 0).ctl.state == .outOfService && (t.context 0).isNone && t.records.reservations == 0) = true ∧
    (leads (.meterPulse 1 7) (creeping .starting) fun t =>
      (t.hose 0).ctl.state == .closing && (t.context 0).map (·.endReason) == some (some .fault)) = true ∧
    (leads (.meterPulse 1 7) (creeping .ended) fun t =>
      (t.hose 0).ctl.state == .ended && (t.hose 0).health.frozen && t.notices.entries[8].condition) = true ∧
    (leads (.meterPulse 2 7) (joined.mapHose 1 fun y => { y with health := { y.health with count := 5 } }) fun t =>
      (t.hose 1).ctl.state == .outOfService) = true := by decide +kernel

/-- R135: a lift with the prime time run and a slow point of 0 goes on into SLOWING; R105: a lift in OUT_OF_SERVICE
is an offence. -/
theorem test_lifts :
    (leads (.nozzleChange 2 true) (secondHose.mapHose 1 fun y => { y with ctl := { y.ctl with
        context := some { issue with vehicle := 1350, slowPoint := 0 } } }) fun t =>
      (t.hose 1).ctl.state == .slowing && (t.hose 1).ctl.slowValve && !(t.hose 1).ctl.mainValve &&
      (t.hose 1).meter.settle == some 300000) = true ∧
    (leads (.nozzleChange 1 true) (frozenHose.mapHose 0 fun y =>
        { y with ctl := { y.ctl with state := .outOfService } }) fun t => (t.hose 0).guardCount == 1 && t.notices.entries[2].pending) = true := by decide +kernel

/-- A pulse in CLOSING is an issue pulse, and last flow follows it (notes/assumptions/35.md): at 1,024/1,024 cL a
pulse and 2 ticks between pulses, 50,000 cL/s. -/
theorem test_closing_flow :
    (leads (.meterPulse 1 2) ((hoseIn .closing issue true).mapMeter 0 fun m =>
      { m with firstPulse := false, interval := 0, lastFlow := 77 }) fun t => (t.hose 0).meter.lastFlow == 50000) =
      true := by decide

/-- The states of the lifts meet the hypotheses of NozzleChange, and the tallies one shift ahead those of
FramesDropped. -/
theorem witness_lifts_and_drops :
    OutputsFollow (secondHose.mapHose 1 fun y => { y with ctl := { y.ctl with
      context := some { issue with vehicle := 1350, slowPoint := 0 } } }) ∧
    OutputsFollow (frozenHose.mapHose 0 fun y => { y with ctl := { y.ctl with state := .outOfService } }) ∧
    (frozenHose.hose 0).nozzle.active = false ∧ frozenHose.field.matched = true ∧ frozenHose.net.state ≠ .standby ∧
    (tallyOf 813 { truck with number := 4095 }).inRange cfg.shiftLength = true ∧
    (tallyOf 813 { truck with number := 878 }).inRange cfg.shiftLength = true ∧
    (813 : Nat) = joined.clock.pos.shift + 1 ∧ (813 : Nat) = fullView.clock.pos.shift + 1 ∧
    (8 : Fin 16).val + 1 ≠ cfg.station := by
  unfold OutputsFollow; decide +kernel

/-! ### The guard, completions at RESTART, shift changes by a frame, WATCH_CHANGED -/

/-- R105: a lift in IDLE unmatches a sound guard, a hang makes it matched again and raises nothing; a second lift at
another hose counts nothing. -/
theorem test_guard_matches_again :
    let offending : State := { joined.mapHose 0 fun y => { y with nozzle := { y.nozzle with active := true } } with
      field := { joined.field with matched := false } }
    GuardSound joined ∧ GuardSound offending ∧ offending.net.state ≠ .standby ∧
    (leads (.nozzleChange 1 false) offending fun t =>
      t.field.matched && t.notices == offending.notices && (t.hose 0).guardCount == 0) = true ∧
    (leads (.nozzleChange 2 true) offending fun t => !t.field.matched && (t.hose 1).guardCount == 0) = true := by
  unfold GuardSound; decide +kernel

/-- R138: a hang and a lift in CLOSING leave the hose in CLOSING with its context. -/
theorem test_nozzle_in_closing :
    GuardSound (hoseIn .closing issue true) ∧ OutputsFollow (hoseIn .closing issue true) ∧
    OutputsFollow (hoseIn .closing issue false) ∧
    (leads (.nozzleChange 1 false) (hoseIn .closing issue true) fun t =>
      (t.hose 0).ctl == ((hoseIn .closing issue true).hose 0).ctl && !(t.hose 0).nozzle.active) = true ∧
    (leads (.nozzleChange 1 true) (hoseIn .closing issue false) fun t => (t.hose 0).nozzle.active) = true := by
  unfold GuardSound OutputsFollow; decide +kernel

/-- R146: an issue in CLOSING with reason NO_START is completed with reason RESTART: charged, recorded and dripped,
and no health event; an overrun over the allowance is one. -/
theorem test_restart_completions :
    IssuesAccounted (closingWith 300300 true) ∧ OutputsFollow (closingWith 300300 true) ∧
    (closingWith 300300 true).completesAtRestart 0 = true ∧
    (leads .restart (closingOn [] .noStart 700) fun t =>
      (t.hose 0).health == ⟨0, false, 700⟩ && (t.entry 877).map (·.origins) == some [⟨5, 7, 700⟩] &&
      t.records.records == [restartRecord (closingOn [] .noStart 700) 0 0 { issue with endReason := some .noStart }] &&
      t.radio.queue == []) = true ∧
    (leads .restart (closingOn sixteen .stop 300301) fun t =>
      (t.hose 0).health.count == 1 && t.view.originFull == 1 && (t.hose 0).ctl.state == .ended) = true := by
  unfold IssuesAccounted OutputsFollow; decide +kernel

/-- The full list of the completion above leaves no place, and an empty one does. -/
theorem witness_RestartRequest_charges :
    (withUsage cfg { truck with origins := sixteen }).noPlace cfg.station joined.store.startTag ∧
    ¬ (withUsage cfg truck).noPlace cfg.station joined.store.startTag ∧
    ([0] : List (Fin 4)).Nodup := by
  unfold VehicleEntry.noPlace; decide

/-- R51 at a shift change by a beacon and by a tally: the staged allowance is made active and removed. -/
theorem test_staged_at_frames :
    let st : State := { clockAt ⟨812, 43195⟩ with clock := { (clockAt ⟨812, 43195⟩).clock with
      staged := (Vector.replicate 8 none).set 2 (some 77) } }
    [Instr.beacon 9 ⟨813, 0⟩ 10, .tally 9 (tallyOf 813 truck)].all (fun i => leads i st fun t =>
      t.clock.active == st.clock.active.set 2 77 && t.clock.staged == Vector.replicate 8 none &&
      t.clock.pos == ⟨813, 0⟩) = true ∧
    (leads (.beacon 9 ⟨812, 43199⟩ 10) st fun t => t.clock.pos == ⟨812, 43199⟩ && t.clock.staged == st.clock.staged) =
      true := by decide +kernel

/-- R42: a tally whose hours bring a vehicle to the warn point puts it on the list and raises WATCH_CHANGED; a rise of
its usage in place raises nothing. -/
theorem test_watch_changed :
    let run (h : Nat) (s : State) : State :=
      match exec (.tally 9 { tallyOf 812 truck with hours := some ⟨h, ⟨812, 0⟩⟩ }) s with
      | .next t => t
      | _ => s
    let s1 := run 2250 joined
    let s2 := run 2260 { s1 with notices := joined.notices }
    joined.watch.members = [] ∧ s1.watch.members.map (·.vehicle) = [877] ∧ s1.notices.entries[4].pending = true ∧
    s2.watch.members.map (·.usage) = [904] ∧ s2.notices.entries[4].pending = false := by decide +kernel

/-- R56: a LOAD_CONFIG with a shorter shift takes the clock to the next shift, and not back. -/
theorem test_clock_under_config :
    let s : State := { (holding none (some bytes2)) with
      clock := { joined.clock with pos := ⟨812, 20000⟩ } }
    s.clock.pos.shift < 16777215 ∧ s.clock.held = false ∧
    (leads (.loadConfig 1 (bytesOf (blockFields.take 47) (values1.set 39 3600))) s fun t =>
      t.clock.pos == ⟨813, 0⟩) = true := by decide +kernel

/-- A pulse given at an input with no first sample is counted (notes/assumptions/36.md). -/
theorem test_pulse_before_first_sample :
    let s : State := { joined with store := { joined.store with
      block := some { cfg with edgeMode := Vector.replicate 4 .both } } }
    (s.hose 0).meterInput.active = none ∧
    (leads (.meterPulse 1 5) s fun t => (t.hose 0).meterInput.active == some true &&
      (t.hose 0).meter.unattributed == 1) = true := by decide +kernel

end Sys2Proof.Machine.Tests
end

-- Proofs of the family 02_service_intervals: the Notice Table, the watch list, PRESENT_VEHICLE's refusals, the
-- arithmetic of service intervals, RECORD_SERVICE and READ_WATCH_LIST.

section
/-! Proofs of the family 02_service_intervals. What the Notice Table, the watch list and the notice of the watch list
rest on, and which operations leave it as it stands. -/

namespace Sys2Proof.Machine.ServiceIntervals

open Sys2Proof Sys2Proof.Machine

/-! ### The Notice Table and its sources -/

/-- A notice entry obeys R168 and R170: a disabled one is neither pending nor awaiting, and only a condition awaits. -/
def EntrySound (i : Fin 12) (e : NoticeEntry) : Prop :=
  (e.enabled = false → e.pending = false ∧ e.awaiting = false) ∧ (e.awaiting = true → 8 ≤ i.val)

/-- The Notice Table by itself: the attention output follows the pending flags and each entry is sound. -/
def TableSound (n : NoticeBlock) : Prop :=
  n.attention = anyTable n.entries (·.pending) ∧ ∀ i : Fin 12, EntrySound i n.entries[i]

/-- What is true of the source with an index; an occurrence holds nothing. -/
def sourceValue (s : State) : Nat → Bool
  | 8 => anyTable s.hoses (·.health.frozen)
  | 9 => s.field.stop.active
  | 10 => !s.records.records.isEmpty
  | 11 => s.overdueShown
  | _ => false

/-- The notices are true but perhaps for the condition of entry `k`, which is still to be reported. -/
def NoticesTrueBut (k : Fin 12) (s : State) : Prop :=
  TableSound s.notices ∧ ∀ i : Fin 12, i ≠ k → s.notices.entries[i].condition = sourceValue s i

theorem anyTable_iff {α : Type} {n : Nat} (v : Vector α n) (p : α → Bool) :
    anyTable v p = true ↔ ∃ i : Fin n, p v[i] = true := by
  simp only [anyTable, List.any_eq_true, Vector.mem_toList_iff, Vector.mem_iff_getElem]
  constructor
  · rintro ⟨x, ⟨i, hi, rfl⟩, hx⟩; exact ⟨⟨i, hi⟩, hx⟩
  · rintro ⟨i, hi⟩; exact ⟨_, ⟨i.1, i.2, rfl⟩, hi⟩

theorem forall_source (p : Fin 12 → Prop) :
    (∀ i, p i) ↔ (∀ i : Fin 12, i.val < 8 → p i) ∧ p 8 ∧ p 9 ∧ p 10 ∧ p 11 := by
  refine ⟨fun h => ⟨fun i _ => h i, h 8, h 9, h 10, h 11⟩, fun ⟨h, h8, h9, h10, h11⟩ i => ?_⟩
  have cases : i.val < 8 ∨ i = 8 ∨ i = 9 ∨ i = 10 ∨ i = 11 := by omega
  rcases cases with hi | rfl | rfl | rfl | rfl
  · exact h i hi
  · exact h8
  · exact h9
  · exact h10
  · exact h11

/-- An occurrence has no source whose value it would hold. -/
theorem sourceValue_occurrence (s : State) {i : Nat} (hi : i < 8) : sourceValue s i = false := by
  interval_cases i <;> rfl

/-- The notices are true when the table is sound and each entry holds the value of its source. -/
theorem noticesTrue_iff (s : State) : NoticesTrue s ↔
    TableSound s.notices ∧ ∀ i : Fin 12, s.notices.entries[i].condition = sourceValue s i := by
  have occurrences : (∀ i : Fin 12, i.val < 8 → s.notices.entries[i].condition = sourceValue s i) ↔
      ∀ i : Fin 12, i.val < 8 → s.notices.entries[i].condition = false := by
    refine forall_congr' fun i => imp_congr_right fun hi => ?_
    rw [sourceValue_occurrence s hi]
  have hoseOut : s.notices.entries[8].condition = sourceValue s 8 ↔
      (s.notices.entries[8].condition = true ↔ ∃ h : Fin 4, (s.hose h).health.frozen = true) := by
    rw [Bool.eq_iff_iff, ← anyTable_hoses s (·.health.frozen)]; rfl
  have waiting : s.notices.entries[10].condition = sourceValue s 10 ↔
      (s.notices.entries[10].condition = true ↔ s.records.records ≠ []) := by
    rw [Bool.eq_iff_iff]; simp [sourceValue]
  have attention : s.notices.attention = anyTable s.notices.entries (·.pending) ↔
      (s.notices.attention = true ↔ ∃ i : Fin 12, s.notices.entries[i].pending = true) := by
    rw [Bool.eq_iff_iff, anyTable_iff]
  rw [forall_source, occurrences]
  simp only [NoticesTrue, TableSound, EntrySound, forall_and, attention, ← hoseOut, ← waiting, and_assoc]
  rfl

theorem noticesTrueBut_of_true {s : State} (k : Fin 12) (h : NoticesTrue s) : NoticesTrueBut k s :=
  have ⟨table, sources⟩ := (noticesTrue_iff s).mp h
  ⟨table, fun i _ => sources i⟩

/-! ### Entries -/

theorem entrySound_raised {i : Fin 12} {e : NoticeEntry} (h : EntrySound i e) : EntrySound i e.raised := by
  refine ⟨fun hd => ?_, h.2⟩
  obtain ⟨hp, ha⟩ := h.1 hd
  exact ⟨by simpa [NoticeEntry.raised, hp] using hd, ha⟩

theorem entrySound_reported {i : Fin 12} {e : NoticeEntry} (b : Bool) (h : EntrySound i e) :
    EntrySound i (e.reported b) := by
  refine ⟨fun hd => ?_, h.2⟩
  obtain ⟨hp, ha⟩ := h.1 hd
  have hd' : e.enabled = false := hd
  exact ⟨by simp [NoticeEntry.reported, hp, hd'], ha⟩

theorem entrySound_read {i : Fin 12} {e : NoticeEntry} (h : EntrySound i e) : EntrySound i (readEntry i e) := by
  refine ⟨fun hd => ⟨rfl, ?_⟩, fun ha => ?_⟩
  · obtain ⟨hp, ha⟩ := h.1 hd
    simp [readEntry, hp, ha]
  · simp only [readEntry, isCondition, Bool.or_eq_true, Bool.and_eq_true, decide_eq_true_eq] at ha
    exact ha.elim h.2 And.left

theorem entrySound_ack {i : Fin 12} {e : NoticeEntry} (h : EntrySound i e) : EntrySound i (ackEntry i e) := by
  unfold ackEntry
  split
  · refine ⟨fun hd => ?_, fun ha => by simp at ha⟩
    obtain ⟨hp, -⟩ := h.1 hd
    have hd' : e.enabled = false := hd
    simp [hp, hd']
  · exact h

theorem entrySound_enable {i : Fin 12} {e : NoticeEntry} (on : Bool) (h : EntrySound i e) :
    EntrySound i (enableEntry i on e) := by
  unfold enableEntry
  split
  · exact ⟨fun _ => ⟨rfl, rfl⟩, fun ha => by simp at ha⟩
  · exact ⟨fun hd => by simp at hd, h.2⟩
  · exact h

theorem entrySound_restart {i : Fin 12} {e : NoticeEntry} : EntrySound i (restartEntry i e) := by
  refine ⟨fun hd => ?_, fun ha => by simp [restartEntry] at ha⟩
  have hd' : e.enabled = false := hd
  simp [restartEntry, hd']

theorem condition_ack (i : Fin 12) (e : NoticeEntry) : (ackEntry i e).condition = e.condition := by
  unfold ackEntry; split <;> rfl

theorem condition_enable (i : Fin 12) (on : Bool) (e : NoticeEntry) :
    (enableEntry i on e).condition = e.condition := by
  unfold enableEntry; split <;> rfl

/-- One entry rewritten soundly leaves the table sound. -/
theorem tableSound_mapNotice {s : State} {i : Fin 12} {f : NoticeEntry → NoticeEntry}
    (hf : ∀ e, EntrySound i e → EntrySound i (f e)) (h : TableSound s.notices) :
    TableSound (s.mapNotice i f).notices := by
  refine ⟨rfl, fun j => ?_⟩
  rw [Fin.getElem_fin, entries_mapNotice]
  split
  · next e => obtain rfl := Fin.ext e; exact hf _ (h.2 j)
  · exact h.2 j

/-- Every entry rewritten soundly leaves the table sound. -/
theorem tableSound_mapNotices {s : State} {f : Fin 12 → NoticeEntry → NoticeEntry}
    (hf : ∀ i e, EntrySound i e → EntrySound i (f i e)) (h : TableSound s.notices) :
    TableSound (s.mapNotices f).notices := by
  refine ⟨rfl, fun j => ?_⟩
  rw [Fin.getElem_fin, entries_mapNotices]
  exact hf j _ (h.2 j)

/-! ### What an operation leaves as it stands -/

/-- An entry without its origin list, which neither its usage nor its place on the watch list rests on. -/
def unissued (e : VehicleEntry) : VehicleEntry := { e with origins := [] }

/-- The watch list stands with all that it rests on, and so does the entry of WATCH_CHANGED. -/
structure KeepsWatch (s t : State) : Prop where
  block      : t.store.block = s.store.block
  watch      : t.watch = s.watch
  ranks      : t.view.entries.map unissued = s.view.entries.map unissued
  watchEntry : t.notices.entries[4] = s.notices.entries[4]

/-- The sources of the four condition notices stand with the conditions reported, and a sound table stays sound. -/
structure KeepsSources (s t : State) : Prop where
  block      : t.store.block = s.store.block
  watch      : t.watch = s.watch
  frozen     : ∀ h, (t.hose h).health.frozen = (s.hose h).health.frozen
  stop       : t.field.stop.active = s.field.stop.active
  records    : t.records.records = s.records.records
  conditions : ∀ i : Fin 12, t.notices.entries[i].condition = s.notices.entries[i].condition
  table      : TableSound s.notices → TableSound t.notices

/-- Both of them: what most operations do. -/
structure Quiet (s t : State) : Prop extends KeepsWatch s t, KeepsSources s t

theorem KeepsWatch.refl (s : State) : KeepsWatch s s := ⟨rfl, rfl, rfl, rfl⟩

theorem KeepsWatch.trans {s t u : State} (a : KeepsWatch s t) (b : KeepsWatch t u) : KeepsWatch s u :=
  ⟨b.block.trans a.block, b.watch.trans a.watch, b.ranks.trans a.ranks, b.watchEntry.trans a.watchEntry⟩

theorem KeepsSources.refl (s : State) : KeepsSources s s :=
  ⟨rfl, rfl, fun _ => rfl, rfl, rfl, fun _ => rfl, id⟩

theorem KeepsSources.trans {s t u : State} (a : KeepsSources s t) (b : KeepsSources t u) : KeepsSources s u :=
  ⟨b.block.trans a.block, b.watch.trans a.watch, fun h => (b.frozen h).trans (a.frozen h), b.stop.trans a.stop,
    b.records.trans a.records, fun i => (b.conditions i).trans (a.conditions i), b.table ∘ a.table⟩

theorem Quiet.refl (s : State) : Quiet s s := ⟨.refl s, (KeepsSources.refl s).3, rfl, rfl, fun _ => rfl, id⟩

theorem Quiet.of_both {s t : State} (a : KeepsWatch s t) (b : KeepsSources s t) : Quiet s t :=
  ⟨a, b.frozen, b.stop, b.records, b.conditions, b.table⟩

theorem Quiet.trans {s t u : State} (a : Quiet s t) (b : Quiet t u) : Quiet s u :=
  .of_both (a.toKeepsWatch.trans b.toKeepsWatch) (a.toKeepsSources.trans b.toKeepsSources)

theorem sourceValue_eq {s t : State} (q : KeepsSources s t) (i : Nat) : sourceValue t i = sourceValue s i := by
  have hoses : anyTable t.hoses (·.health.frozen) = anyTable s.hoses (·.health.frozen) := by
    rw [Bool.eq_iff_iff, anyTable_hoses, anyTable_hoses]
    simp only [q.frozen]
  unfold sourceValue
  split
  · exact hoses
  · exact q.stop
  · rw [q.records]
  · simp only [State.overdueShown, q.block, q.watch]
  · rfl

theorem NoticesTrueBut.of_keeps {s t : State} {k : Fin 12} (h : NoticesTrueBut k s) (q : KeepsSources s t) :
    NoticesTrueBut k t :=
  ⟨q.table h.1, fun i hi => by rw [q.conditions, sourceValue_eq q, h.2 i hi]⟩

theorem noticesTrue_of_keeps {s t : State} (h : NoticesTrue s) (q : KeepsSources s t) : NoticesTrue t := by
  rw [noticesTrue_iff] at h ⊢
  exact ⟨q.table h.1, fun i => by rw [q.conditions, sourceValue_eq q, h.2 i]⟩

/-- The condition that was still to be reported is reported: the notices are true. -/
theorem noticesTrue_report {src : NoticeSource} {b : Bool} {s : State} (h : NoticesTrueBut src.index s)
    (hb : b = sourceValue s src.index) : NoticesTrue (report src b s) := by
  rw [noticesTrue_iff]
  refine ⟨tableSound_mapNotice (fun e => entrySound_reported b) h.1, fun i => ?_⟩
  have same : sourceValue (report src b s) i = sourceValue s i := rfl
  rw [same, Fin.getElem_fin, entries_report]
  split
  · next e => obtain rfl := Fin.ext e; exact hb
  · next e => exact h.2 i fun he => e (he ▸ rfl)

end Sys2Proof.Machine.ServiceIntervals
end

section
namespace Sys2Proof.Machine.ServiceIntervals

open Sys2Proof Sys2Proof.Machine

/-! ### Operations that are quiet -/

/-- An operation that touches none of the blocks concerned is quiet. -/
theorem Quiet.of_frame {s t : State} (h : t.store.block = s.store.block ∧ t.view.entries = s.view.entries ∧
    t.watch = s.watch ∧ t.field.stop = s.field.stop ∧ t.hoses = s.hoses ∧
    t.records.records = s.records.records ∧ t.notices = s.notices) : Quiet s t := by
  obtain ⟨hb, hv, hw, hf, hh, hr, hn⟩ := h
  exact ⟨⟨hb, hw, by rw [hv], by rw [hn]⟩, fun h => by rw [hose_congr hh], by rw [hf], hr, fun i => by rw [hn],
    by rw [hn]; exact id⟩

/-- A hose rewritten with its frozen flag kept. -/
theorem quiet_mapHose (s : State) (h : Fin 4) (f : Hose → Hose)
    (hf : ∀ x, (f x).health.frozen = x.health.frozen) : Quiet s (s.mapHose h f) := by
  refine ⟨⟨rfl, rfl, rfl, rfl⟩, fun k => ?_, rfl, rfl, fun _ => rfl, id⟩
  rw [hose_mapHose]
  split
  · exact hf _
  · rfl

theorem quiet_mapCtl (s : State) (h : Fin 4) (f : HoseControl → HoseControl) : Quiet s (s.mapCtl h f) :=
  quiet_mapHose s h _ fun _ => rfl

theorem quiet_mapMeter (s : State) (h : Fin 4) (f : Meter → Meter) : Quiet s (s.mapMeter h f) :=
  quiet_mapHose s h _ fun _ => rfl

theorem quiet_mapContext (s : State) (h : Fin 4) (f : IssueContext → IssueContext) : Quiet s (s.mapContext h f) :=
  quiet_mapCtl s h _

theorem quiet_mapHealth (s : State) (h : Fin 4) (f : Health → Health) (hf : ∀ x, (f x).frozen = x.frozen) :
    Quiet s (s.mapHealth h f) :=
  quiet_mapHose s h _ fun _ => hf _

theorem quiet_mapRadio (s : State) (f : RadioBlock → RadioBlock) : Quiet s (s.mapRadio f) :=
  .of_frame (by simp)

theorem quiet_mapPeer (s : State) (i : Fin 16) (f : Peer → Peer) : Quiet s (s.mapPeer i f) :=
  .of_frame (by simp)

theorem quiet_respond (s : State) (kind : Nat) (r : Result) (payload : List Byte) :
    Quiet s (s.respond kind r payload) := .of_frame (by simp)

theorem quiet_linkError (s : State) : Quiet s (linkError s) := .of_frame (by simp)

/-- An occurrence other than WATCH_CHANGED raised. -/
theorem quiet_raise (src : NoticeSource) (s : State) (hs : src.index ≠ 4) : Quiet s (raise src s) := by
  refine ⟨⟨rfl, rfl, rfl, ?_⟩, fun _ => rfl, rfl, rfl, fun i => ?_, tableSound_mapNotice fun _ => entrySound_raised⟩
  · rw [entries_raise, if_neg fun e => hs (Fin.ext e.symm)]
  · rw [Fin.getElem_fin, entries_raise]
    split <;> rfl

theorem quiet_eachHose {f : Fin 4 → State → State} (hf : ∀ h s, Quiet s (f h s)) (s : State) :
    Quiet s (eachHose f s) :=
  eachHose_inv (Quiet s) f (fun h t q => q.trans (hf h t)) s (.refl s)

/-! #### The hoses -/

theorem quiet_drivePump (s : State) : Quiet s (drivePump s) := by
  refine .of_frame ?_
  unfold drivePump
  (repeat' split) <;> simp

theorem quiet_driveValves (h : Fin 4) (s : State) : Quiet s (driveValves h s) := quiet_mapCtl s h _

theorem quiet_countOffence (h : Fin 4) (s : State) : Quiet s (countOffence h s) := by
  unfold countOffence
  split
  · exact quiet_mapHose s h _ fun _ => rfl
  · exact .refl s

theorem quiet_guardEval (s : State) : Quiet s (guardEval s) := by
  have matched : ∀ b, Quiet s { s with field := { s.field with matched := b } } :=
    fun b => .of_frame ⟨rfl, rfl, rfl, rfl, rfl, rfl, rfl⟩
  simp only [guardEval]
  split
  · exact .refl s
  · split
    · exact ((matched _).trans (quiet_eachHose quiet_countOffence _)).trans (quiet_raise _ _ (by decide))
    · exact matched _

theorem quiet_enterState (h : Fin 4) (st : HoseState) (s : State) : Quiet s (enterState h st s) :=
  (((quiet_mapCtl s h _).trans (quiet_driveValves h _)).trans (quiet_drivePump _)).trans (quiet_guardEval _)

theorem quiet_takeReservation (s : State) : Quiet s (takeReservation s) :=
  .of_frame ⟨rfl, rfl, rfl, rfl, rfl, rfl, rfl⟩

theorem quiet_releaseReservation (s : State) : Quiet s (releaseReservation s) :=
  .of_frame ⟨rfl, rfl, rfl, rfl, rfl, rfl, rfl⟩

theorem quiet_markIssue (h : Fin 4) (s : State) : Quiet s (markIssue h s) := quiet_mapContext s h _

theorem quiet_cancel (h : Fin 4) (s : State) : Quiet s (cancel h s) :=
  ((quiet_releaseReservation s).trans (quiet_mapCtl _ h _)).trans (quiet_enterState h _ _)

theorem quiet_close (c : ConfigBlock) (h : Fin 4) (r : EndReason) (s : State) : Quiet s (close c h r s) :=
  (((quiet_mapContext s h _).trans (quiet_mapCtl _ h _)).trans (quiet_mapMeter _ h _)).trans (quiet_enterState h _ _)

theorem quiet_endIssue (c : ConfigBlock) (h : Fin 4) (r : EndReason) (s : State) : Quiet s (endIssue c h r s) := by
  unfold endIssue
  split
  · exact quiet_cancel h s
  · split
    · exact quiet_close c h r s
    · exact .refl s

theorem quiet_freezeAction (c : ConfigBlock) (h : Fin 4) (s : State) : Quiet s (freezeAction c h s) := by
  have closed := (quiet_markIssue h s).trans (quiet_close c h .fault _)
  unfold freezeAction
  split
  · exact quiet_enterState h _ s
  · exact quiet_cancel h s
  · exact closed
  · exact closed
  · exact closed
  · exact .refl s
  · exact .refl s
  · exact .refl s

theorem quiet_drip (c : ConfigBlock) (h : Fin 4) (n : Nat) (b : Bool) (s : State) : Quiet s (drip c h n b s) := by
  unfold drip
  split
  · exact .refl s
  · exact quiet_mapHealth s h _ fun _ => rfl

theorem quiet_leaveEnded (h : Fin 4) (s : State) : Quiet s (leaveEnded h s) :=
  (quiet_mapCtl s h _).trans (quiet_enterState h _ _)

theorem quiet_examineNozzle (h : Fin 4) (s : State) : Quiet s (examineNozzle h s) := by
  unfold examineNozzle
  split
  · exact quiet_leaveEnded h s
  · exact .refl s

theorem quiet_enterEnded (c : ConfigBlock) (h : Fin 4) (n : Nat) (s : State) : Quiet s (enterEnded c h n s) :=
  ((quiet_mapMeter s h _).trans (quiet_mapCtl _ h _)).trans (quiet_enterState h _ _)

theorem quiet_enterSlowing (c : ConfigBlock) (h : Fin 4) (s : State) : Quiet s (enterSlowing c h s) :=
  (quiet_mapMeter s h _).trans (quiet_enterState h _ _)

theorem quiet_enterFlowing (c : ConfigBlock) (h : Fin 4) (x : IssueContext) (s : State) :
    Quiet s (enterFlowing c h x s) := by
  have flowing := ((quiet_mapMeter s h Meter.enterFlowing).trans (quiet_mapCtl _ h
    fun k => { k with primeTimer := none, startTimer := some (c.startTime * second) })).trans
    (quiet_enterState h .flowing _)
  simp only [enterFlowing]
  split
  · exact flowing.trans (quiet_enterSlowing c h _)
  · exact flowing

theorem quiet_enterStarting (c : ConfigBlock) (h : Fin 4) (x : IssueContext) (s : State) :
    Quiet s (enterStarting c h x s) := by
  have starting := ((quiet_mapMeter s h Meter.startIssue).trans (quiet_mapCtl _ h
    fun k => { k with authTimer := none })).trans (quiet_enterState h .starting _)
  simp only [enterStarting]
  split
  · exact starting.trans (quiet_enterFlowing c h x _)
  · exact starting.trans (quiet_mapCtl _ h _)

theorem quiet_barHose (c : ConfigBlock) (v : Nat) (h : Fin 4) (s : State) : Quiet s (barHose c v h s) := by
  unfold barHose
  split
  · exact .refl s
  · split
    · exact quiet_endIssue c h _ s
    · exact .refl s

theorem quiet_barEndsIssue (c : ConfigBlock) (v : Nat) (s : State) : Quiet s (barEndsIssue c v s) :=
  quiet_eachHose (quiet_barHose c v) s

theorem quiet_thawHose (h : Fin 4) (s : State) : Quiet s (thawHose h s) := by
  unfold thawHose
  split
  · exact quiet_enterState h _ s
  · exact .refl s

theorem quiet_changeNozzle (c : ConfigBlock) (h : Fin 4) (lifted : Bool) (s : State) :
    Quiet s (changeNozzle c h lifted s) := by
  have seen : Quiet s (guardEval (setNozzle c h lifted s)) :=
    (quiet_mapHose s h (fun x => { x with
      nozzle := { active := lifted, run := 0, level := lifted == c.nozzleHigh[h] } }) fun _ => rfl).trans
      (quiet_guardEval _)
  have lift : ∀ s, Quiet s (liftAt c h s) := fun s => by
    unfold liftAt
    split
    · exact quiet_enterStarting c h _ s
    · exact .refl s
  have hang : ∀ s, Quiet s (hangAt c h s) := fun s => by
    unfold hangAt
    split
    · exact quiet_close c h _ s
    · split
      · exact quiet_leaveEnded h s
      · exact .refl s
  simp only [changeNozzle]
  split
  · exact seen.trans (lift _)
  · exact seen.trans (hang _)

theorem quiet_setMeterInput (c : ConfigBlock) (h : Fin 4) (s : State) : Quiet s (setMeterInput c h s) := by
  unfold setMeterInput
  exact quiet_mapHose s h _ fun _ => rfl

theorem quiet_endPrimeWait (c : ConfigBlock) (h : Fin 4) (x : IssueContext) (s : State) :
    Quiet s (endPrimeWait c h x s) := by
  unfold endPrimeWait
  refine Quiet.trans ?_ (quiet_enterFlowing c h x _)
  exact .of_frame ⟨rfl, rfl, rfl, rfl, rfl, rfl, rfl⟩

/-! #### The clock -/

theorem quiet_placeClock (c : ConfigBlock) (p : ClockPos) (s : State) : Quiet s (placeClock c p s) :=
  .of_frame (by simp)

/-- A shift change empties the origin lists, on which no usage rests. -/
theorem quiet_shiftEffects (s : State) : Quiet s (shiftEffects s) := by
  refine ⟨⟨rfl, rfl, ?_, rfl⟩, fun _ => rfl, rfl, rfl, fun _ => rfl, id⟩
  simp only [shiftEffects, List.map_map]
  rfl

theorem quiet_moveClock (c : ConfigBlock) (p : ClockPos) (s : State) : Quiet s (moveClock c p s) := by
  simp only [moveClock]
  split
  · exact (quiet_placeClock c p s).trans (quiet_shiftEffects _)
  · exact quiet_placeClock c p s

theorem quiet_countSecond (c : ConfigBlock) (s : State) : Quiet s (countSecond c s) := by
  simp only [countSecond]
  split
  · exact .refl s
  · split
    · exact quiet_placeClock c _ s
    · split
      · exact quiet_moveClock c _ s
      · exact quiet_placeClock c _ s

theorem quiet_startClock (c : ConfigBlock) (p : ClockPos) (s : State) : Quiet s (startClock c p s) := by
  unfold startClock
  split
  · refine Quiet.trans ?_ (quiet_placeClock c p _)
    exact .of_frame ⟨rfl, rfl, rfl, rfl, rfl, rfl, rfl⟩
  · split
    · exact quiet_moveClock c p s
    · exact .refl s

theorem quiet_beaconAtClock (c : ConfigBlock) (p : ClockPos) (s : State) : Quiet s (beaconAtClock c p s) := by
  simp only [beaconAtClock]
  split
  · exact .refl s
  · split
    · split
      · exact .refl s
      · exact quiet_moveClock c p s
    · refine Quiet.trans ?_ (quiet_raise .clockReject _ (by decide))
      exact .of_frame ⟨rfl, rfl, rfl, rfl, rfl, rfl, rfl⟩

theorem quiet_tallyAtClock (c : ConfigBlock) (n : Nat) (s : State) : Quiet s (tallyAtClock c n s) := by
  unfold tallyAtClock
  split
  · exact quiet_moveClock c _ s
  · exact .refl s

theorem quiet_clockUnderConfig (c : ConfigBlock) (s : State) : Quiet s (clockUnderConfig c s) := by
  simp only [clockUnderConfig]
  split
  · exact .refl s
  · split
    · exact quiet_placeClock c _ s
    · exact quiet_moveClock c _ s

/-! #### The net and the radio -/

theorem quiet_setNetState (st : NetState) (s : State) : Quiet s (setNetState st s) := by
  unfold setNetState
  split
  · exact .refl s
  · refine Quiet.trans ?_ (quiet_raise .netState _ (by decide))
    exact .of_frame ⟨rfl, rfl, rfl, rfl, rfl, rfl, rfl⟩

theorem quiet_setListen (t : Option Nat) (s : State) : Quiet s (setListen t s) := .of_frame (by simp)

theorem quiet_clearPeers (s : State) : Quiet s (clearPeers s) := .of_frame (by simp)

theorem quiet_enterListenIn (c : ConfigBlock) (s : State) : Quiet s (enterListenIn c s) :=
  ((quiet_clearPeers s).trans (quiet_setListen _ _)).trans (quiet_setNetState _ _)

theorem quiet_enterStandby (s : State) : Quiet s (enterStandby s) :=
  ((quiet_clearPeers s).trans (quiet_setListen _ _)).trans (quiet_setNetState _ _)

theorem quiet_leaveListenIn (s : State) : Quiet s (leaveListenIn s) :=
  (quiet_setListen none s).trans (quiet_setNetState _ _)

theorem quiet_missAtPeer (i : Fin 16) (s : State) : Quiet s (missAtPeer i s) := by
  simp only [missAtPeer]
  split
  · exact (quiet_mapPeer s i _).trans (quiet_setNetState _ _)
  · exact quiet_mapPeer s i _

theorem quiet_beaconAtPeer (c : ConfigBlock) (i : Fin 16) (n : Nat) (s : State) : Quiet s (beaconAtPeer c i n s) := by
  simp only [beaconAtPeer]
  split
  · exact ((quiet_mapPeer s i _).trans (quiet_setListen _ _)).trans (quiet_setNetState _ _)
  · exact quiet_mapPeer s i _

theorem quiet_takeBeacon (c : ConfigBlock) (i : Fin 16) (p : ClockPos) (n : Nat) (s : State) :
    Quiet s (takeBeacon c i p n s) := by
  unfold takeBeacon
  split
  · refine Quiet.trans ?_ (quiet_raise .numberClash _ (by decide))
    exact .of_frame ⟨rfl, rfl, rfl, rfl, rfl, rfl, rfl⟩
  · exact (quiet_beaconAtClock c p s).trans (quiet_beaconAtPeer c i n _)

theorem quiet_countDrop (x : DropCause) (s : State) : Quiet s (countDrop x s) := .of_frame (by simp)

theorem quiet_startSchedules (s : State) : Quiet s (startSchedules s) := .of_frame (by simp)

theorem quiet_nextBeacon (c : ConfigBlock) (s : State) : Quiet s (nextBeacon c s) := .of_frame (by simp)

theorem quiet_runCountdown (c : ConfigBlock) (n : Nat) (s : State) : Quiet s (runCountdown c n s) :=
  .of_frame (by simp)

theorem quiet_drawBelow (s : State) (n : Nat) : Quiet s (s.drawBelow n).2 := .of_frame (by simp)

theorem quiet_vehicleChanged (v : Nat) (s : State) : Quiet s (vehicleChanged v s) := .of_frame (by simp)

theorem quiet_mergeReport (c : ConfigBlock) (v : Nat) (a b : Bool) (s : State) : Quiet s (mergeReport c v a b s) :=
  .of_frame (by simp)

theorem quiet_dropParts (s : State) : Quiet s (dropParts s) := .of_frame ⟨rfl, rfl, rfl, rfl, rfl, rfl, rfl⟩

theorem quiet_loadAllowances (c : ConfigBlock) (s : State) : Quiet s (loadAllowances c s) := .of_frame (by simp)

theorem quiet_startStation (c : ConfigBlock) (p : ClockPos) (s : State) : Quiet s (startStation c p s) := by
  have clock : Quiet s (dropParts (startClock c p s)) := (quiet_startClock c p s).trans (quiet_dropParts _)
  have net := (clock.trans (quiet_enterListenIn c _)).trans (quiet_startSchedules _)
  have idle := net.trans (quiet_mapRadio _ fun r => { r with tx := .idle, cw := cwLow })
  unfold startStation
  refine Quiet.trans (idle.trans ?_) (quiet_guardEval _)
  exact .of_frame ⟨rfl, rfl, rfl, rfl, rfl, rfl, rfl⟩

theorem quiet_standbyStation (s : State) : Quiet s (standbyStation s) := by
  unfold standbyStation
  split
  · exact (quiet_enterStandby s).trans (quiet_mapRadio _ _)
  · exact .refl s

theorem quiet_setStaged (k : Fin 8) (v : Option Nat) (s : State) : Quiet s (setStaged k v s) := .of_frame (by simp)

/-! #### A tick -/

theorem quiet_radioBit (s : State) : Quiet s (radioBit s) := by
  rw [radioBit_frame]
  exact .of_frame ⟨rfl, rfl, rfl, rfl, rfl, rfl, rfl⟩

theorem quiet_linkByte (s : State) : Quiet s (linkByte s) := by
  rw [linkByte_frame]
  exact .of_frame ⟨rfl, rfl, rfl, rfl, rfl, rfl, rfl⟩

/-- A tick samples the stop line without changing its filtered state. -/
theorem stop_active_tick (c : Option ConfigBlock) (newMs : Bool) (f : FieldBlock) :
    (f.tick c newMs).stop.active = f.stop.active := by
  unfold FieldBlock.tick
  split
  · rfl
  · split <;> rfl

theorem health_tick (c : Option ConfigBlock) (h : Fin 4) (newMs : Bool) (x : Hose) :
    (x.tick c h newMs).health = x.health := by
  unfold Hose.tick
  split
  · rfl
  · split <;> rfl

theorem quiet_tick (s : State) : Quiet s (tick s) := by
  simp only [tick]
  refine Quiet.trans ?_ (quiet_linkByte _)
  have moved : Quiet s { s with
      clock := s.clock.tick
      net := { s.net with listen := countDown s.net.listen, peers := mapTable Peer.tick s.net.peers }
      radio := s.radio.tick
      field := s.field.tick s.store.block (s.field.samplePhase == 0)
      hoses := Vector.ofFn fun h => s.hoses[h].tick s.store.block h (s.field.samplePhase == 0)
      link := s.link.tickSending } := by
    refine ⟨⟨rfl, rfl, rfl, rfl⟩, fun h => ?_, stop_active_tick _ _ _, rfl, fun _ => rfl, id⟩
    simp [State.hose, health_tick]
  split
  · exact moved.trans (quiet_radioBit _)
  · exact moved

end Sys2Proof.Machine.ServiceIntervals
end

section
namespace Sys2Proof.Machine.ServiceIntervals

open Sys2Proof Sys2Proof.Machine

/-! ### One entry stored -/

/-- An entry carries the worst usage that the view holds for its vehicle: that of the vehicle's entry, or 0 with none. -/
def CarriesWorst (s : State) (e : VehicleEntry) : Prop :=
  e.worst = ((s.entry e.number).map (·.worst)).getD 0

/-- What a step can do to the view beside a shift change: one entry is stored under the configuration in force, and
nothing else that is not quiet. -/
def Stored (s t : State) : Prop :=
  ∃ c e u, s.store.block = some c ∧ Quiet s u ∧ CarriesWorst u e ∧ Quiet (storeEntry c e u) t

/-- The step is quiet, or quiet but for one entry stored. -/
def Moved (s t : State) : Prop := Quiet s t ∨ Stored s t

theorem Stored.then_quiet {s t u : State} (a : Stored s t) (b : Quiet t u) : Stored s u :=
  have ⟨c, e, v, hb, before, he, after⟩ := a
  ⟨c, e, v, hb, before, he, after.trans b⟩

theorem Stored.after_quiet {s t u : State} (a : Quiet s t) (b : Stored t u) : Stored s u :=
  have ⟨c, e, v, hb, before, he, after⟩ := b
  ⟨c, e, v, a.block.symm.trans hb, a.trans before, he, after⟩

theorem Moved.then_quiet {s t u : State} (a : Moved s t) (b : Quiet t u) : Moved s u :=
  a.imp (·.trans b) (·.then_quiet b)

theorem Moved.after_quiet {s t u : State} (a : Quiet s t) (b : Moved t u) : Moved s u :=
  b.imp a.trans (.after_quiet a)

theorem Stored.of_changeEntry {c : ConfigBlock} {e : VehicleEntry} {s : State} (hb : s.store.block = some c)
    (he : CarriesWorst s e) : Stored s (changeEntry c e s) :=
  ⟨c, e, s, hb, .refl s, he, quiet_vehicleChanged _ _⟩

theorem CarriesWorst.congr {s : State} {e e' : VehicleEntry} (he : CarriesWorst s e) (hn : e'.number = e.number)
    (hw : e'.worst = e.worst) : CarriesWorst s e' := by
  unfold CarriesWorst
  rw [hn, hw]
  exact he

theorem number_of_entry {s : State} {v : Nat} {e : VehicleEntry} (h : s.entry v = some e) : e.number = v := by
  simpa using List.find?_some h

theorem carriesWorst_entry {s : State} {v : Nat} {e : VehicleEntry} (h : s.entry v = some e) : CarriesWorst s e := by
  simp [CarriesWorst, number_of_entry h, h]

theorem number_entryOrNew (s : State) (v : Nat) (cls : Fin 8) : (s.entryOrNew v cls).number = v := by
  unfold State.entryOrNew
  cases h : s.entry v with
  | none => rfl
  | some e => exact number_of_entry h

theorem carriesWorst_entryOrNew (s : State) (v : Nat) (cls : Fin 8) : CarriesWorst s (s.entryOrNew v cls) := by
  unfold CarriesWorst
  rw [number_entryOrNew]
  unfold State.entryOrNew
  cases s.entry v with
  | none => rfl
  | some e => rfl

/-! ### Requests -/

/-- A request served changes what its request does, or with four responses held nothing that counts here. -/
theorem quiet_serve (kind : Nat) (s : State) (request : State → Reply) :
    Quiet s (serve kind s request) ∨ Quiet (request s).1 (serve kind s request) := by
  rcases Nat.lt_or_ge s.link.responses.length responseRoom with h | h
  · rw [serve_taken _ _ _ h]
    exact .inr (quiet_respond _ kind _ _)
  · rw [serve_discarded _ _ _ h]
    exact .inl (quiet_linkError s)

theorem Moved.serve {kind : Nat} {s : State} {request : State → Reply} (h : Moved s (request s).1) :
    Moved s (serve kind s request) :=
  (quiet_serve kind s request).elim .inl h.then_quiet

theorem Quiet.serve {kind : Nat} {s : State} {request : State → Reply} (h : Quiet s (request s).1) :
    Moved s (Machine.serve kind s request) := Moved.serve (.inl h)

theorem quiet_start (shift time : Nat) (s : State) : Quiet s (start shift time s).1 := by
  unfold start
  split
  · exact .refl s
  · split
    · exact .refl s
    · split
      · exact .refl s
      · exact quiet_startStation _ _ s

theorem quiet_standby (s : State) : Quiet s (standby s).1 := by
  unfold standby
  split
  · exact .refl s
  · exact quiet_standbyStation s

theorem quiet_stopHose (hose : Nat) (s : State) : Quiet s (stopHose hose s).1 := by
  unfold stopHose
  split
  · exact .refl s
  · exact .refl s
  · split
    · exact .refl s
    · exact quiet_endIssue _ _ _ s

theorem quiet_stageAllowance (cls litres : Nat) (s : State) : Quiet s (stageAllowance cls litres s).1 := by
  unfold stageAllowance
  split
  · exact .refl s
  · exact .refl s
  · split
    · exact .refl s
    · exact quiet_setStaged _ _ s

theorem quiet_clearStaged (cls : Nat) (s : State) : Quiet s (clearStaged cls s).1 := by
  unfold clearStaged
  split
  · exact .refl s
  · exact .refl s
  · exact quiet_setStaged _ _ s

theorem fst_readHose (hose : Nat) (s : State) : (readHose hose s).1 = s := by unfold readHose; split <;> rfl

theorem fst_readVehicle (v : Nat) (s : State) : (readVehicle v s).1 = s := by
  unfold readVehicle
  split
  · rfl
  · split <;> rfl

theorem fst_readOldest (s : State) : (readOldest s).1 = s := by unfold readOldest; split <;> rfl

theorem fst_readPeers (group : Nat) (s : State) : (readPeers group s).1 = s := by unfold readPeers; split <;> rfl

/-- The entry that a presentation leaves keeps the number and the worst usage of the one that it works on. -/
theorem moved_storePresented {c : ConfigBlock} {p : Presentation} {e : VehicleEntry} {s : State}
    (hb : s.store.block = some c) (he : CarriesWorst s e) : Moved s (storePresented c p e s) := by
  simp only [storePresented]
  split
  · exact .inr (.of_changeEntry hb (he.congr rfl rfl))
  · exact .inl (.refl s)

theorem moved_presentReadings {c : ConfigBlock} {h : Fin 4} {p : Presentation} {e : VehicleEntry} {s : State}
    (hb : s.store.block = some c) (he : CarriesWorst s e) : Moved s (presentReadings c h p e s).1 := by
  have still : Moved s s := .inl (.refl s)
  simp only [presentReadings]
  split
  · exact still
  · split
    · exact still
    · split
      · exact still
      · split
        · exact still
        · exact (((moved_storePresented hb he).then_quiet (quiet_takeReservation _)).then_quiet
            (quiet_mapCtl _ h _)).then_quiet (quiet_enterState h _ _)

theorem moved_presentVehicle (hose vehicle hours flag total preset : Nat) (s : State) :
    Moved s (presentVehicle hose vehicle hours flag total preset s).1 := by
  have still : Moved s s := .inl (.refl s)
  unfold presentVehicle
  split
  · next c hr hb =>
    split
    · exact still
    · split
      · exact still
      · simp only [presentAt]
        split
        · exact still
        · exact still
        · split
          · exact still
          · exact moved_presentReadings hb (carriesWorst_entryOrNew s _ _)
  · exact still

theorem moved_setBar {c : ConfigBlock} {b : Bool} {e : VehicleEntry} {s : State}
    (hb : s.store.block = some c) (he : CarriesWorst s e) : Moved s (setBar c b e s) := by
  have barred : Moved s _ := .inr (Stored.of_changeEntry hb
    (he.congr (e' := { e with bar := ⟨b, e.bar.version + 1, c.station⟩ }) rfl rfl))
  simp only [setBar]
  split
  · exact barred.then_quiet (quiet_barEndsIssue c _ _)
  · exact barred

end Sys2Proof.Machine.ServiceIntervals
end

section
namespace Sys2Proof.Machine.ServiceIntervals

open Sys2Proof Sys2Proof.Machine

theorem moved_barRequest (b : Bool) (v : Nat) (s : State) : Moved s (barRequest b v s).1 := by
  have still : Moved s s := .inl (.refl s)
  unfold barRequest
  split
  · next c hr hb =>
    split
    · exact still
    · split
      · exact still
      · simp only
        split
        · exact still
        · split
          · exact still
          · exact moved_setBar hb (carriesWorst_entryOrNew s v _)
  · exact still

theorem moved_recordAt {c : ConfigBlock} {r : ServiceRecord} {e : VehicleEntry} {s : State}
    (hb : s.store.block = some c) (he : CarriesWorst s e) : Moved s (recordAt c r e s).1 := by
  have still : Moved s s := .inl (.refl s)
  simp only [recordAt]
  split
  · exact still
  · exact still
  · split
    · exact still
    · exact .inr (.of_changeEntry hb (he.congr rfl rfl))

theorem moved_recordService (v type hours flag total : Nat) (s : State) :
    Moved s (recordService v type hours flag total s).1 := by
  have still : Moved s s := .inl (.refl s)
  unfold recordService
  split
  · next c hr hb =>
    split
    · exact still
    · split
      · exact still
      · split
        · exact still
        · split
          · exact still
          · split
            · exact still
            · exact moved_recordAt hb (carriesWorst_entryOrNew s v _)
  · exact still

/-! ### Tallies -/

/-- An origin entry merged changes the origin list alone. -/
theorem unissued_mergeOrigin (m : MergeState) (o : OriginEntry) :
    unissued (mergeOrigin m o).entry = unissued m.entry := by
  unfold mergeOrigin
  (repeat' split) <;> rfl

theorem unissued_mergeOrigins (l : List OriginEntry) (m : MergeState) :
    unissued (l.foldl mergeOrigin m).entry = unissued m.entry := by
  induction l generalizing m with
  | nil => rfl
  | cons o l ih => exact (ih _).trans (unissued_mergeOrigin m o)

/-- A merge keeps the number and the worst usage that the entry carries. -/
theorem carriesWorst_mergeTally {s : State} {shift : Nat} {f : TallyFrame} {created : Bool} {e : VehicleEntry}
    (he : CarriesWorst s e) : CarriesWorst s (mergeTally shift f created e).entry := by
  have kept : unissued (if f.shift = shift then f.origins.foldl mergeOrigin ⟨e, created, 0⟩
      else ⟨e, created, 0⟩).entry = unissued e := by
    split
    · exact unissued_mergeOrigins _ _
    · rfl
  have number := congrArg VehicleEntry.number kept
  have worst := congrArg VehicleEntry.worst kept
  exact he.congr number worst

theorem quiet_ite {p : Prop} [Decidable p] {s t u : State} (ht : Quiet s t) (hu : Quiet s u) :
    Quiet s (if p then t else u) := by
  split
  · exact ht
  · exact hu

theorem moved_storeWhen {c : ConfigBlock} {e : VehicleEntry} {s u : State} (changed : Bool)
    (hb : s.store.block = some c) (before : Quiet s u) (he : CarriesWorst u e) :
    Moved s (if changed then storeEntry c e u else u) := by
  split
  · exact .inr ⟨c, e, u, hb, before, he, .refl _⟩
  · exact .inl before

theorem moved_mergeIntoView {c : ConfigBlock} {cls : Fin 8} {f : TallyFrame} {s : State}
    (hb : s.store.block = some c) : Moved s (mergeIntoView c cls f s) := by
  have counted : ∀ a b, Quiet s { s with view := { s.view with staleShift := a, originFull := b } } :=
    fun a b => .of_frame ⟨rfl, rfl, rfl, rfl, rfl, rfl, rfl⟩
  unfold mergeIntoView
  refine Moved.then_quiet (Moved.then_quiet (moved_storeWhen _ hb (counted _ _) ?_) (quiet_ite ?_ (.refl _)))
    (quiet_mergeReport c _ _ _ _)
  · exact carriesWorst_mergeTally (s := s) (carriesWorst_entryOrNew s f.vehicle cls)
  · exact quiet_barEndsIssue c _ _

theorem moved_tallyAtView {c : ConfigBlock} {f : TallyFrame} {s : State} (hb : s.store.block = some c) :
    Moved s (tallyAtView c f s) := by
  unfold tallyAtView
  split
  · exact .inl (.of_frame ⟨rfl, rfl, rfl, rfl, rfl, rfl, rfl⟩)
  · split
    · refine .inl (Quiet.trans ?_ (quiet_raise .viewFull _ (by decide)))
      exact .of_frame ⟨rfl, rfl, rfl, rfl, rfl, rfl, rfl⟩
    · exact moved_mergeIntoView hb

theorem moved_takeTally {c : ConfigBlock} {i : Fin 16} {f : TallyFrame} {s : State} (hb : s.store.block = some c) :
    Moved s (takeTally c i f s) := by
  have viewed : Moved s (tallyAtView c f (tallyAtClock c f.shift s)) :=
    Moved.after_quiet (quiet_tallyAtClock c f.shift s) (moved_tallyAtView (by simpa using hb))
  simp only [takeTally]
  split
  · exact viewed
  · exact viewed.then_quiet (quiet_mapPeer _ i _)

/-! ### Commands -/

/-- The commands that do more than move the state quietly or store one entry: they report a condition, rewrite the
Notice Table, or change the configuration. -/
def beyondMoved : Instr → Bool
  | .powerOn => true
  | .loadConfig _ _ => true
  | .restart => true
  | .clearHoseFault _ => true
  | .releaseRecord _ => true
  | .readNotices => true
  | .ackNotice _ => true
  | .setNoticeEnables _ => true
  | .stopLineChange _ => true
  | .meterPulse _ _ => true
  | .overrunWindowExpiry _ => true
  | _ => false

theorem quiet_execBeacon {n : Nat} {p : ClockPos} {k : Nat} {s t : State} (h : execBeacon n p k s = .next t) :
    Quiet s t := by
  unfold execBeacon at h
  split at h
  · split at h
    · cases h; exact quiet_countDrop _ s
    · split at h
      · cases h; exact quiet_takeBeacon _ _ _ _ s
      · cases h; exact quiet_countDrop _ s
  · cases h; exact .refl s

theorem moved_execTally {n : Nat} {f : TallyFrame} {s t : State} (h : execTally n f s = .next t) : Moved s t := by
  unfold execTally at h
  split at h
  · next c hr hb =>
    split at h
    · cases h; exact .inl (quiet_countDrop _ s)
    · split at h
      · cases h; exact moved_takeTally hb
      · cases h; exact .inl (quiet_countDrop _ s)
  · cases h; exact .inl (.refl s)

/-- The events of the clock, the peer table and the radio's schedules are quiet. -/
theorem quiet_execShiftClockSecond {s t : State} (h : execShiftClockSecond s = .next t) : Quiet s t := by
  unfold execShiftClockSecond at h
  split at h
  · cases h; exact .refl s
  · cases h; exact quiet_countSecond _ s

theorem quiet_execMissTimerExpiry {n : Nat} {s t : State} (h : execMissTimerExpiry n s = .next t) : Quiet s t := by
  unfold execMissTimerExpiry at h
  split at h
  · cases h; exact .refl s
  · cases h; exact quiet_ite (quiet_missAtPeer _ s) (.refl s)

theorem quiet_execBeaconDue {s t : State} (h : execBeaconDue s = .next t) : Quiet s t := by
  unfold execBeaconDue at h
  split at h
  · cases h; exact (quiet_nextBeacon _ s).trans (quiet_mapRadio _ _)
  · cases h; exact .refl s

theorem quiet_execQuietTimePassed {s t : State} (h : execQuietTimePassed s = .next t) : Quiet s t := by
  unfold execQuietTimePassed at h
  split at h
  · cases h; exact (quiet_drawBelow s _).trans (quiet_runCountdown _ _ _)
  · cases h; exact quiet_runCountdown _ _ s
  · cases h; exact .refl s

theorem quiet_execBackoffSlotEnd {s t : State} (h : execBackoffSlotEnd s = .next t) : Quiet s t := by
  unfold execBackoffSlotEnd at h
  split at h
  · cases h; exact quiet_ite (.refl s) (quiet_runCountdown _ _ s)
  · cases h; exact .refl s

theorem quiet_execNozzleChange {hose : Nat} {b : Bool} {s t : State} (h : execNozzleChange hose b s = .next t) :
    Quiet s t := by
  unfold execNozzleChange at h
  split at h
  · cases h; exact .refl s
  · cases h; exact quiet_ite (.refl s) (quiet_changeNozzle _ _ b s)

theorem quiet_execAuthTimerExpiry {hose : Nat} {s t : State} (h : execAuthTimerExpiry hose s = .next t) :
    Quiet s t := by
  unfold execAuthTimerExpiry at h
  split at h
  · cases h; exact .refl s
  · cases h; exact quiet_ite ((quiet_cancel _ s).trans (quiet_raise .authExpired _ (by decide))) (.refl s)

theorem quiet_execPrimeWaitExpiry {hose : Nat} {s t : State} (h : execPrimeWaitExpiry hose s = .next t) :
    Quiet s t := by
  unfold execPrimeWaitExpiry at h
  split at h
  · cases h; exact .refl s
  · split at h
    · cases h; exact quiet_endPrimeWait _ _ _ s
    · cases h; exact .refl s

theorem quiet_execStartTimerExpiry {hose : Nat} {s t : State} (h : execStartTimerExpiry hose s = .next t) :
    Quiet s t := by
  unfold execStartTimerExpiry at h
  split at h
  · cases h; exact .refl s
  · cases h; exact quiet_ite (quiet_close _ _ _ s) (.refl s)

theorem quiet_execNoFlowTimerExpiry {hose : Nat} {s t : State} (h : execNoFlowTimerExpiry hose s = .next t) :
    Quiet s t := by
  unfold execNoFlowTimerExpiry at h
  split at h
  · cases h; exact .refl s
  · cases h; exact quiet_ite (quiet_close _ _ _ s) (.refl s)

theorem quiet_execSettleTimerExpiry {hose : Nat} {s t : State} (h : execSettleTimerExpiry hose s = .next t) :
    Quiet s t := by
  unfold execSettleTimerExpiry at h
  split at h
  · cases h; exact .refl s
  · cases h; exact quiet_mapMeter s _ _

theorem quiet_execCreepQuietTimerExpiry {hose : Nat} {s t : State} (h : execCreepQuietTimerExpiry hose s = .next t) :
    Quiet s t := by
  unfold execCreepQuietTimerExpiry at h
  split at h
  · cases h; exact .refl s
  · cases h; exact quiet_mapMeter s _ _

theorem next_inj {s t : State} (h : (.next s : Host.Outcome State Fault Refusal) = .next t) : s = t := by
  cases h; rfl

/-- What every other command does: it is quiet, or quiet but for one entry stored. -/
theorem exec_moved {i : Instr} {s t : State} (hi : beyondMoved i = false) (h : exec i s = .next t) : Moved s t := by
  have still : Moved s s := .inl (.refl s)
  cases i with
  | powerOn | loadConfig | restart | clearHoseFault | releaseRecord | readNotices | ackNotice | setNoticeEnables
  | stopLineChange | meterPulse | overrunWindowExpiry => cases hi
  | start shift time => rw [← next_inj h]; exact (quiet_start shift time s).serve
  | standby => rw [← next_inj h]; exact (quiet_standby s).serve
  | readStatus => rw [← next_inj h]; exact (Quiet.refl s).serve
  | presentVehicle hose v hours flag total preset =>
    rw [← next_inj h]; exact (moved_presentVehicle hose v hours flag total preset s).serve
  | stopHose hose => rw [← next_inj h]; exact (quiet_stopHose hose s).serve
  | readHose hose => rw [← next_inj h]; exact Moved.serve (by rwa [fst_readHose])
  | readVehicle v => rw [← next_inj h]; exact Moved.serve (by rwa [fst_readVehicle])
  | barVehicle v => rw [← next_inj h]; exact (moved_barRequest true v s).serve
  | clearBar v => rw [← next_inj h]; exact (moved_barRequest false v s).serve
  | recordService v type hours flag total =>
    rw [← next_inj h]; exact (moved_recordService v type hours flag total s).serve
  | stageAllowance cls litres => rw [← next_inj h]; exact (quiet_stageAllowance cls litres s).serve
  | clearStaged cls => rw [← next_inj h]; exact (quiet_clearStaged cls s).serve
  | readWatchList => rw [← next_inj h]; exact (Quiet.refl s).serve
  | readOldest => rw [← next_inj h]; exact Moved.serve (by rwa [fst_readOldest])
  | readPeers group => rw [← next_inj h]; exact Moved.serve (by rwa [fst_readPeers])
  | unknownRequestKind kind => rw [← next_inj h]; exact (Quiet.refl s).serve
  | linkFrameDiscard cause => rw [← next_inj h]; exact .inl (quiet_linkError s)
  | responseBacklogDiscard => rw [← next_inj h]; exact .inl (quiet_ite (quiet_linkError s) (.refl s))
  | beacon n p k => exact .inl (quiet_execBeacon h)
  | tally n f => exact moved_execTally h
  | radioFrameDrop cause => rw [← next_inj h]; exact .inl (quiet_ite (quiet_countDrop cause s) (.refl s))
  | shiftClockSecond => exact .inl (quiet_execShiftClockSecond h)
  | missTimerExpiry n => exact .inl (quiet_execMissTimerExpiry h)
  | listenTimerExpiry => rw [← next_inj h]; exact .inl (quiet_ite (quiet_leaveListenIn s) (.refl s))
  | beaconDue => exact .inl (quiet_execBeaconDue h)
  | tallyDue => rw [← next_inj h]; exact .inl (quiet_ite (quiet_mapRadio s _) (.refl s))
  | quietTimePassed => exact .inl (quiet_execQuietTimePassed h)
  | backoffSlotEnd => exact .inl (quiet_execBackoffSlotEnd h)
  | carrierDetectRise => rw [← next_inj h]; exact .inl (quiet_ite (.refl s) (quiet_mapRadio s _))
  | carrierDetectFall => rw [← next_inj h]; exact .inl (quiet_ite (quiet_mapRadio s _) (.refl s))
  | accessLimitExpiry frame => rw [← next_inj h]; exact .inl (quiet_ite (quiet_mapRadio s _) (.refl s))
  | transmissionEnd => rw [← next_inj h]; exact .inl (quiet_ite (quiet_mapRadio s _) (.refl s))
  | nozzleChange hose b => exact .inl (quiet_execNozzleChange h)
  | authTimerExpiry hose => exact .inl (quiet_execAuthTimerExpiry h)
  | primeWaitExpiry hose => exact .inl (quiet_execPrimeWaitExpiry h)
  | startTimerExpiry hose => exact .inl (quiet_execStartTimerExpiry h)
  | noFlowTimerExpiry hose => exact .inl (quiet_execNoFlowTimerExpiry h)
  | settleTimerExpiry hose => exact .inl (quiet_execSettleTimerExpiry h)
  | creepQuietTimerExpiry hose => exact .inl (quiet_execCreepQuietTimerExpiry h)
  | responseSentWhole => rw [← next_inj h]; exact .inl (.of_frame ⟨rfl, rfl, rfl, rfl, rfl, rfl, rfl⟩)

end Sys2Proof.Machine.ServiceIntervals
end

section
namespace Sys2Proof.Machine.ServiceIntervals

open Sys2Proof Sys2Proof.Machine

/-! ### The operations that move a condition and report it -/

/-- The notices stand while one source moves: they are true but for that source's condition. -/
theorem NoticesTrueBut.moved {k : Fin 12} {s t : State} (h : NoticesTrueBut k s) (hn : t.notices = s.notices)
    (h8 : (8 : Fin 12) ≠ k → sourceValue t 8 = sourceValue s 8)
    (h9 : (9 : Fin 12) ≠ k → sourceValue t 9 = sourceValue s 9)
    (h10 : (10 : Fin 12) ≠ k → sourceValue t 10 = sourceValue s 10)
    (h11 : (11 : Fin 12) ≠ k → sourceValue t 11 = sourceValue s 11) : NoticesTrueBut k t := by
  have sources : ∀ i : Fin 12, i ≠ k → sourceValue t i = sourceValue s i :=
    (forall_source _).mpr ⟨fun i hi _ => by rw [sourceValue_occurrence t hi, sourceValue_occurrence s hi],
      h8, h9, h10, h11⟩
  refine ⟨by rw [hn]; exact h.1, fun i hi => ?_⟩
  rw [sources i hi, hn]
  exact h.2 i hi

/-- The hoses' health moved, HOSE_OUT is to be reported. -/
theorem NoticesTrueBut.mapHealth {s : State} (hs : NoticesTrueBut 8 s) (h : Fin 4) (f : Health → Health) :
    NoticesTrueBut 8 (s.mapHealth h f) :=
  hs.moved rfl (fun e => absurd rfl e) (fun _ => rfl) (fun _ => rfl) (fun _ => rfl)

theorem noticesTrue_reportHoseOut {s : State} (h : NoticesTrueBut 8 s) : NoticesTrue (reportHoseOut s) :=
  noticesTrue_report h rfl

theorem noticesTrue_reportWaiting {s : State} (h : NoticesTrueBut 10 s) : NoticesTrue (reportWaiting s) :=
  noticesTrue_report h rfl

/-- The watch list replaced, with WATCH_CHANGED raised or not, and OVERDUE_PRESENT reported as it then shows it. -/
theorem noticesTrue_updateWatch {c : ConfigBlock} {s : State} (e : VehicleEntry) (h : NoticesTrue s)
    (hb : s.store.block = some c) : NoticesTrue (updateWatch c e s) := by
  have listed : ∀ w, NoticesTrueBut 11 { s with watch := w } := fun w =>
    (noticesTrueBut_of_true 11 h).moved rfl (fun _ => rfl) (fun _ => rfl) (fun _ => rfl) (fun e => absurd rfl e)
  have raised : ∀ {u : State}, NoticesTrueBut 11 u → NoticesTrueBut 11 (raise .watchChanged u) := fun hu =>
    ⟨tableSound_mapNotice (fun _ => entrySound_raised) hu.1, fun i hi => by
      rw [Fin.getElem_fin, entries_raise]
      have condition := hu.2 i hi
      split <;> exact condition⟩
  simp only [updateWatch]
  split
  · exact noticesTrue_report (raised (listed _)) (by simp [sourceValue, NoticeSource.index, State.overdueShown, hb])
  · exact noticesTrue_report (listed _) (by simp [sourceValue, NoticeSource.index, State.overdueShown, hb])

theorem noticesTrue_storeEntry {c : ConfigBlock} {s : State} (e : VehicleEntry) (h : NoticesTrue s)
    (hb : s.store.block = some c) : NoticesTrue (storeEntry c e s) := by
  have put : NoticesTrue (s.putEntry (withUsage c e)) :=
    noticesTrue_of_keeps h ⟨rfl, rfl, fun _ => rfl, rfl, rfl, fun _ => rfl, id⟩
  simp only [storeEntry]
  split
  · exact put
  · exact noticesTrue_updateWatch _ put hb

theorem noticesTrue_of_quiet {s t : State} (h : NoticesTrue s) (q : Quiet s t) : NoticesTrue t :=
  noticesTrue_of_keeps h q.toKeepsSources

theorem noticesTrue_of_moved {s t : State} (h : NoticesTrue s) (m : Moved s t) : NoticesTrue t := by
  rcases m with q | ⟨c, e, u, hb, before, -, after⟩
  · exact noticesTrue_of_quiet h q
  · have stored := noticesTrue_storeEntry e (noticesTrue_of_quiet h before) (before.block.trans hb)
    exact noticesTrue_of_quiet stored after

theorem noticesTrue_freeze {s : State} (c : ConfigBlock) (h : Fin 4) (hs : NoticesTrue s) :
    NoticesTrue (freeze c h s) :=
  noticesTrue_reportHoseOut (((noticesTrueBut_of_true 8 hs).mapHealth h _).of_keeps (quiet_freezeAction c h _).toKeepsSources)

theorem noticesTrue_healthEvent {s : State} (c : ConfigBlock) (h : Fin 4) (hs : NoticesTrue s) :
    NoticesTrue (healthEvent c h s) := by
  have counted : ∀ n, NoticesTrue (s.mapHealth h fun x => { x with count := n }) := fun n =>
    noticesTrue_of_quiet hs (quiet_mapHealth s h _ fun _ => rfl)
  simp only [healthEvent]
  split
  · exact hs
  · split
    · exact noticesTrue_freeze c h (counted _)
    · exact counted _

theorem noticesTrue_issueHealthEvent {s : State} (c : ConfigBlock) (h : Fin 4) (hs : NoticesTrue s) :
    NoticesTrue (issueHealthEvent c h s) :=
  noticesTrue_healthEvent c h (noticesTrue_of_quiet hs (quiet_markIssue h s))

theorem noticesTrue_completionHealth {s : State} (c : ConfigBlock) (h : Fin 4) (a b : Bool) (n : Nat)
    (hs : NoticesTrue s) : NoticesTrue (completionHealth c h a b n s) := by
  have event : ∀ (b : Bool) {s}, NoticesTrue s → NoticesTrue (if b then issueHealthEvent c h s else s) :=
    fun b s hs => by
      split
      · exact noticesTrue_issueHealthEvent c h hs
      · exact hs
  have both := event b (event a hs)
  simp only [completionHealth]
  split
  · exact both
  · exact noticesTrue_of_quiet both (quiet_drip c h n _ _)

theorem noticesTrue_commitRecord {s : State} (h : Fin 4) (x : IssueContext) (hs : NoticesTrue s) :
    NoticesTrue (commitRecord h x s) :=
  noticesTrue_reportWaiting ((noticesTrueBut_of_true 10 hs).moved rfl (fun _ => rfl) (fun _ => rfl) (fun e => absurd rfl e) (fun _ => rfl))

/-- A charge stores the entry of its vehicle, or moves a counter, or does nothing. -/
theorem moved_charge {c : ConfigBlock} {s : State} (v n : Nat) (hb : s.store.block = some c) :
    Moved s (charge c v n s) := by
  unfold charge
  split
  · exact .inl (.refl s)
  · next e he =>
    split
    · exact .inl (.refl s)
    · split
      · exact .inr (.of_changeEntry hb ((carriesWorst_entry he).congr rfl rfl))
      · split
        · exact .inr (.of_changeEntry hb ((carriesWorst_entry he).congr rfl rfl))
        · exact .inl (.of_frame ⟨rfl, rfl, rfl, rfl, rfl, rfl, rfl⟩)

theorem noticesTrue_complete {c : ConfigBlock} {s : State} (h : Fin 4) (x : IssueContext)
    (hb : s.store.block = some c) (hs : NoticesTrue s) : NoticesTrue (complete c h x s) := by
  have ended := noticesTrue_of_quiet hs (quiet_enterEnded c h x.limit s)
  have charged := noticesTrue_of_moved ended (moved_charge x.vehicle
    ((enterEnded c h x.limit s).hose h).meter.delivered (by simpa using hb))
  have committed := noticesTrue_commitRecord h (x.withVolumes ((enterEnded c h x.limit s).hose h).meter) charged
  have raised := noticesTrue_of_quiet committed (quiet_raise .issueEnded _ (by decide))
  exact noticesTrue_of_quiet (noticesTrue_completionHealth c h _ _ _ raised) (quiet_examineNozzle h _)

theorem noticesTrue_actOnFindings {s : State} (c : ConfigBlock) (h : Fin 4) (f : PulseFindings)
    (hs : NoticesTrue s) : NoticesTrue (actOnFindings c h f s) := by
  unfold actOnFindings
  split
  · exact noticesTrue_healthEvent c h
      (noticesTrue_of_quiet hs ((quiet_markIssue h s).trans (quiet_close c h .fault _)))
  · split
    · exact noticesTrue_of_quiet hs (quiet_close c h _ s)
    · split
      · exact noticesTrue_of_quiet hs (quiet_enterSlowing c h s)
      · exact hs

theorem noticesTrue_takePulse {s : State} (c : ConfigBlock) (h : Fin 4) (n : Nat) (hs : NoticesTrue s) :
    NoticesTrue (takePulse c h n s) := by
  unfold takePulse
  split
  · exact noticesTrue_actOnFindings c h _
      (noticesTrue_of_quiet hs ((quiet_mapMeter s h _).trans (quiet_mapCtl _ h _)))
  · have counted := noticesTrue_of_quiet hs (quiet_mapMeter s h (Meter.creepPulse c.pulseStep[h]))
    simp only [creepPulse]
    split
    · exact noticesTrue_healthEvent c h counted
    · exact counted

/-! ### The commands that move a condition or rewrite the table -/

theorem noticesTrue_serve {kind : Nat} {s : State} {request : State → Reply} (hs : NoticesTrue s)
    (h : NoticesTrue (request s).1) : NoticesTrue (serve kind s request) :=
  (quiet_serve kind s request).elim (noticesTrue_of_quiet hs) (noticesTrue_of_quiet h)

/-- The table rewritten soundly, each condition kept. -/
theorem noticesTrue_mapNotices {s : State} {f : Fin 12 → NoticeEntry → NoticeEntry}
    (hf : ∀ i e, EntrySound i e → EntrySound i (f i e)) (hc : ∀ i e, (f i e).condition = e.condition)
    (hs : NoticesTrue s) : NoticesTrue (s.mapNotices f) :=
  noticesTrue_of_keeps hs ⟨rfl, rfl, fun _ => rfl, rfl, rfl,
    fun i => by rw [Fin.getElem_fin, entries_mapNotices, hc]; rfl, tableSound_mapNotices hf⟩

theorem noticesTrue_powerOn (s : State) : NoticesTrue (powerOn s) := by
  have frozen : ∀ h, ((powerOn s).hose h).health.frozen = false := fun h => by
    simp [powerOn, State.powerOn, State.hose, Hose.powerOn]
  have entry : ∀ i : Fin 12, (powerOn s).notices.entries[i] = NoticeEntry.powerOn := fun i => by
    simp [powerOn, State.powerOn]
  have attention : anyTable (powerOn s).notices.entries (·.pending) = false := by
    rw [Bool.eq_false_iff, Ne, anyTable_iff]
    simp [entry, NoticeEntry.powerOn]
  have hoseOut : sourceValue (powerOn s) 8 = false := by
    rw [Bool.eq_false_iff]
    simp [sourceValue, anyTable_hoses, frozen]
  rw [noticesTrue_iff]
  refine ⟨⟨attention.symm, fun i => ?_⟩, (forall_source _).mpr ⟨fun i hi => ?_, ?_, ?_, ?_, ?_⟩⟩
  · rw [entry]
    exact ⟨fun _ => ⟨rfl, rfl⟩, fun h => by simp [NoticeEntry.powerOn] at h⟩
  · rw [entry, sourceValue_occurrence _ hi]; rfl
  · rw [entry]; exact hoseOut.symm
  · rw [entry]; rfl
  · rw [entry]; rfl
  · rw [entry]; rfl

/-- The view emptied and the watch list with it: OVERDUE_PRESENT is false under any configuration (R172). -/
theorem noticesTrue_emptyView {s : State} (h : NoticesTrueBut 11 s) : NoticesTrue (emptyView s) := by
  refine noticesTrue_report (src := .overduePresent)
    (h.moved rfl (fun _ => rfl) (fun _ => rfl) (fun _ => rfl) (fun e => absurd rfl e)) ?_
  show false = State.overdueShown _
  unfold State.overdueShown
  split <;> rfl

theorem noticesTrue_restartFilters {s : State} (h : NoticesTrue s) : NoticesTrue (restartFilters s) := by
  refine noticesTrue_report (src := .stopActive)
    ((noticesTrueBut_of_true 9 h).moved rfl (fun _ => ?_) (fun e => absurd rfl e) (fun _ => rfl) (fun _ => rfl)) rfl
  show anyTable _ _ = anyTable _ _
  rw [Bool.eq_iff_iff, anyTable_iff, anyTable_iff]
  simp [mapTable]

theorem noticesTrue_installConfig {s : State} (c : ConfigBlock) (h : NoticesTrue s) :
    NoticesTrue (installConfig c s) := by
  have stored : NoticesTrueBut 11 { s with
      store := { s.store with block := some c, part1 := none, part2 := none } } :=
    (noticesTrueBut_of_true 11 h).moved rfl (fun _ => rfl) (fun _ => rfl) (fun _ => rfl) (fun e => absurd rfl e)
  have allowances := noticesTrue_of_quiet (noticesTrue_emptyView stored) (quiet_loadAllowances c _)
  have filters := noticesTrue_restartFilters (noticesTrue_of_quiet allowances (quiet_clockUnderConfig c _))
  exact noticesTrue_reportHoseOut (eachHose_inv (NoticesTrueBut 8) (hoseUnderConfig c)
    (fun k u hu => (hu.mapHealth k _).of_keeps (quiet_enterState k _ _).toKeepsSources) _ (noticesTrueBut_of_true 8 filters))

theorem noticesTrue_loadConfig {s : State} (part : Nat) (bytes : List Byte) (h : NoticesTrue s) :
    NoticesTrue (loadConfig part bytes s).1 := by
  have block : ∀ p1 p2, NoticesTrue (loadBlock p1 p2 s).1 := fun p1 p2 => by
    unfold loadBlock
    split
    · exact noticesTrue_of_quiet h (quiet_dropParts s)
    · exact noticesTrue_installConfig _ h
  have held : ∀ store : ConfigStore, store.block = s.store.block → NoticesTrue { s with store := store } :=
    fun store hb => noticesTrue_of_quiet h (.of_frame ⟨hb, rfl, rfl, rfl, rfl, rfl, rfl⟩)
  unfold loadConfig
  split
  · exact h
  · split
    · exact h
    · split
      · split
        · exact held _ rfl
        · exact block _ _
      · split
        · split
          · exact held _ rfl
          · exact block _ _
        · exact h

theorem noticesTrue_restartHose {c : ConfigBlock} {s : State} (h : Fin 4) (hb : s.store.block = some c)
    (hs : NoticesTrue s) : NoticesTrue (restartHose c h s) := by
  unfold restartHose
  split
  · exact noticesTrue_of_quiet hs (quiet_cancel h s)
  · split
    · split
      · exact hs
      · exact noticesTrue_complete h _ hb (noticesTrue_of_quiet hs (quiet_mapContext s h _))
    · exact hs

theorem noticesTrue_restartStation {c : ConfigBlock} {s : State} (hb : s.store.block = some c)
    (h : NoticesTrue s) : NoticesTrue (restartStation c s) := by
  have table : NoticesTrue (s.mapNotices restartEntry) :=
    noticesTrue_mapNotices (fun _ _ _ => entrySound_restart) (fun _ _ => rfl) h
  have hoses := eachHose_inv (fun u => u.store.block = some c ∧ NoticesTrue u) (restartHose c)
    (fun k u hu => ⟨by simpa using hu.1, noticesTrue_restartHose k hu.1 hu.2⟩) (s.mapNotices restartEntry)
    ⟨hb, table⟩
  exact noticesTrue_of_quiet hoses.2
    (((quiet_mapRadio _ _).trans (quiet_enterListenIn c _)).trans (quiet_startSchedules _))

theorem noticesTrue_restart {s : State} (h : NoticesTrue s) : NoticesTrue (restart s).1 := by
  unfold restart
  split
  · next c hr hb => exact noticesTrue_restartStation hb h
  · exact h

theorem noticesTrue_clearHoseFault {s : State} (hose : Nat) (h : NoticesTrue s) :
    NoticesTrue (clearHoseFault hose s).1 := by
  unfold clearHoseFault
  split
  · exact h
  · next k hk =>
    split
    · exact noticesTrue_of_quiet (noticesTrue_reportHoseOut ((noticesTrueBut_of_true 8 h).mapHealth k _)) (quiet_thawHose k _)
    · exact h

theorem noticesTrue_releaseRecord {s : State} (number : Nat) (h : NoticesTrue s) :
    NoticesTrue (releaseRecord number s).1 := by
  unfold releaseRecord
  split
  · exact h
  · split
    · exact h
    · split
      · exact noticesTrue_reportWaiting
          ((noticesTrueBut_of_true 10 h).moved rfl (fun _ => rfl) (fun _ => rfl) (fun e => absurd rfl e) (fun _ => rfl))
      · exact h

theorem noticesTrue_ackNotice {s : State} (source : Nat) (h : NoticesTrue s) :
    NoticesTrue (ackNotice source s).1 := by
  unfold ackNotice
  split
  · exact h
  · next i hi =>
    refine noticesTrue_of_keeps h ⟨rfl, rfl, fun _ => rfl, rfl, rfl, fun j => ?_,
      tableSound_mapNotice fun _ => entrySound_ack⟩
    show (s.mapNotice i (ackEntry i)).notices.entries[j].condition = _
    rw [Fin.getElem_fin, entries_mapNotice]
    split
    · exact condition_ack i _
    · rfl

theorem noticesTrue_setNoticeEnables {s : State} (mask : Nat) (h : NoticesTrue s) :
    NoticesTrue (setNoticeEnables mask s).1 := by
  unfold setNoticeEnables
  split
  · exact h
  · exact noticesTrue_mapNotices (fun _ _ => entrySound_enable _) (fun _ _ => condition_enable _ _ _) h

theorem noticesTrue_changeStop {s : State} (c : ConfigBlock) (b : Bool) (h : NoticesTrue s) :
    NoticesTrue (changeStop c b s) := by
  have set : NoticesTrue (setStop c b s) := noticesTrue_report (src := .stopActive)
    ((noticesTrueBut_of_true 9 h).moved rfl (fun _ => rfl) (fun e => absurd rfl e) (fun _ => rfl) (fun _ => rfl)) rfl
  have driven := noticesTrue_of_quiet set (quiet_eachHose quiet_driveValves _)
  simp only [changeStop]
  split
  · exact noticesTrue_of_quiet driven (quiet_eachHose (fun k => quiet_endIssue c k .estop) _)
  · exact driven

theorem noticesTrue_execStopLineChange {b : Bool} {s t : State} (h : NoticesTrue s)
    (he : execStopLineChange b s = .next t) : NoticesTrue t := by
  unfold execStopLineChange at he
  split at he
  · cases he; exact h
  · cases he
    split
    · exact h
    · exact noticesTrue_changeStop _ b h

theorem noticesTrue_execMeterPulse {hose ticks : Nat} {s t : State} (h : NoticesTrue s)
    (he : execMeterPulse hose ticks s = .next t) : NoticesTrue t := by
  unfold execMeterPulse at he
  split at he
  · cases he; exact h
  · next c k hk =>
    cases he
    exact noticesTrue_takePulse c k ticks (noticesTrue_of_quiet h (quiet_setMeterInput c k s))

/-- A field event finds the configuration in force. -/
theorem block_of_fieldHose {s : State} {hose : Nat} {c : ConfigBlock} {h : Fin 4}
    (e : s.fieldHose hose = some (c, h)) : s.store.block = some c := by
  unfold State.fieldHose at e
  split at e
  · next c' h' hb hh =>
    split at e
    · cases e; exact hb
    · cases e
  · cases e

theorem noticesTrue_execOverrunWindowExpiry {hose : Nat} {s t : State} (h : NoticesTrue s)
    (he : execOverrunWindowExpiry hose s = .next t) : NoticesTrue t := by
  unfold execOverrunWindowExpiry at he
  split at he
  · cases he; exact h
  · next c k hk =>
    split at he
    · cases he; exact noticesTrue_complete k _ (block_of_fieldHose hk) h
    · cases he; exact h

/-- Every command keeps the notices true. -/
theorem exec_noticesTrue {i : Instr} {s t : State} (h : NoticesTrue s) (he : exec i s = .next t) :
    NoticesTrue t := by
  cases hi : beyondMoved i with
  | false => exact noticesTrue_of_moved h (exec_moved hi he)
  | true =>
    cases i with
    | powerOn => rw [← next_inj he]; exact noticesTrue_powerOn s
    | loadConfig part bytes => rw [← next_inj he]; exact noticesTrue_serve h (noticesTrue_loadConfig part bytes h)
    | restart => rw [← next_inj he]; exact noticesTrue_serve h (noticesTrue_restart h)
    | clearHoseFault hose => rw [← next_inj he]; exact noticesTrue_serve h (noticesTrue_clearHoseFault hose h)
    | releaseRecord n => rw [← next_inj he]; exact noticesTrue_serve h (noticesTrue_releaseRecord n h)
    | readNotices =>
      rw [← next_inj he]
      exact noticesTrue_serve h (noticesTrue_mapNotices (fun _ _ => entrySound_read) (fun _ _ => rfl) h)
    | ackNotice n => rw [← next_inj he]; exact noticesTrue_serve h (noticesTrue_ackNotice n h)
    | setNoticeEnables m => rw [← next_inj he]; exact noticesTrue_serve h (noticesTrue_setNoticeEnables m h)
    | stopLineChange b => exact noticesTrue_execStopLineChange h he
    | meterPulse hose ticks => exact noticesTrue_execMeterPulse h he
    | overrunWindowExpiry hose => exact noticesTrue_execOverrunWindowExpiry h he
    | _ => cases hi

/-- Settles O51: a step is a command or a tick; a command moves no source but where it reports the source's condition. -/
theorem stepKeepsNotices : Obligations.StepKeepsNotices := by
  intro s t h he
  rcases step_cases s with ⟨c, rest, -, e⟩ | ⟨-, c, m, e⟩ | ⟨-, e⟩
  · exact exec_noticesTrue (s := { s with pending := rest }) h (e.symm.trans he)
  · exact exec_noticesTrue (s := { s with model := m }) h (e.symm.trans he)
  · rw [← next_inj (e.symm.trans he)]
    exact noticesTrue_of_quiet h (quiet_tick s)

end Sys2Proof.Machine.ServiceIntervals
end

section
/-! The watch list as a list of members by itself: what R40 asks of it over the members that qualify, and what each
update of Table 2-5 makes of it. -/

namespace Sys2Proof.Machine.ServiceIntervals

open Sys2Proof Sys2Proof.Machine

/-! ### The order of members -/

theorem before_iff (a b : WatchMember) :
    a.before b ↔ b.usage < a.usage ∨ a.usage = b.usage ∧ a.vehicle < b.vehicle := by
  simp [WatchMember.before, ranksAhead]

theorem before_trans {a b c : WatchMember} (h : a.before b) (k : b.before c) : a.before c := by
  rw [before_iff] at *; omega

theorem before_irrefl (a : WatchMember) : ¬ a.before a := by
  rw [before_iff]; omega

/-- Of two vehicles one stands before the other. -/
theorem before_of_not_before {a b : WatchMember} (hn : a.vehicle ≠ b.vehicle) (h : ¬ b.before a) : a.before b := by
  rw [before_iff] at *; omega

theorem mem_insertRanked (m x : WatchMember) (l : List WatchMember) : x ∈ insertRanked m l ↔ x = m ∨ x ∈ l := by
  induction l with
  | nil => simp [insertRanked]
  | cons y l ih =>
    unfold insertRanked
    split
    · simp
    · simp only [List.mem_cons, ih]; tauto

theorem length_insertRanked (m : WatchMember) (l : List WatchMember) :
    (insertRanked m l).length = l.length + 1 := by
  induction l with
  | nil => rfl
  | cons y l ih =>
    unfold insertRanked
    split
    · rfl
    · simp [ih]

/-- A member of another vehicle than those of an ordered list, inserted, leaves it ordered. -/
theorem sorted_insertRanked {m : WatchMember} {l : List WatchMember} (hl : l.Pairwise WatchMember.before)
    (hm : ∀ x ∈ l, x.vehicle ≠ m.vehicle) : (insertRanked m l).Pairwise WatchMember.before := by
  induction l with
  | nil => simp [insertRanked]
  | cons y l ih =>
    obtain ⟨hy, hl'⟩ := List.pairwise_cons.mp hl
    unfold insertRanked
    split
    · next h =>
      refine List.pairwise_cons.mpr ⟨fun x hx => ?_, hl⟩
      rcases List.mem_cons.mp hx with rfl | hx
      · exact h
      · exact before_trans h (hy x hx)
    · next h =>
      refine List.pairwise_cons.mpr ⟨fun x hx => ?_, ih hl' fun x hx => hm x (.tail _ hx)⟩
      rcases (mem_insertRanked m x l).mp hx with rfl | hx
      · exact before_of_not_before (hm y (.head _)) h
      · exact hy x hx

/-! ### An exact list over the members that qualify -/

/-- The conditions of R40 over the members that qualify: the list is ordered, has room, holds none but qualifying
members, and every other one stands behind a full list. -/
structure Exact (Q : WatchMember → Prop) (l : List WatchMember) : Prop where
  sorted  : l.Pairwise WatchMember.before
  room    : l.length ≤ watchRoom
  qualify : ∀ m ∈ l, Q m
  rest    : ∀ m, Q m → m ∉ l → l.length = watchRoom ∧ ∀ x ∈ l, x.before m

/-- A vehicle has one member that qualifies at most. -/
def OnePerVehicle (Q : WatchMember → Prop) : Prop := ∀ m n, Q m → Q n → m.vehicle = n.vehicle → m = n

/-- The members that qualify after the vehicle of `v` has become the member `v`, which qualifies when `now` holds. -/
def Replaces (Q Q' : WatchMember → Prop) (v : WatchMember) (now : Prop) : Prop :=
  ∀ m, Q' m ↔ (m = v ∧ now) ∨ (m.vehicle ≠ v.vehicle ∧ Q m)

/-- The members of other vehicles. -/
def othersOf (v : WatchMember) (l : List WatchMember) : List WatchMember := l.filter fun m => m.vehicle != v.vehicle

theorem mem_othersOf {v m : WatchMember} {l : List WatchMember} : m ∈ othersOf v l ↔ m ∈ l ∧ m.vehicle ≠ v.vehicle := by
  simp [othersOf]

theorem listed_iff {l : List WatchMember} {n : Nat} : listed l n = true ↔ ∃ m ∈ l, m.vehicle = n := by
  simp [listed]

/-- A qualifying member stands on the list exactly when its vehicle does. -/
theorem mem_iff_listed {Q : WatchMember → Prop} {l : List WatchMember} {m : WatchMember} (one : OnePerVehicle Q)
    (hx : Exact Q l) (hm : Q m) : m ∈ l ↔ listed l m.vehicle = true := by
  rw [listed_iff]
  refine ⟨fun h => ⟨m, h, rfl⟩, fun ⟨x, hxl, he⟩ => ?_⟩
  rwa [← one x m (hx.qualify x hxl) hm he]

section Update

variable {Q Q' : WatchMember → Prop} {v : WatchMember} {now : Prop} {l : List WatchMember}

theorem othersOf_eq_self (h : listed l v.vehicle = false) : othersOf v l = l := by
  refine List.filter_eq_self.mpr fun m hm => ?_
  have : ¬ listed l v.vehicle = true := by simp [h]
  rw [listed_iff] at this
  simpa using fun e => this ⟨m, hm, e⟩

/-- A listed vehicle is listed once. -/
theorem length_othersOf (one : OnePerVehicle Q) (hx : Exact Q l) (h : listed l v.vehicle = true) :
    (othersOf v l).length + 1 = l.length := by
  obtain ⟨old, hold, he⟩ := listed_iff.mp h
  have nodup : l.Nodup := hx.sorted.imp (S := (· ≠ ·)) fun hab e => by
    rw [e] at hab; exact before_irrefl _ hab
  have erased : othersOf v l = l.erase old := by
    rw [nodup.erase_eq_filter]
    refine List.filter_congr fun m hm => ?_
    rw [Bool.eq_iff_iff, bne_iff_ne, bne_iff_ne, ← he, not_iff_not]
    exact ⟨one m old (hx.qualify m hm) (hx.qualify old hold), congrArg _⟩
  rw [erased, List.length_erase_of_mem hold]
  have := List.length_pos_of_mem hold
  omega

theorem sorted_othersOf (hx : Exact Q l) : (othersOf v l).Pairwise WatchMember.before :=
  hx.sorted.sublist List.filter_sublist

theorem qualify_othersOf (hx : Exact Q l) (hr : Replaces Q Q' v now) {m : WatchMember} (hm : m ∈ othersOf v l) :
    Q' m :=
  have ⟨hml, hmv⟩ := mem_othersOf.mp hm
  (hr m).mpr (.inr ⟨hmv, hx.qualify m hml⟩)

/-- Another vehicle's qualifying member off the others was off the list. -/
theorem rest_othersOf (hx : Exact Q l) {m : WatchMember} (hq : Q m) (hv : m.vehicle ≠ v.vehicle)
    (hm : m ∉ othersOf v l) : m ∉ l ∧ l.length = watchRoom ∧ ∀ x ∈ l, x.before m := by
  have off : m ∉ l := fun h => hm (mem_othersOf.mpr ⟨h, hv⟩)
  exact ⟨off, hx.rest m hq off⟩

/-- A listed vehicle that qualifies and that no unlisted one ranks ahead of: moved to its ordered place. -/
theorem Exact.placed (one : OnePerVehicle Q) (hx : Exact Q l) (hr : Replaces Q Q' v now) (hnow : now)
    (hl : listed l v.vehicle = true)
    (behind : ∀ m, Q' m → listed l m.vehicle = false → v.before m) :
    Exact Q' (insertRanked v (othersOf v l)) := by
  have length : (insertRanked v (othersOf v l)).length = l.length :=
    (length_insertRanked v _).trans (length_othersOf one hx hl)
  refine ⟨sorted_insertRanked (sorted_othersOf hx) fun x hx => (mem_othersOf.mp hx).2, length ▸ hx.room,
    fun m hm => ?_, fun m hm hn => ?_⟩
  · rcases (mem_insertRanked _ _ _).mp hm with rfl | hm
    · exact (hr m).mpr (.inl ⟨rfl, hnow⟩)
    · exact qualify_othersOf hx hr hm
  · rw [mem_insertRanked, not_or] at hn
    obtain ⟨hne, hno⟩ := hn
    obtain ⟨hv, hq⟩ := ((hr m).mp hm).resolve_left fun h => hne h.1
    obtain ⟨off, full, ahead⟩ := rest_othersOf hx hq hv hno
    have unlisted : listed l m.vehicle = false := by
      rwa [mem_iff_listed one hx hq, Bool.not_eq_true] at off
    refine ⟨length.trans full, fun x hxm => ?_⟩
    rcases (mem_insertRanked _ _ _).mp hxm with rfl | hxm
    · exact behind m hm unlisted
    · exact ahead x (mem_othersOf.mp hxm).1

/-- A listed vehicle leaves the list for the best unlisted one, which ranks ahead of it or finds it no longer
qualifying. -/
theorem Exact.replaced {b : WatchMember} (one : OnePerVehicle Q) (hx : Exact Q l) (hr : Replaces Q Q' v now)
    (hl : listed l v.vehicle = true) (hb : Q' b) (hbl : listed l b.vehicle = false)
    (best : ∀ m, Q' m → listed l m.vehicle = false → m = b ∨ b.before m) (ahead : now → b.before v) :
    Exact Q' (othersOf v l ++ [b]) := by
  have hbv : b.vehicle ≠ v.vehicle := fun e => by rw [e, hl] at hbl; cases hbl
  have hqb : Q b := (((hr b).mp hb).resolve_left fun h => hbv (congrArg _ h.1)).2
  obtain ⟨full, front⟩ := hx.rest b hqb fun h => by
    rw [(mem_iff_listed one hx hqb).mp h] at hbl; cases hbl
  have others_before : ∀ x ∈ othersOf v l, x.before b := fun x hxo => front x (mem_othersOf.mp hxo).1
  have length : (othersOf v l ++ [b]).length = watchRoom := by
    rw [List.length_append, ← full]; exact length_othersOf one hx hl
  have behind : ∀ {m}, b.before m → ∀ x ∈ othersOf v l ++ [b], x.before m := fun hbm x hxm => by
    rcases List.mem_append.mp hxm with h | h
    · exact before_trans (others_before x h) hbm
    · rwa [List.mem_singleton.mp h]
  refine ⟨List.pairwise_append.mpr ⟨sorted_othersOf hx, List.pairwise_singleton _ _, fun x hxo y hy => ?_⟩,
    length.le, fun m hm => ?_, fun m hm hn => ⟨length, ?_⟩⟩
  · rw [List.mem_singleton.mp hy]; exact others_before x hxo
  · rcases List.mem_append.mp hm with h | h
    · exact qualify_othersOf hx hr h
    · rwa [List.mem_singleton.mp h]
  · rw [List.mem_append, List.mem_singleton, not_or] at hn
    obtain ⟨hno, hnb⟩ := hn
    rcases (hr m).mp hm with ⟨rfl, hnow⟩ | ⟨hv, hq⟩
    · exact behind (ahead hnow)
    · obtain ⟨off, -⟩ := rest_othersOf hx hq hv hno
      rw [mem_iff_listed one hx hq, Bool.not_eq_true] at off
      exact behind ((best m hm off).resolve_left hnb)

/-- A listed vehicle that no longer qualifies leaves the list, every other qualifying vehicle being listed. -/
theorem Exact.removed (one : OnePerVehicle Q) (hx : Exact Q l) (hr : Replaces Q Q' v now) (hnow : ¬ now)
    (all : ∀ m, Q' m → listed l m.vehicle = true) : Exact Q' (othersOf v l) := by
  refine ⟨sorted_othersOf hx, (List.length_filter_le _ _).trans hx.room, fun m => qualify_othersOf hx hr,
    fun m hm hn => ?_⟩
  obtain ⟨hv, hq⟩ := ((hr m).mp hm).resolve_left fun h => hnow h.2
  exact absurd ((mem_iff_listed one hx hq).mpr (all m hm)) (rest_othersOf hx hq hv hn).1

/-- An unlisted vehicle that does not qualify leaves the list as it is. -/
theorem Exact.untouched (hx : Exact Q l) (hr : Replaces Q Q' v now) (hnow : ¬ now)
    (hl : listed l v.vehicle = false) : Exact Q' l := by
  refine ⟨hx.sorted, hx.room, fun m hm => ?_, fun m hm hn => ?_⟩
  · rw [← othersOf_eq_self hl] at hm
    exact qualify_othersOf hx hr hm
  · exact hx.rest m (((hr m).mp hm).resolve_left fun h => hnow h.2).2 hn

/-- An unlisted vehicle that qualifies is inserted at its ordered place, and the last of 25 leaves the list. -/
theorem Exact.inserted (hx : Exact Q l) (hr : Replaces Q Q' v now) (hnow : now)
    (hl : listed l v.vehicle = false) : Exact Q' ((insertRanked v l).take watchRoom) := by
  have hv : ∀ x ∈ l, x.vehicle ≠ v.vehicle := fun x hxl e => by
    rw [listed_iff.mpr ⟨x, hxl, e⟩] at hl; cases hl
  have sorted := sorted_insertRanked hx.sorted hv
  have length := length_insertRanked v l
  have qualify : ∀ m ∈ insertRanked v l, Q' m := fun m hm => by
    rcases (mem_insertRanked _ _ _).mp hm with rfl | hm
    · exact (hr m).mpr (.inl ⟨rfl, hnow⟩)
    · exact (hr m).mpr (.inr ⟨hv m hm, hx.qualify m hm⟩)
  rcases Nat.lt_or_ge l.length watchRoom with short | full
  · rw [List.take_of_length_le (by omega)]
    refine ⟨sorted, by omega, qualify, fun m hm hn => ?_⟩
    rw [mem_insertRanked, not_or] at hn
    have hq := (((hr m).mp hm).resolve_left fun h => hn.1 h.1).2
    have := (hx.rest m hq hn.2).1
    omega
  · have full : l.length = watchRoom := Nat.le_antisymm hx.room full
    refine ⟨sorted.sublist (List.take_sublist _ _), by simp, fun m hm => qualify m (List.mem_of_mem_take hm),
      fun m hm hn => ⟨by simp [length, full], ?_⟩⟩
    -- the member that leaves stands behind those that stay, and the unlisted ones behind it
    have split : insertRanked v l = (insertRanked v l).take watchRoom ++ (insertRanked v l).drop watchRoom :=
      (List.take_append_drop _ _).symm
    have dropped : ∀ x ∈ (insertRanked v l).take watchRoom, ∀ y ∈ (insertRanked v l).drop watchRoom, x.before y := by
      rw [split, List.pairwise_append] at sorted
      exact sorted.2.2
    by_cases hin : m ∈ insertRanked v l
    · rw [split, List.mem_append] at hin
      exact fun x hxt => dropped x hxt m (hin.resolve_left hn)
    · rw [mem_insertRanked, not_or] at hin
      have hq := (((hr m).mp hm).resolve_left fun h => hin.1 h.1).2
      have ahead := (hx.rest m hq hin.2).2
      have some_dropped : 0 < ((insertRanked v l).drop watchRoom).length := by
        rw [List.length_drop, length, full]; omega
      intro x hxt
      rcases (mem_insertRanked _ _ _).mp (List.mem_of_mem_take hxt) with rfl | hxl
      · obtain ⟨y, hy⟩ := List.exists_mem_of_length_pos some_dropped
        have hyx := dropped x hxt y hy
        rcases (mem_insertRanked _ _ _).mp (List.mem_of_mem_drop hy) with rfl | hyl
        · exact absurd hyx (before_irrefl y)
        · exact before_trans hyx (ahead y hyl)
      · exact ahead x hxl

end Update

end Sys2Proof.Machine.ServiceIntervals
end

section
/-! The watch list over the entries of the view: which members qualify, the best unlisted vehicle, and the update of
R41 as a step from one exact list to another. -/

namespace Sys2Proof.Machine.ServiceIntervals

open Sys2Proof Sys2Proof.Machine

/-- A member that some entry of the view makes, and that qualifies (R40). -/
def Qualifies (c : ConfigBlock) (entries : List VehicleEntry) (m : WatchMember) : Prop :=
  ∃ e ∈ entries, m = memberOf e ∧ c.warn ≤ e.worst

/-- R40 on a list is its exactness over the members that qualify, with the overflow count. -/
theorem watchExact_iff (c : ConfigBlock) (entries : List VehicleEntry) (w : WatchBlock) :
    WatchExact c entries w ↔ Exact (Qualifies c entries) w.members ∧
      w.overflow = (qualifying c entries).length - w.members.length := by
  constructor
  · rintro ⟨sorted, room, qualify, rest, overflow⟩
    refine ⟨⟨sorted, room, qualify, ?_⟩, overflow⟩
    rintro _ ⟨e, he, rfl, hw⟩
    exact rest e he hw
  · rintro ⟨⟨sorted, room, qualify, rest⟩, overflow⟩
    exact ⟨sorted, room, qualify, fun e he hw => rest _ ⟨e, he, rfl, hw⟩, overflow⟩

/-! ### Entries by number -/

/-- The entries stand in strictly ascending order of vehicle number (R1). -/
def Ascending (entries : List VehicleEntry) : Prop := entries.Pairwise fun a b => a.number < b.number

theorem Ascending.eq_of_number {entries : List VehicleEntry} (ha : Ascending entries) {x y : VehicleEntry}
    (hx : x ∈ entries) (hy : y ∈ entries) (hn : x.number = y.number) : x = y := by
  have nodup : (entries.map (·.number)).Nodup := List.pairwise_map.mpr (ha.imp Nat.ne_of_lt)
  exact List.inj_on_of_nodup_map nodup hx hy hn

theorem onePerVehicle_qualifies {c : ConfigBlock} {entries : List VehicleEntry} (ha : Ascending entries) :
    OnePerVehicle (Qualifies c entries) := by
  rintro _ _ ⟨x, hx, rfl, -⟩ ⟨y, hy, rfl, -⟩ hn
  rw [ha.eq_of_number hx hy hn]

/-- The entries after one is put: itself, and those of the other vehicles. -/
theorem mem_putEntry {e x : VehicleEntry} {entries : List VehicleEntry} (ha : Ascending entries) :
    x ∈ putEntry e entries ↔ x = e ∨ x.number ≠ e.number ∧ x ∈ entries := by
  induction entries with
  | nil => simp [putEntry]
  | cons y l ih =>
    obtain ⟨hy, hl⟩ := List.pairwise_cons.mp ha
    have beyond : e.number ≤ y.number → x ∈ l → x.number ≠ e.number := fun h hx => by
      have := hy x hx; omega
    unfold putEntry
    split
    · next h =>
      have own : x = y → x.number ≠ e.number := by rintro rfl; omega
      have := beyond (by omega)
      simp only [List.mem_cons]; tauto
    · split
      · next h =>
        have own : x = y → x.number = e.number := by rintro rfl; omega
        have := beyond (by omega)
        simp only [List.mem_cons]; tauto
      · next h =>
        have own : x = y → x.number ≠ e.number := by rintro rfl; omega
        simp only [List.mem_cons, ih hl]; tauto

theorem ascending_putEntry {e : VehicleEntry} {entries : List VehicleEntry} (ha : Ascending entries) :
    Ascending (putEntry e entries) := by
  induction entries with
  | nil => simp [putEntry, Ascending]
  | cons y l ih =>
    obtain ⟨hy, hl⟩ := List.pairwise_cons.mp ha
    unfold putEntry
    split
    · next h =>
      refine List.pairwise_cons.mpr ⟨fun x hx => ?_, ha⟩
      rcases List.mem_cons.mp hx with rfl | hx
      · exact h
      · exact h.trans (hy x hx)
    · split
      · next h => exact List.pairwise_cons.mpr ⟨fun x hx => h ▸ hy x hx, hl⟩
      · refine List.pairwise_cons.mpr ⟨fun x hx => ?_, ih hl⟩
        rcases (mem_putEntry hl).mp hx with rfl | ⟨-, hx⟩
        · omega
        · exact hy x hx

theorem replaces_putEntry {c : ConfigBlock} {e : VehicleEntry} {entries : List VehicleEntry}
    (ha : Ascending entries) :
    Replaces (Qualifies c entries) (Qualifies c (putEntry e entries)) (memberOf e) (c.warn ≤ e.worst) := by
  intro m
  constructor
  · rintro ⟨x, hx, rfl, hw⟩
    rcases (mem_putEntry ha).mp hx with rfl | ⟨hn, hx⟩
    · exact .inl ⟨rfl, hw⟩
    · exact .inr ⟨hn, x, hx, rfl, hw⟩
  · rintro (⟨rfl, hw⟩ | ⟨hn, x, hx, rfl, hw⟩)
    · exact ⟨e, (mem_putEntry ha).mpr (.inl rfl), rfl, hw⟩
    · exact ⟨x, (mem_putEntry ha).mpr (.inr ⟨hn, hx⟩), rfl, hw⟩

/-! ### The best unlisted vehicle (R41) -/

/-- `b` is the best of some entries: one of them, and none ranks ahead of it. -/
def BestOf (l : List VehicleEntry) (b : VehicleEntry) : Prop :=
  b ∈ l ∧ ∀ x ∈ l, ¬ (memberOf x).before (memberOf b)

/-- The best of some entries against one more. -/
theorem foldl_betterRanked (l seen : List VehicleEntry) (best : VehicleEntry) (h : BestOf seen best) :
    ∃ b, l.foldl betterRanked (some best) = some b ∧ BestOf (seen ++ l) b := by
  induction l generalizing seen best with
  | nil => exact ⟨best, rfl, by rwa [List.append_nil]⟩
  | cons x l ih =>
    obtain ⟨hb, hbest⟩ := h
    rw [List.foldl_cons, List.append_cons]
    by_cases hx : (memberOf x).before (memberOf best)
    · rw [show betterRanked (some best) x = some x from if_pos hx]
      refine ih _ _ ⟨List.mem_append_right _ (.head _), fun y hy hyx => ?_⟩
      rcases List.mem_append.mp hy with hy | hy
      · exact hbest y hy (before_trans hyx hx)
      · rw [List.mem_singleton.mp hy] at hyx
        exact before_irrefl _ hyx
    · rw [show betterRanked (some best) x = some best from if_neg hx]
      refine ih _ _ ⟨List.mem_append_left _ hb, fun y hy => ?_⟩
      rcases List.mem_append.mp hy with hy | hy
      · exact hbest y hy
      · rwa [List.mem_singleton.mp hy]

theorem bestUnlisted_cases (c : ConfigBlock) (entries : List VehicleEntry) (members : List WatchMember) :
    (bestUnlisted c entries members = none ∧
      ∀ m, Qualifies c entries m → listed members m.vehicle = true) ∨
    ∃ b, bestUnlisted c entries members = some b ∧ Qualifies c entries (memberOf b) ∧
      listed members b.number = false ∧
      ∀ m, Qualifies c entries m → listed members m.vehicle = false → ¬ m.before (memberOf b) := by
  have candidate : ∀ x, x ∈ (qualifying c entries).filter (fun e => !listed members e.number) ↔
      (x ∈ entries ∧ c.warn ≤ x.worst) ∧ listed members x.number = false := fun x => by
    simp only [qualifying, List.mem_filter, decide_eq_true_eq, Bool.not_eq_true']
  unfold bestUnlisted
  generalize (qualifying c entries).filter (fun e => !listed members e.number) = l at candidate
  cases l with
  | nil =>
    refine .inl ⟨rfl, ?_⟩
    rintro _ ⟨x, hx, rfl, hw⟩
    by_contra hn
    exact List.not_mem_nil ((candidate x).mpr ⟨⟨hx, hw⟩, Bool.eq_false_iff.mpr hn⟩)
  | cons y l =>
    obtain ⟨b, hb, hmem, hbest⟩ := foldl_betterRanked l [y] y
      ⟨.head _, fun x hx => by rw [List.mem_singleton.mp hx]; exact before_irrefl _⟩
    obtain ⟨⟨hbe, hbw⟩, hbl⟩ := (candidate b).mp hmem
    refine .inr ⟨b, hb, ⟨b, hbe, rfl, hbw⟩, hbl, ?_⟩
    rintro _ ⟨x, hx, rfl, hw⟩ hl
    exact hbest x ((candidate x).mpr ⟨⟨hx, hw⟩, hl⟩)

/-! ### The update (Table 2-5) -/

/-- The update of R41 takes an exact list to an exact list, whatever the worst usage of the vehicle became. -/
theorem exact_watchUpdate {c : ConfigBlock} {e : VehicleEntry} {entries : List VehicleEntry}
    {members : List WatchMember} (ha : Ascending entries) (hx : Exact (Qualifies c entries) members) :
    Exact (Qualifies c (putEntry e entries)) (watchUpdate c (putEntry e entries) e members) := by
  have hr := replaces_putEntry (c := c) (e := e) ha
  have one := onePerVehicle_qualifies (c := c) ha
  have one' := onePerVehicle_qualifies (c := c) (ascending_putEntry (e := e) ha)
  have others : members.filter (fun m => m.vehicle != e.number) = othersOf (memberOf e) members := rfl
  simp only [watchUpdate, others]
  cases hl : listed members e.number with
  | false =>
    rw [othersOf_eq_self hl]
    by_cases hw : c.warn ≤ e.worst
    · simp only [hw, decide_true]
      exact hx.inserted hr hw hl
    · simp only [hw, decide_false]
      exact hx.untouched hr hw hl
  | true =>
    rcases bestUnlisted_cases c (putEntry e entries) members with ⟨hb, all⟩ | ⟨b, hb, hbq, hbl, best⟩
    · by_cases hw : c.warn ≤ e.worst
      · simp only [hw, decide_true, hb]
        exact hx.placed one hr hw hl fun m hm hml => absurd (all m hm) (by simp [hml])
      · simp only [hw, decide_false, hb]
        exact hx.removed one hr hw all
    · have first : ∀ m, Qualifies c (putEntry e entries) m → listed members m.vehicle = false →
          m = memberOf b ∨ (memberOf b).before m := fun m hm hml => by
        by_cases hv : m.vehicle = b.number
        · exact .inl (one' m _ hm hbq hv)
        · exact .inr (before_of_not_before (Ne.symm hv) (best m hm hml))
      by_cases hw : c.warn ≤ e.worst
      · simp only [hw, decide_true, hb]
        split
        · next hbe => exact hx.replaced one hr hl hbq hbl first fun _ => hbe
        · next hbe =>
          have hne : (memberOf e).vehicle ≠ (memberOf b).vehicle := fun he => by
            rw [show b.number = e.number from he.symm, hl] at hbl; cases hbl
          have ahead : (memberOf e).before (memberOf b) := before_of_not_before hne hbe
          refine hx.placed one hr hw hl fun m hm hml => ?_
          rcases first m hm hml with rfl | hbm
          · exact ahead
          · exact before_trans ahead hbm
      · simp only [hw, decide_false, hb]
        exact hx.replaced one hr hl hbq hbl first fun h => absurd h hw

/-! ### The invariant of the watch list -/

/-- The view and the watch list as R1, R34 and R40 ask of them: entries in order, each with the usage that its
registers and services give, and an exact list. -/
def WatchKept (c : ConfigBlock) (entries : List VehicleEntry) (w : WatchBlock) : Prop :=
  Ascending entries ∧ (∀ e ∈ entries, withUsage c e = e) ∧ WatchExact c entries w

/-- None of it rests on the origin lists. -/
theorem watchKept_unissued (c : ConfigBlock) (entries : List VehicleEntry) (w : WatchBlock) :
    WatchKept c (entries.map unissued) w ↔ WatchKept c entries w := by
  have ascending : Ascending (entries.map unissued) ↔ Ascending entries := List.pairwise_map
  have usage : ∀ e, withUsage c (unissued e) = unissued e ↔ withUsage c e = e := fun e =>
    ⟨fun h => congrArg (fun x : VehicleEntry => { x with origins := e.origins }) h, congrArg unissued⟩
  have qualifies : Qualifies c (entries.map unissued) = Qualifies c entries := by
    funext m
    simp only [Qualifies, List.mem_map, exists_exists_and_eq_and]
    rfl
  have count : (qualifying c (entries.map unissued)).length = (qualifying c entries).length := by
    simp only [qualifying, List.filter_map, List.length_map]
    rfl
  unfold WatchKept
  rw [ascending, watchExact_iff, watchExact_iff, qualifies, count, List.forall_mem_map]
  simp only [usage]

end Sys2Proof.Machine.ServiceIntervals
end

section
/-! The watch list through every command: an entry stored takes an exact list to an exact list and raises
WATCH_CHANGED as R42 says, and every other operation leaves list and notice as they stand. -/

namespace Sys2Proof.Machine.ServiceIntervals

open Sys2Proof Sys2Proof.Machine

/-! ### One entry stored -/

/-- How many entries qualify is told by the members that they make. -/
theorem length_qualifying_congr {c : ConfigBlock} {l k : List VehicleEntry} (hl : Ascending l) (hk : Ascending k)
    (h : ∀ m, Qualifies c l m ↔ Qualifies c k m) : (qualifying c l).length = (qualifying c k).length := by
  have nodup : ∀ {l}, Ascending l → ((qualifying c l).map memberOf).Nodup := fun hl =>
    List.pairwise_map.mpr ((hl.sublist List.filter_sublist).imp
      fun hab e => Nat.ne_of_lt hab (congrArg WatchMember.vehicle e))
  have mem : ∀ {l m}, m ∈ (qualifying c l).map memberOf ↔ Qualifies c l m := fun {l m} => by
    simp only [qualifying, List.mem_map, List.mem_filter, decide_eq_true_eq, Qualifies, and_assoc,
      eq_comm (a := m), and_comm (a := memberOf _ = m)]
  have perm := (List.perm_ext_iff_of_nodup (nodup hl) (nodup hk)).mpr fun m => by rw [mem, mem, h]
  simpa using perm.length_eq

/-- An exact list rests on the members that qualify alone. -/
theorem watchExact_congr {c : ConfigBlock} {l k : List VehicleEntry} {w : WatchBlock} (hl : Ascending l)
    (hk : Ascending k) (h : ∀ m, Qualifies c l m ↔ Qualifies c k m) :
    WatchExact c l w ↔ WatchExact c k w := by
  rw [watchExact_iff, watchExact_iff, length_qualifying_congr hl hk h, funext fun m => propext (h m)]

theorem withUsage_withUsage (c : ConfigBlock) (e : VehicleEntry) : withUsage c (withUsage c e) = withUsage c e := rfl

/-- The worst state of an entry with its usage computed is that of its worst usage (R39). -/
theorem worstState_eq {c : ConfigBlock} {e : VehicleEntry} (h : withUsage c e = e) :
    e.worstState = serviceStateOf c e.worst := by
  rw [← h]; rfl

/-- An entry put with the worst usage that its vehicle had makes no difference to what qualifies. -/
theorem qualifies_putEntry_same {c : ConfigBlock} {e : VehicleEntry} {s : State} (hw : 1 ≤ c.warn)
    (ha : Ascending s.view.entries) (hu : ∀ x ∈ s.view.entries, withUsage c x = x) (he : CarriesWorst s e)
    (same : (withUsage c e).worst = e.worst) (m : WatchMember) :
    Qualifies c (putEntry (withUsage c e) s.view.entries) m ↔ Qualifies c s.view.entries m := by
  rw [replaces_putEntry ha m]
  unfold CarriesWorst at he
  cases old : s.entry e.number with
  | none =>
    have zero : e.worst = 0 := by simpa [old] using he
    have fresh : Qualifies c s.view.entries m → m.vehicle ≠ e.number := by
      rintro ⟨x, hx, rfl, -⟩ hn
      have := List.find?_eq_none.mp old x hx
      simp only [beq_iff_eq] at this
      exact this hn
    constructor
    · rintro (⟨-, h⟩ | ⟨-, h⟩)
      · omega
      · exact h
    · exact fun h => .inr ⟨fresh h, h⟩
  | some x =>
    have hx : x ∈ s.view.entries := List.mem_of_find?_eq_some old
    have number : x.number = e.number := number_of_entry old
    have worst : (withUsage c e).worst = x.worst := same.trans (by simpa [old] using he)
    have member : memberOf (withUsage c e) = memberOf x := by
      have state : (withUsage c e).worstState = x.worstState := by
        rw [worstState_eq (withUsage_withUsage c e), worstState_eq (hu x hx), worst]
      unfold memberOf
      rw [worst, state, number]; rfl
    rw [member, worst]
    constructor
    · rintro (⟨rfl, h⟩ | ⟨-, h⟩)
      · exact ⟨x, hx, rfl, h⟩
      · exact h
    · rintro ⟨y, hy, rfl, h⟩
      by_cases hn : y.number = x.number
      · obtain rfl := ha.eq_of_number hy hx hn
        exact .inl ⟨rfl, h⟩
      · exact .inr ⟨hn, y, hy, rfl, h⟩

theorem watch_updateWatch (c : ConfigBlock) (e : VehicleEntry) (s : State) :
    (updateWatch c e s).watch =
      { members := watchUpdate c s.view.entries e s.watch.members
        overflow := (qualifying c s.view.entries).length -
          (watchUpdate c s.view.entries e s.watch.members).length } := by
  simp only [updateWatch]
  split <;> rfl

/-- The invariant of the watch list in a state with a configuration in force. -/
def WatchInv (c : ConfigBlock) (s : State) : Prop :=
  s.store.block = some c ∧ 1 ≤ c.warn ∧ WatchKept c s.view.entries s.watch

theorem watchInv_storeEntry {c : ConfigBlock} {e : VehicleEntry} {s : State} (h : WatchInv c s)
    (he : CarriesWorst s e) : WatchInv c (storeEntry c e s) := by
  obtain ⟨hb, hw, ha, hu, hx⟩ := h
  have ascending := ascending_putEntry (e := withUsage c e) ha
  have usage : ∀ x ∈ putEntry (withUsage c e) s.view.entries, withUsage c x = x := fun x hxm => by
    rcases (mem_putEntry ha).mp hxm with rfl | ⟨-, hxm⟩
    · exact withUsage_withUsage c e
    · exact hu x hxm
  refine ⟨by simpa using hb, hw, ?_⟩
  simp only [storeEntry]
  split
  · next same =>
    exact ⟨ascending, usage, (watchExact_congr ascending ha (qualifies_putEntry_same hw ha hu he same)).mpr hx⟩
  · rw [watch_updateWatch, (updateWatch_frame c _ _).2.2.1]
    exact ⟨ascending, usage, (watchExact_iff _ _ _).mpr
      ⟨exact_watchUpdate ha ((watchExact_iff _ _ _).mp hx).1, rfl⟩⟩

theorem watchKept_congr {c : ConfigBlock} {s t : State} (h : WatchKept c s.view.entries s.watch)
    (hw : t.watch = s.watch) (hv : t.view.entries.map unissued = s.view.entries.map unissued) :
    WatchKept c t.view.entries t.watch := by
  rw [← watchKept_unissued] at h ⊢
  rwa [hv, hw]

theorem WatchInv.of_keeps {c : ConfigBlock} {s t : State} (h : WatchInv c s) (k : KeepsWatch s t) :
    WatchInv c t :=
  ⟨k.block.trans h.1, h.2.1, watchKept_congr h.2.2 k.watch k.ranks⟩

/-! ### What a command does to the watch list and its notice -/

/-- The watch list stands with its notice, or one entry is stored and otherwise it stands. -/
def WatchMoved (s t : State) : Prop :=
  KeepsWatch s t ∨
    ∃ c e u, s.store.block = some c ∧ KeepsWatch s u ∧ CarriesWorst u e ∧ KeepsWatch (storeEntry c e u) t

theorem Moved.watchMoved {s t : State} (m : Moved s t) : WatchMoved s t := by
  rcases m with q | ⟨c, e, u, hb, before, he, after⟩
  · exact .inl q.toKeepsWatch
  · exact .inr ⟨c, e, u, hb, before.toKeepsWatch, he, after.toKeepsWatch⟩

theorem WatchMoved.then_keeps {s t u : State} (a : WatchMoved s t) (b : KeepsWatch t u) : WatchMoved s u := by
  rcases a with k | ⟨c, e, v, hb, before, he, after⟩
  · exact .inl (k.trans b)
  · exact .inr ⟨c, e, v, hb, before, he, after.trans b⟩

theorem WatchMoved.after_keeps {s t u : State} (a : KeepsWatch s t) (b : WatchMoved t u) : WatchMoved s u := by
  rcases b with k | ⟨c, e, v, hb, before, he, after⟩
  · exact .inl (a.trans k)
  · exact .inr ⟨c, e, v, a.block.symm.trans hb, a.trans before, he, after⟩

theorem WatchInv.of_moved {c : ConfigBlock} {s t : State} (h : WatchInv c s) (m : WatchMoved s t) :
    WatchInv c t := by
  rcases m with k | ⟨c', e, u, hb, before, he, after⟩
  · exact h.of_keeps k
  · obtain rfl : c = c' := Option.some.inj (h.1.symm.trans hb)
    exact (watchInv_storeEntry (h.of_keeps before) he).of_keeps after

/-- WATCH_CHANGED between two states as R42 has it: raised exactly when the sequence of vehicle numbers changed. -/
def WatchNoticed (s t : State) : Prop :=
  t.notices.entries[4] =
    if t.watch.members.map (·.vehicle) = s.watch.members.map (·.vehicle) then s.notices.entries[4]
    else s.notices.entries[4].raised

theorem watchNoticed_storeEntry (c : ConfigBlock) (e : VehicleEntry) (s : State) :
    WatchNoticed s (storeEntry c e s) := by
  simp only [storeEntry]
  split
  · exact (if_pos rfl).symm
  · rw [WatchNoticed, watchChanged_updateWatch, entries_raise]
    rfl

theorem watchNoticed_of_moved {s t : State} (m : WatchMoved s t) : WatchNoticed s t := by
  rcases m with k | ⟨c, e, u, -, before, -, after⟩
  · rw [WatchNoticed, k.watch, k.watchEntry, if_pos rfl]
  · have stored := watchNoticed_storeEntry c e u
    unfold WatchNoticed at stored ⊢
    rw [after.watchEntry, after.watch, stored, before.watch, before.watchEntry]

/-! ### The operations that report a condition leave the watch list -/

theorem keepsWatch_report (src : NoticeSource) (b : Bool) (s : State) (hs : src.index ≠ 4) :
    KeepsWatch s (report src b s) :=
  ⟨rfl, rfl, rfl, by rw [entries_report, if_neg fun e => hs (Fin.ext e.symm)]⟩

theorem keepsWatch_mapHealth (s : State) (h : Fin 4) (f : Health → Health) : KeepsWatch s (s.mapHealth h f) :=
  ⟨rfl, rfl, rfl, rfl⟩

theorem keepsWatch_reportHoseOut (s : State) : KeepsWatch s (reportHoseOut s) :=
  keepsWatch_report .hoseOut _ s (by decide)

theorem keepsWatch_healthEvent (c : ConfigBlock) (h : Fin 4) (s : State) : KeepsWatch s (healthEvent c h s) := by
  simp only [healthEvent]
  split
  · exact .refl s
  · split
    · exact (((keepsWatch_mapHealth s h _).trans (keepsWatch_mapHealth _ h _)).trans
        (quiet_freezeAction c h _).toKeepsWatch).trans (keepsWatch_reportHoseOut _)
    · exact keepsWatch_mapHealth s h _

theorem keepsWatch_issueHealthEvent (c : ConfigBlock) (h : Fin 4) (s : State) :
    KeepsWatch s (issueHealthEvent c h s) :=
  (quiet_markIssue h s).toKeepsWatch.trans (keepsWatch_healthEvent c h _)

theorem keepsWatch_completionHealth (c : ConfigBlock) (h : Fin 4) (a b : Bool) (n : Nat) (s : State) :
    KeepsWatch s (completionHealth c h a b n s) := by
  have event : ∀ (b : Bool) s, KeepsWatch s (if b then issueHealthEvent c h s else s) := fun b s => by
    split
    · exact keepsWatch_issueHealthEvent c h s
    · exact .refl s
  have both := (event a s).trans (event b _)
  simp only [completionHealth]
  split
  · exact both
  · exact both.trans (quiet_drip c h n _ _).toKeepsWatch

theorem keepsWatch_commitRecord (h : Fin 4) (x : IssueContext) (s : State) : KeepsWatch s (commitRecord h x s) := by
  refine KeepsWatch.trans ?_ (keepsWatch_report .recordsWaiting _ _ (by decide))
  exact ⟨rfl, rfl, rfl, rfl⟩

theorem watchMoved_complete {c : ConfigBlock} {s : State} (h : Fin 4) (x : IssueContext)
    (hb : s.store.block = some c) : WatchMoved s (complete c h x s) := by
  have charged : WatchMoved s (charge c x.vehicle ((enterEnded c h x.limit s).hose h).meter.delivered
      (enterEnded c h x.limit s)) :=
    .after_keeps (quiet_enterEnded c h x.limit s).toKeepsWatch (moved_charge _ _ (by simpa using hb)).watchMoved
  have raised := (charged.then_keeps (keepsWatch_commitRecord h
    (x.withVolumes ((enterEnded c h x.limit s).hose h).meter) _)).then_keeps
    (quiet_raise .issueEnded _ (by decide)).toKeepsWatch
  exact (raised.then_keeps (keepsWatch_completionHealth c h _ _ _ _)).then_keeps
    (quiet_examineNozzle h _).toKeepsWatch

theorem keepsWatch_actOnFindings (c : ConfigBlock) (h : Fin 4) (f : PulseFindings) (s : State) :
    KeepsWatch s (actOnFindings c h f s) := by
  unfold actOnFindings
  split
  · exact ((quiet_markIssue h s).trans (quiet_close c h .fault _)).toKeepsWatch.trans (keepsWatch_healthEvent c h _)
  · split
    · exact (quiet_close c h _ s).toKeepsWatch
    · split
      · exact (quiet_enterSlowing c h s).toKeepsWatch
      · exact .refl s

theorem keepsWatch_takePulse (c : ConfigBlock) (h : Fin 4) (n : Nat) (s : State) :
    KeepsWatch s (takePulse c h n s) := by
  unfold takePulse
  split
  · exact ((quiet_mapMeter s h _).trans (quiet_mapCtl _ h _)).toKeepsWatch.trans (keepsWatch_actOnFindings c h _ _)
  · have counted := (quiet_mapMeter s h (Meter.creepPulse c.pulseStep[h])).toKeepsWatch
    simp only [creepPulse]
    split
    · exact counted.trans (keepsWatch_healthEvent c h _)
    · exact counted

theorem keepsWatch_changeStop (c : ConfigBlock) (b : Bool) (s : State) : KeepsWatch s (changeStop c b s) := by
  have set : KeepsWatch s (setStop c b s) := by
    refine KeepsWatch.trans ?_ (keepsWatch_report .stopActive b _ (by decide))
    exact ⟨rfl, rfl, rfl, rfl⟩
  have driven := set.trans (quiet_eachHose quiet_driveValves _).toKeepsWatch
  simp only [changeStop]
  split
  · exact driven.trans (quiet_eachHose (fun k => quiet_endIssue c k .estop) _).toKeepsWatch
  · exact driven

theorem keepsWatch_clearHoseFault (hose : Nat) (s : State) : KeepsWatch s (clearHoseFault hose s).1 := by
  unfold clearHoseFault
  split
  · exact .refl s
  · next k hk =>
    split
    · exact ((keepsWatch_mapHealth s k _).trans (keepsWatch_reportHoseOut _)).trans (quiet_thawHose k _).toKeepsWatch
    · exact .refl s

theorem keepsWatch_releaseRecord (number : Nat) (s : State) : KeepsWatch s (releaseRecord number s).1 := by
  unfold releaseRecord
  split
  · exact .refl s
  · split
    · exact .refl s
    · split
      · refine KeepsWatch.trans ?_ (keepsWatch_report .recordsWaiting _ _ (by decide))
        exact ⟨rfl, rfl, rfl, rfl⟩
      · exact .refl s

theorem keepsWatch_serve {kind : Nat} {s : State} {request : State → Reply} (h : KeepsWatch s (request s).1) :
    KeepsWatch s (serve kind s request) :=
  (quiet_serve kind s request).elim (·.toKeepsWatch) (h.trans ·.toKeepsWatch)

/-! ### Every command -/

/-- The commands that empty the list, restart the notices, or read, acknowledge and enable them. -/
def rewritesWatch : Instr → Bool
  | .powerOn => true
  | .loadConfig _ _ => true
  | .restart => true
  | .readNotices => true
  | .ackNotice _ => true
  | .setNoticeEnables _ => true
  | _ => false

/-- What every other command does to the watch list and its notice. -/
theorem exec_watchMoved {i : Instr} {s t : State} (hi : rewritesWatch i = false) (h : exec i s = .next t) :
    WatchMoved s t := by
  cases hm : beyondMoved i with
  | false => exact (exec_moved hm h).watchMoved
  | true =>
    cases i with
    | clearHoseFault hose =>
      rw [← next_inj h]; exact .inl (keepsWatch_serve (keepsWatch_clearHoseFault hose s))
    | releaseRecord n => rw [← next_inj h]; exact .inl (keepsWatch_serve (keepsWatch_releaseRecord n s))
    | stopLineChange b =>
      replace h : execStopLineChange b s = .next t := h
      unfold execStopLineChange at h
      split at h
      · cases h; exact .inl (.refl s)
      · cases h
        split
        · exact .inl (.refl s)
        · exact .inl (keepsWatch_changeStop _ b s)
    | meterPulse hose ticks =>
      replace h : execMeterPulse hose ticks s = .next t := h
      unfold execMeterPulse at h
      split at h
      · cases h; exact .inl (.refl s)
      · next c k hk =>
        cases h
        exact .inl ((quiet_setMeterInput c k s).toKeepsWatch.trans (keepsWatch_takePulse c k ticks _))
    | overrunWindowExpiry hose =>
      replace h : execOverrunWindowExpiry hose s = .next t := h
      unfold execOverrunWindowExpiry at h
      split at h
      · cases h; exact .inl (.refl s)
      · next c k hk =>
        split at h
        · cases h; exact watchMoved_complete k _ (block_of_fieldHose hk)
        · cases h; exact .inl (.refl s)
    | powerOn | loadConfig | restart | readNotices | ackNotice | setNoticeEnables => cases hi
    | _ => cases hm

/-! ### The commands that rewrite the list or the notices -/

/-- The watch list is sound, by cases on the configuration in force. -/
structure WatchHolds (s : State) : Prop where
  empty     : s.store.block = none → s.watch = { members := [], overflow := 0 }
  exactList : ∀ c, s.store.block = some c → WatchExact c s.view.entries s.watch

theorem watchSound_iff (s : State) : WatchSound s ↔ WatchHolds s := by
  unfold WatchSound
  constructor
  · intro h
    exact ⟨fun hb => by simpa only [hb] using h, fun c hb => by simpa only [hb] using h⟩
  · intro h
    split
    · next hb => exact h.empty hb
    · next c hb => exact h.exactList c hb

theorem watchHolds_of_inv {c : ConfigBlock} {s : State} (h : WatchInv c s) : WatchHolds s := by
  obtain ⟨hb, -, -, -, hx⟩ := h
  refine ⟨fun hn => ?_, fun c' hc => ?_⟩
  · rw [hb] at hn; cases hn
  · rwa [← Option.some.inj (hb.symm.trans hc)]

theorem warn_of_inRange {c : ConfigBlock} (h : c.inRange) : 1 ≤ c.warn := by
  obtain ⟨-, -, -, -, -, -, -, -, -, -, -, -, -, -, -, -, -, ⟨hw, -⟩, -⟩ := h
  omega

theorem watchInv_of_sound {c : ConfigBlock} {s : State} (hc : ConfigSound s) (hv : ViewOrdered s)
    (hw : WatchHolds s) (hb : s.store.block = some c) : WatchInv c s := by
  obtain ⟨ascending, -, entries⟩ := hv
  refine ⟨hb, warn_of_inRange (hc.1 c hb), ascending, fun e he => ?_, hw.exactList c hb⟩
  obtain ⟨-, c', hb', -, usage⟩ := entries e he
  rwa [Option.some.inj (hb.symm.trans hb')]

/-- The watch list stays sound where list, view and configuration stand, whatever the notices do. -/
theorem watchHolds_congr {s t : State} (h : WatchHolds s) (hb : t.store.block = s.store.block)
    (hw : t.watch = s.watch) (hv : t.view.entries = s.view.entries) : WatchHolds t :=
  ⟨fun hn => hw.trans (h.empty (hb.symm.trans hn)), fun c hc => by rw [hw, hv]; exact h.exactList c (hb.symm.trans hc)⟩

theorem watchHolds_of_moved {s t : State} (hc : ConfigSound s) (hv : ViewOrdered s) (hw : WatchHolds s)
    (m : WatchMoved s t) : WatchHolds t := by
  cases hb : s.store.block with
  | some c => exact watchHolds_of_inv ((watchInv_of_sound hc hv hw hb).of_moved m)
  | none =>
    rcases m with k | ⟨c, e, u, hb', -⟩
    · refine ⟨fun _ => k.watch.trans (hw.empty hb), fun c hc => ?_⟩
      rw [k.block, hb] at hc; cases hc
    · rw [hb] at hb'; cases hb'

/-- A new configuration leaves the view and the watch list empty (R172). -/
theorem watchHolds_installConfig (c : ConfigBlock) (s : State) : WatchHolds (installConfig c s) := by
  have filters : ∀ u, KeepsWatch u (restartFilters u) := fun u => by
    refine KeepsWatch.trans ?_ (keepsWatch_report .stopActive false _ (by decide))
    exact ⟨rfl, rfl, rfl, rfl⟩
  have hoses : ∀ u, KeepsWatch u (eachHose (hoseUnderConfig c) u) := fun u =>
    eachHose_inv (KeepsWatch u) _ (fun h t k => (k.trans (keepsWatch_mapHealth t h _)).trans
      (quiet_enterState h _ _).toKeepsWatch) u (.refl u)
  have kept : KeepsWatch (emptyView { s with
      store := { s.store with block := some c, part1 := none, part2 := none } }) (installConfig c s) :=
    ((((quiet_loadAllowances c _).trans (quiet_clockUnderConfig c _)).toKeepsWatch.trans (filters _)).trans
      (hoses _)).trans (keepsWatch_reportHoseOut _)
  have block : (installConfig c s).store.block = some c := kept.block
  have watch : (installConfig c s).watch = { members := [], overflow := 0 } := kept.watch
  have entries : (installConfig c s).view.entries = [] := List.map_eq_nil_iff.mp kept.ranks
  refine ⟨fun hn => ?_, fun c' _ => ?_⟩
  · rw [block] at hn; cases hn
  · simp [WatchExact, watch, entries, qualifying]

theorem watchHolds_loadConfig {s : State} (part : Nat) (bytes : List Byte) (h : WatchHolds s) :
    WatchHolds (loadConfig part bytes s).1 := by
  have block : ∀ p1 p2, WatchHolds (loadBlock p1 p2 s).1 := fun p1 p2 => by
    unfold loadBlock
    split
    · exact watchHolds_congr h rfl rfl rfl
    · exact watchHolds_installConfig _ s
  have held : ∀ store : ConfigStore, store.block = s.store.block → WatchHolds { s with store := store } :=
    fun store hb => watchHolds_congr h hb rfl rfl
  unfold loadConfig
  split
  · exact h
  · split
    · exact h
    · split
      · split
        · exact held _ rfl
        · exact block _ _
      · split
        · split
          · exact held _ rfl
          · exact block _ _
        · exact h

theorem watchInv_restartHose {c : ConfigBlock} {s : State} (h : Fin 4) (hs : WatchInv c s) :
    WatchInv c (restartHose c h s) := by
  unfold restartHose
  split
  · exact hs.of_keeps (quiet_cancel h s).toKeepsWatch
  · split
    · split
      · exact hs
      · have marked := hs.of_keeps (quiet_mapContext s h fun k => { k with endReason := some .restart }).toKeepsWatch
        exact marked.of_moved (watchMoved_complete h _ marked.1)
    · exact hs

/-- RESTART charges every issue that it completes, one after another. -/
theorem watchInv_restartStation {c : ConfigBlock} {s : State} (h : WatchInv c s) :
    WatchInv c (restartStation c s) := by
  have hoses := eachHose_inv (WatchInv c) (restartHose c) (fun k u => watchInv_restartHose k)
    (s.mapNotices restartEntry) h
  exact hoses.of_keeps
    (((quiet_mapRadio _ _).trans (quiet_enterListenIn c _)).trans (quiet_startSchedules _)).toKeepsWatch

theorem watchHolds_restart {s : State} (hc : ConfigSound s) (hv : ViewOrdered s) (hw : WatchHolds s) :
    WatchHolds (restart s).1 := by
  unfold restart
  split
  · next c hr hb =>
    exact watchHolds_of_inv (watchInv_restartStation (watchInv_of_sound hc hv hw hb))
  · exact hw

theorem watchHolds_ackNotice {s : State} (n : Nat) (h : WatchHolds s) : WatchHolds (ackNotice n s).1 := by
  unfold ackNotice
  split
  · exact h
  · exact watchHolds_congr h rfl rfl rfl

theorem watchHolds_setNoticeEnables {s : State} (mask : Nat) (h : WatchHolds s) :
    WatchHolds (setNoticeEnables mask s).1 := by
  unfold setNoticeEnables
  split
  · exact h
  · exact watchHolds_congr h rfl rfl rfl

theorem watchHolds_serve {kind : Nat} {s : State} {request : State → Reply} (hs : WatchHolds s)
    (h : WatchHolds (request s).1) : WatchHolds (serve kind s request) := by
  rcases Nat.lt_or_ge s.link.responses.length responseRoom with hr | hr
  · rw [serve_taken _ _ _ hr]
    exact watchHolds_congr h rfl rfl rfl
  · rw [serve_discarded _ _ _ hr]
    exact watchHolds_congr hs rfl rfl rfl

/-- Every command keeps the watch list sound. -/
theorem exec_watchHolds {i : Instr} {s t : State} (hc : ConfigSound s) (hv : ViewOrdered s) (hw : WatchHolds s)
    (h : exec i s = .next t) : WatchHolds t := by
  cases hi : rewritesWatch i with
  | false => exact watchHolds_of_moved hc hv hw (exec_watchMoved hi h)
  | true =>
    cases i with
    | powerOn => rw [← next_inj h]; exact ⟨fun _ => rfl, fun _ hc => by cases hc⟩
    | loadConfig part bytes => rw [← next_inj h]; exact watchHolds_serve hw (watchHolds_loadConfig part bytes hw)
    | restart => rw [← next_inj h]; exact watchHolds_serve hw (watchHolds_restart hc hv hw)
    | readNotices => rw [← next_inj h]; exact watchHolds_serve hw (watchHolds_congr hw rfl rfl rfl)
    | ackNotice n => rw [← next_inj h]; exact watchHolds_serve hw (watchHolds_ackNotice n hw)
    | setNoticeEnables m => rw [← next_inj h]; exact watchHolds_serve hw (watchHolds_setNoticeEnables m hw)
    | _ => cases hi

/-- Settles O56: an entry stored takes an exact list to an exact list by the update of Table 2-5 and raises
WATCH_CHANGED with a changed sequence; no other operation of these commands moves the list or its notice. -/
theorem stepKeepsWatchList : Obligations.StepKeepsWatchList := by
  refine ⟨fun s t hc hv hw he => ?_, fun i s t h1 h2 h3 h4 h5 h6 he => ?_⟩
  · rw [watchSound_iff] at hw ⊢
    rcases step_cases s with ⟨i, rest, -, e⟩ | ⟨-, i, m, e⟩ | ⟨-, e⟩
    · exact exec_watchHolds (s := { s with pending := rest }) hc hv (watchHolds_congr hw rfl rfl rfl) (e.symm.trans he)
    · exact exec_watchHolds (s := { s with model := m }) hc hv (watchHolds_congr hw rfl rfl rfl) (e.symm.trans he)
    · rw [← next_inj (e.symm.trans he)]
      have passed : Moved s (tick s) := .inl (quiet_tick s)
      exact watchHolds_of_moved hc hv hw passed.watchMoved
  · have kind : rewritesWatch i = false := by
      cases i with
      | powerOn => exact absurd rfl h1
      | loadConfig => cases h2
      | restart => exact absurd rfl h3
      | readNotices => exact absurd rfl h4
      | ackNotice n => exact absurd rfl (h5 n)
      | setNoticeEnables m => exact absurd rfl (h6 m)
      | _ => rfl
    have noticed := watchNoticed_of_moved (exec_watchMoved kind he)
    unfold WatchNoticed at noticed
    refine ⟨fun changed => ?_, fun same => ?_⟩
    · rw [if_neg changed] at noticed
      exact congrArg NoticeEntry.pending noticed
    · rwa [if_pos same] at noticed

end Sys2Proof.Machine.ServiceIntervals
end

section
/-! The fields of the responses, the reading checks and the usage of chapter 2, and READ_WATCH_LIST. -/

namespace Sys2Proof.Machine.ServiceIntervals

open Sys2Proof Sys2Proof.Machine

/-! ### Fields of the responses -/

@[simp] theorem fieldBytes_nil : fieldBytes [] = [] := rfl

@[simp] theorem fieldBytes_cons (w n : Nat) (l : List (Nat × Nat)) :
    fieldBytes ((w, n) :: l) = beBytes w n ++ fieldBytes l := rfl

@[simp] theorem fieldBytes_append (l k : List (Nat × Nat)) : fieldBytes (l ++ k) = fieldBytes l ++ fieldBytes k :=
  List.flatMap_append

@[simp] theorem fieldBytes_flatMap {α : Type} (l : List α) (f : α → List (Nat × Nat)) :
    fieldBytes (l.flatMap f) = l.flatMap fun x => fieldBytes (f x) := List.flatMap_assoc

/-- Settles O22: READ WATCH LIST is answered with its fields, on the state as it stands. -/
theorem readWatchListReports : Obligations.ReadWatchListReports := by
  intro s h
  have answered : exec .readWatchList s = .next (s.respond 0x26 .ok (watchFields s.watch)) :=
    congrArg Host.Outcome.next (serve_answered h rfl)
  rw [answered]
  simp [watchFields]

/-! ### Reading checks (section 2.2) -/

/-- A reading against a present register: the four outcomes of Tables 2-2 and 2-3. -/
theorem judgeReading_iff (register rise tolerance reading : Nat) :
    (judgeReading register rise tolerance reading = .implausible ↔ register + rise < reading) ∧
    (judgeReading register rise tolerance reading = .rise ↔ register < reading ∧ reading ≤ register + rise) ∧
    (judgeReading register rise tolerance reading = .hold ↔ reading ≤ register ∧ register ≤ reading + tolerance) ∧
    (judgeReading register rise tolerance reading = .regression ↔ reading + tolerance < register) := by
  unfold judgeReading
  split
  · simp only [true_iff, reduceCtorEq, false_iff]; omega
  · split
    · simp only [true_iff, reduceCtorEq, false_iff]; omega
    · split
      · simp only [true_iff, reduceCtorEq, false_iff]; omega
      · simp only [true_iff, reduceCtorEq, false_iff]; omega

/-- The elapsed time of R27, computed exactly and taken as 0 when it is negative. -/
theorem elapsedTime_eq {shiftLength : Nat} {now stamp : ClockPos} {elapsed : Nat}
    (h : (elapsed : Int) = max 0 (((now.shift : Int) - stamp.shift) * shiftLength +
      ((now.time : Int) - stamp.time))) : elapsedTime shiftLength now stamp = elapsed := by
  unfold elapsedTime; omega

/-! ### Usage (sections 2.4, 2.5) -/

theorem hoursPart_eq {interval uh hs : Nat} {register : Option Reading} {svc : ServiceEntry}
    (hhs : hs = if svc.epoch = 0 then 0 else svc.hours)
    (present : ∀ r, register = some r →
      uh = if interval = 0 ∨ r.value ≤ hs then 0 else (r.value - hs) * 100 / interval)
    (absent : register = none → uh = 0) : hoursPart interval register svc = uh := by
  cases register with
  | none => exact (absent rfl).symm
  | some r => rw [present r rfl, hhs]; rfl

theorem fuelPart_eq {interval uf : Nat} {register : Option Reading} {svc : ServiceEntry}
    (known : ∀ r ts, register = some r → (svc.epoch = 0 ∧ ts = 0 ∨ svc.epoch ≠ 0 ∧ svc.totaliser = some ts) →
      uf = if interval = 0 ∨ r.value ≤ ts then 0 else (r.value - ts) * 1000 / interval)
    (unknown : register = none ∨ svc.epoch ≠ 0 ∧ svc.totaliser = none → uf = 0) :
    fuelPart interval register svc = uf := by
  cases register with
  | none => exact (unknown (.inl rfl)).symm
  | some r =>
    by_cases h0 : svc.epoch = 0
    · rw [known r 0 rfl (.inl ⟨h0, rfl⟩)]
      simp [fuelPart, h0]
    · cases ht : svc.totaliser with
      | none =>
        rw [unknown (.inr ⟨h0, ht⟩)]
        simp [fuelPart, h0, ht]
      | some ts =>
        rw [known r ts rfl (.inr ⟨h0, ht⟩)]
        simp [fuelPart, h0, ht]

/-- The worst usage bounds each of the four usages (R39). -/
theorem le_worstUsage (usage : Vector Nat 4) (i : Fin 4) : usage[i] ≤ worstUsage usage := by
  unfold worstUsage
  fin_cases i <;> simp

/-- The worst usage is one of the four (R39). -/
theorem worstUsage_mem (usage : Vector Nat 4) : ∃ i : Fin 4, usage[i] = worstUsage usage := by
  have pick : ∀ a b : Nat, max a b = a ∨ max a b = b := fun a b => by omega
  unfold worstUsage
  rcases pick (max usage[0] usage[1]) (max usage[2] usage[3]) with h | h <;> rw [h]
  · rcases pick usage[0] usage[1] with k | k <;> rw [k]
    · exact ⟨0, rfl⟩
    · exact ⟨1, rfl⟩
  · rcases pick usage[2] usage[3] with k | k <;> rw [k]
    · exact ⟨2, rfl⟩
    · exact ⟨3, rfl⟩

/-- The usage of an entry, its states, its worst usage and state, and its hold (R38, R39). -/
theorem withUsage_eq {c : ConfigBlock} {e : VehicleEntry} {state : Nat → ServiceState}
    (hs : ∀ u, state u = if u < c.warn then .current else if u < 1000 then .dueSoon
      else if u < c.grace then .due else .overdue) :
    withUsage c e = { e with
      usage := Vector.ofFn fun i => typeUsage c.classes[e.cls] e i
      states := Vector.ofFn fun i => state (typeUsage c.classes[e.cls] e i)
      worst := worstUsage (Vector.ofFn fun i => typeUsage c.classes[e.cls] e i)
      worstState := state (worstUsage (Vector.ofFn fun i => typeUsage c.classes[e.cls] e i))
      hold := decide (state (worstUsage (Vector.ofFn fun i => typeUsage c.classes[e.cls] e i)) = .overdue) } := by
  have same : serviceStateOf c = state := funext fun u => (hs u).symm
  simp only [withUsage, same, mapTable, Fin.getElem_fin, Vector.getElem_ofFn, Fin.eta]

/-- What a presentation is judged on: the entry with its risen readings taken (R31). -/
theorem entryOnAcceptance_eq (c : ConfigBlock) (now : ClockPos) (p : Presentation) (e : VehicleEntry) :
    entryOnAcceptance c now p e = withUsage c { e with
      hours := if hoursCheck c now e.hours p.hours = .rise then some ⟨p.hours, now⟩ else e.hours
      totaliser := match p.totaliser with
        | none => e.totaliser
        | some t =>
          if totaliserCheck c e.cls now e.totaliser (some t) = .rise then some ⟨t, now⟩ else e.totaliser } := by
  unfold entryOnAcceptance
  cases p.totaliser <;> rfl

/-- Settles O19: the reading checks by the outcomes of a reading against its register, the usage by its two parts, the
worst usage as the largest of four, and a presentation's check on the entry as accepted. -/
theorem readingsAndUsage : Obligations.ReadingsAndUsage := by
  refine ⟨fun c cls now stamp reg h elapsed he => ?_, fun k e i uh uf hs hhs hp ha fp fa => ?_,
    fun c e state hst => ?_, fun c p e e' s he => ?_⟩
  · have elapsed_eq := elapsedTime_eq he
    refine ⟨fun rise hr => ?_, fun rise hr => ?_, rfl, rfl, rfl⟩
    · have allowed : allowedHourRise c now stamp = rise := by
        rw [allowedHourRise, elapsed_eq, ceilDiv, hr]; rfl
      simp only [hoursCheck, allowed]
      exact judgeReading_iff reg rise c.hourTolerance h
    · have allowed : allowedFuelRise c cls now stamp = rise := by
        rw [allowedFuelRise, elapsed_eq, ceilDiv, hr]; rfl
      simp only [totaliserCheck, allowed]
      exact judgeReading_iff reg rise c.fuelTolerance h
  · rw [typeUsage, hoursPart_eq hhs hp ha, fuelPart_eq fp fa]
  · refine ⟨worstUsage (Vector.ofFn fun i => typeUsage c.classes[e.cls] e i), fun i => ?_, ?_, withUsage_eq hst⟩
    · simpa using le_worstUsage (Vector.ofFn fun i => typeUsage c.classes[e.cls] e i) i
    · simpa using worstUsage_mem (Vector.ofFn fun i => typeUsage c.classes[e.cls] e i)
  · have judged : entryOnAcceptance c s.clock.pos p e = e' := (entryOnAcceptance_eq c _ p e).trans he.symm
    refine ⟨(issueLimit c e.cls s.clock.active[e.cls] s.net.state e.origins e'.hold p.preset).1,
      (issueLimit c e.cls s.clock.active[e.cls] s.net.state e.origins e'.hold p.preset).2, rfl, ?_⟩
    rw [presentCheck, judged]

end Sys2Proof.Machine.ServiceIntervals
end

section
/-! RECORD_SERVICE (R32, R33): its checks in order, and the service recorded. -/

namespace Sys2Proof.Machine.ServiceIntervals

open Sys2Proof Sys2Proof.Machine

/-! ### Readings at a request -/

/-- The hours check against a present register, in the bounds that a refusal carries. -/
theorem hoursCheck_iff (c : ConfigBlock) (now : ClockPos) (r : Reading) (h : Nat) :
    (hoursCheck c now (some r) h = .implausible ↔ hoursTop c now r < h) ∧
    (hoursCheck c now (some r) h = .regression ↔ h + c.hourTolerance < r.value) := by
  obtain ⟨implausible, -, -, regression⟩ :=
    judgeReading_iff r.value (allowedHourRise c now r.stamp) c.hourTolerance h
  rw [hoursTop_eq]
  exact ⟨implausible, regression⟩

theorem totaliserCheck_iff (c : ConfigBlock) (cls : Fin 8) (now : ClockPos) (r : Reading) (t : Nat) :
    (totaliserCheck c cls now (some r) (some t) = .implausible ↔ totaliserTop c cls now r < t) ∧
    (totaliserCheck c cls now (some r) (some t) = .regression ↔ t + c.fuelTolerance < r.value) := by
  obtain ⟨implausible, -, -, regression⟩ :=
    judgeReading_iff r.value (allowedFuelRise c cls now r.stamp) c.fuelTolerance t
  rw [totaliserTop_eq]
  exact ⟨implausible, regression⟩

/-- A reading check passes in RECORD SERVICE: it gives rise or hold (R32). -/
def Passes (o : CheckOutcome) : Prop := o = .rise ∨ o = .hold

theorem passes_of_ne {o : CheckOutcome} (h1 : o ≠ .implausible) (h2 : o ≠ .regression) : Passes o := by
  cases o with
  | rise => exact .inl rfl
  | hold => exact .inr rfl
  | regression => exact absurd rfl h2
  | implausible => exact absurd rfl h1

theorem readingRefusal_passes {o : CheckOutcome} (h : Passes o) (a b : Result) : readingRefusal o a b = none := by
  rcases h with rfl | rfl <;> rfl

/-- A reading that no present register's bounds exclude passes the hours check. -/
theorem hoursCheck_passes {c : ConfigBlock} {now : ClockPos} {register : Option Reading} {h : Nat}
    (hb : ∀ r, register = some r → h ≤ hoursTop c now r ∧ r.value ≤ h + c.hourTolerance) :
    Passes (hoursCheck c now register h) := by
  cases register with
  | none => exact .inl rfl
  | some r =>
    obtain ⟨top, low⟩ := hb r rfl
    obtain ⟨implausible, regression⟩ := hoursCheck_iff c now r h
    exact passes_of_ne (fun e => absurd (implausible.mp e) (by omega)) fun e => absurd (regression.mp e) (by omega)

theorem givenReading_zero {flag : Nat} (total : Nat) (h : flag = 0) : givenReading flag total = none := if_pos h

theorem givenReading_one {flag : Nat} (total : Nat) (h : flag = 1) : givenReading flag total = some total :=
  if_neg (by omega)

/-- The totaliser check of a request's fields passes where no present register's bounds exclude the reading given. -/
theorem totaliserCheck_passes {c : ConfigBlock} {cls : Fin 8} {now : ClockPos} {register : Option Reading}
    {flag total : Nat} (hf : flag ≤ 1)
    (hb : ∀ r, flag = 1 → register = some r →
      total ≤ totaliserTop c cls now r ∧ r.value ≤ total + c.fuelTolerance) :
    Passes (totaliserCheck c cls now register (givenReading flag total)) := by
  rcases Nat.le_one_iff_eq_zero_or_eq_one.mp hf with h0 | h1
  · rw [givenReading_zero total h0]
    exact .inr rfl
  · rw [givenReading_one total h1]
    cases register with
    | none => exact .inl rfl
    | some r =>
      obtain ⟨top, low⟩ := hb r h1 rfl
      obtain ⟨implausible, regression⟩ := totaliserCheck_iff c cls now r total
      exact passes_of_ne (fun e => absurd (implausible.mp e) (by omega))
        fun e => absurd (regression.mp e) (by omega)

theorem badReadings_of_inRange {hours flag total : Nat} (h : ReadingsInRange hours flag total) :
    badReadings hours flag total = false :=
  badReadings_false h.1 h.2.1 h.2.2

theorem badReadings_of_not_inRange {hours flag total : Nat} (h : ¬ ReadingsInRange hours flag total) :
    badReadings hours flag total = true := by
  refine badReadings_true ?_
  unfold ReadingsInRange at h
  by_contra hn
  refine h ⟨by omega, by omega, fun hf => ?_⟩
  omega

theorem noRoomFor_iff (s : State) (v : Nat) :
    s.noRoomFor v = true ↔ s.entry v = none ∧ 256 ≤ s.view.entries.length := by
  rw [State.noRoomFor, Bool.and_eq_true, Option.isNone_iff_eq_none]
  exact and_congr_right fun _ => decide_eq_true_iff

theorem noRoomFor_false {s : State} {v : Nat} (h : s.entry v = none → s.view.entries.length < 256) :
    s.noRoomFor v = false := by
  rw [Bool.eq_false_iff, Ne, noRoomFor_iff]
  rintro ⟨he, hl⟩
  exact absurd (h he) (by omega)

/-! ### The checks of RECORD_SERVICE, in order -/

section Checks

variable {s : State} {c : ConfigBlock} {v hours flag total : Nat}

/-- A station with a configuration that runs and is not in LISTEN_IN reaches check 3. -/
theorem settled_of_net (h : s.net.state = .joined ∨ s.net.state = .isolated) :
    s.running = true ∧ s.net.state ≠ .listenIn := by
  rcases h with h | h <;> simp [State.running, h]

theorem recordService_badRequest {type : Nat} (hr : s.running = true) (hl : s.net.state ≠ .listenIn)
    (hb : s.store.block = some c)
    (h : v = 0 ∨ 4095 < v ∨ 4 ≤ type ∨ ¬ ReadingsInRange hours flag total) :
    recordService v type hours flag total s = (s, .badRequest, []) := by
  unfold recordService
  simp only [hr, hb, hl, if_false]
  rcases Nat.lt_or_ge type 4 with ht | ht
  · rw [show indexFrom0 4 type = some ⟨type, ht⟩ from dif_pos ht]
    have bad : (badVehicle v || badReadings hours flag total) = true := by
      rcases h with h | h | h | h
      · simp [badVehicle_true (.inl h)]
      · simp [badVehicle_true (.inr h)]
      · omega
      · simp [badReadings_of_not_inRange h]
    simp only [bad, if_true]
    rfl
  · rw [indexFrom0_none ht]
    rfl

/-- Past check 3: the class of the vehicle and the room in the view, then the checks of the readings. -/
theorem recordService_inRange (type : Fin 4) (hr : s.running = true) (hl : s.net.state ≠ .listenIn)
    (hb : s.store.block = some c) (h1 : 1 ≤ v) (h2 : v ≤ 4095) (hg : ReadingsInRange hours flag total) :
    (classOf c v = none → recordService v type.val hours flag total s = (s, .unknownClass, [])) ∧
    ∀ cls, classOf c v = some cls →
      (s.noRoomFor v = true → recordService v type.val hours flag total s = (s, .viewFull, [])) ∧
      (s.noRoomFor v = false → recordService v type.val hours flag total s =
        recordAt c ⟨type, hours, givenReading flag total⟩ (s.entryOrNew v cls) s) := by
  unfold recordService
  simp only [hr, hb, hl, if_false, indexFrom0_val, badVehicle_false h1 h2, badReadings_of_inRange hg, Bool.or_self,
    Bool.false_eq_true]
  refine ⟨fun hc => ?_, fun cls hc => ⟨fun hn => ?_, fun hn => ?_⟩⟩
  · simp only [hc]; rfl
  · simp only [hc, hn, if_true]; rfl
  · simp only [hc, hn, Bool.false_eq_true, if_false]

variable {r : ServiceRecord} {e : VehicleEntry}

/-- Check 6 refuses, whatever comes after it. -/
theorem recordAt_hours {x : Result}
    (h : readingRefusal (hoursCheck c s.clock.pos e.hours r.hours) .hoursImplausible .hoursRegression = some x) :
    recordAt c r e s = (s, x, crossedBound 3 (hoursCheck c s.clock.pos e.hours r.hours)
      (hourRiseOf c s.clock.pos e.hours) c.hourTolerance e.hours) := by
  simp only [recordAt, h]

/-- Check 7 refuses, with check 6 passed. -/
theorem recordAt_totaliser {x : Result} (hh : Passes (hoursCheck c s.clock.pos e.hours r.hours))
    (h : readingRefusal (totaliserCheck c e.cls s.clock.pos e.totaliser r.totaliser) .totaliserImplausible
      .totaliserRegression = some x) :
    recordAt c r e s = (s, x, crossedBound 4 (totaliserCheck c e.cls s.clock.pos e.totaliser r.totaliser)
      (fuelRiseOf c e.cls s.clock.pos e.totaliser) c.fuelTolerance e.totaliser) := by
  simp only [recordAt, readingRefusal_passes hh, h]

/-- Both readings pass: check 8, and the service recorded. -/
theorem recordAt_passed (hh : Passes (hoursCheck c s.clock.pos e.hours r.hours))
    (ht : Passes (totaliserCheck c e.cls s.clock.pos e.totaliser r.totaliser)) :
    recordAt c r e s = if sequenceLimit e r.type then (s, .sequenceLimit, [])
      else (changeEntry c (servicedEntry c s.clock.pos r e) s, .ok,
        serviceReports (withUsage c (servicedEntry c s.clock.pos r e))) := by
  have response : serviceResponse e.number (changeEntry c (servicedEntry c s.clock.pos r e) s) =
      serviceReports (withUsage c (servicedEntry c s.clock.pos r e)) := by
    have put : (changeEntry c (servicedEntry c s.clock.pos r e) s).entry e.number =
        some (withUsage c (servicedEntry c s.clock.pos r e)) := (entry_changeEntry c _ s _).trans (if_pos rfl)
    simp only [serviceResponse, put]
  simp only [recordAt, readingRefusal_passes hh, readingRefusal_passes ht, refuse, accept, response]

theorem sequenceLimit_iff (e : VehicleEntry) (type : Fin 4) :
    sequenceLimit e type = true ↔ ∃ i : Fin 4, i.val ≤ type.val ∧ 65535 ≤ e.services[i].epoch := by
  simp only [sequenceLimit, List.any_eq_true, Bool.and_eq_true, decide_eq_true_eq]
  constructor
  · rintro ⟨i, -, hi⟩; exact ⟨i, hi⟩
  · rintro ⟨i, hi⟩; exact ⟨i, by fin_cases i <;> decide, hi⟩

end Checks

/-! ### The response -/

/-- A refusal by a reading check carries the register's reading and the bound crossed. -/
theorem readingBounds_eq (width register bound : Nat) :
    readingBounds width register bound = fieldBytes [(width, register), (width, bound)] := by
  simp [readingBounds]

theorem crossedBound_implausible (width rise tolerance : Nat) (r : Reading) :
    crossedBound width .implausible rise tolerance (some r) =
      fieldBytes [(width, r.value), (width, r.value + rise)] := readingBounds_eq _ _ _

theorem crossedBound_regression (width rise tolerance : Nat) (r : Reading) :
    crossedBound width .regression rise tolerance (some r) =
      fieldBytes [(width, r.value), (width, r.value - tolerance)] := readingBounds_eq _ _ _

theorem optionField_eq (t : Option Nat) :
    optionField t = fieldBytes [(1, t.isSome.toNat), (4, t.getD 0)] := by
  cases t <;> rfl

/-- The services, usages, states, worst usage, worst state and hold of an entry, field by field (R33). -/
theorem serviceReports_eq (e : VehicleEntry) : serviceReports e = fieldBytes
    (([0, 1, 2, 3] : List (Fin 4)).flatMap (fun i =>
      [(2, e.services[i].epoch), (1, e.services[i].origin), (3, e.services[i].hours),
       (1, e.services[i].totaliser.isSome.toNat), (4, e.services[i].totaliser.getD 0),
       (2, e.usage[i]), (1, e.states[i].code)]) ++
      [(2, e.worst), (1, e.worstState.code), (1, e.hold.toNat)]) := by
  have one : ∀ i : Fin 4, serviceReport e i = fieldBytes
      [(2, e.services[i].epoch), (1, e.services[i].origin), (3, e.services[i].hours),
       (1, e.services[i].totaliser.isSome.toNat), (4, e.services[i].totaliser.getD 0),
       (2, e.usage[i]), (1, e.states[i].code)] := fun i => by
    simp [serviceReport, serviceField, optionField_eq]
  rw [fieldBytes_append, fieldBytes_flatMap, serviceReports, funext one]
  simp [flagByte, hoseIndices]

/-! ### The obligation -/

section Request

variable {s : State} {c : ConfigBlock} {e : VehicleEntry} {r : ServiceRecord} {reg : Reading}

theorem recordAt_hoursImplausible (he : e.hours = some reg) (h : hoursTop c s.clock.pos reg < r.hours) :
    recordAt c r e s = (s, .hoursImplausible, fieldBytes [(3, reg.value), (3, hoursTop c s.clock.pos reg)]) := by
  have outcome : hoursCheck c s.clock.pos e.hours r.hours = .implausible := by
    rw [he]; exact (hoursCheck_iff c _ reg _).1.mpr h
  rw [recordAt_hours (x := .hoursImplausible) (by rw [outcome]; rfl), outcome, he, crossedBound_implausible,
    hoursTop_eq]
  rfl

theorem recordAt_hoursRegression (he : e.hours = some reg) (h : r.hours + c.hourTolerance < reg.value) :
    recordAt c r e s =
      (s, .hoursRegression, fieldBytes [(3, reg.value), (3, reg.value - c.hourTolerance)]) := by
  have outcome : hoursCheck c s.clock.pos e.hours r.hours = .regression := by
    rw [he]; exact (hoursCheck_iff c _ reg _).2.mpr h
  rw [recordAt_hours (x := .hoursRegression) (by rw [outcome]; rfl), outcome, he, crossedBound_regression]

variable {t : Nat}

theorem recordAt_totaliserImplausible (hh : Passes (hoursCheck c s.clock.pos e.hours r.hours))
    (he : e.totaliser = some reg) (ht : r.totaliser = some t) (h : totaliserTop c e.cls s.clock.pos reg < t) :
    recordAt c r e s =
      (s, .totaliserImplausible, fieldBytes [(4, reg.value), (4, totaliserTop c e.cls s.clock.pos reg)]) := by
  have outcome : totaliserCheck c e.cls s.clock.pos e.totaliser r.totaliser = .implausible := by
    rw [he, ht]; exact (totaliserCheck_iff c _ _ reg _).1.mpr h
  rw [recordAt_totaliser (x := .totaliserImplausible) hh (by rw [outcome]; rfl), outcome, he,
    crossedBound_implausible, totaliserTop_eq]
  rfl

theorem recordAt_totaliserRegression (hh : Passes (hoursCheck c s.clock.pos e.hours r.hours))
    (he : e.totaliser = some reg) (ht : r.totaliser = some t) (h : t + c.fuelTolerance < reg.value) :
    recordAt c r e s =
      (s, .totaliserRegression, fieldBytes [(4, reg.value), (4, reg.value - c.fuelTolerance)]) := by
  have outcome : totaliserCheck c e.cls s.clock.pos e.totaliser r.totaliser = .regression := by
    rw [he, ht]; exact (totaliserCheck_iff c _ _ reg _).2.mpr h
  rw [recordAt_totaliser (x := .totaliserRegression) hh (by rw [outcome]; rfl), outcome, he,
    crossedBound_regression]

/-- The totaliser register after a recorded service, for the fields of the request. -/
theorem totaliser_servicedEntry (c : ConfigBlock) (now : ClockPos) (type : Fin 4) (hours flag total : Nat)
    (e : VehicleEntry) :
    (servicedEntry c now ⟨type, hours, givenReading flag total⟩ e).totaliser =
      if totaliserCheck c e.cls now e.totaliser (givenReading flag total) = .rise then some ⟨total, now⟩
      else e.totaliser := by
  unfold servicedEntry givenReading
  by_cases h : flag = 0 <;> simp [h, takeOptional, takeReading, totaliserCheck]

/-- Each service entry after a recorded service (R33). -/
theorem services_servicedEntry (c : ConfigBlock) (now : ClockPos) (type : Fin 4) (hours flag total : Nat)
    (e : VehicleEntry) (i : Fin 4) :
    (servicedEntry c now ⟨type, hours, givenReading flag total⟩ e).services[i] =
      if i.val ≤ type.val then
        { epoch := e.services[i].epoch + 1, origin := c.station, hours := hours
          totaliser := if flag = 0 then
              (servicedEntry c now ⟨type, hours, givenReading flag total⟩ e).totaliser.map (·.value)
            else some total }
      else e.services[i] := by
  have atService : ∀ register, totaliserAtService (givenReading flag total) register =
      if flag = 0 then register.map (·.value) else some total := fun register => by
    unfold givenReading
    by_cases h : flag = 0 <;> simp [h, totaliserAtService]
  simp only [servicedEntry, servicesAfter, Fin.getElem_fin, Vector.getElem_ofFn, atService, Fin.le_def]

end Request

/-- A request of RECORD SERVICE is answered with what it makes of the state. -/
theorem exec_recordService {s t : State} {v type hours flag total : Nat} {r : Result} {payload : List Byte}
    (h : s.canAnswer) (e : recordService v type hours flag total s = (t, r, payload)) :
    exec (.recordService v type hours flag total) s = .next (t.respond 0x23 r payload) :=
  congrArg Host.Outcome.next (serve_answered h e)

/-- Settles O20: the checks of R32 one after another, and past them the entry stored with the service (R33). -/
theorem recordServiceRequest : Obligations.RecordServiceRequest := by
  intro s v type hours flag total answer
  refine ⟨fun hn => exec_recordService answer ?_, fun c hn hb => exec_recordService answer ?_,
    fun c hn hb => ?_, fun c cls e given hn hb h1 h2 h4 hg hc room he hgiven hh ht hseq => ?_⟩
  · simp [recordService, running_false hn, refuse]
  · have running : s.running = true := running_true (by simp [hn])
    simp [recordService, running, hb, hn, refuse]
  · obtain ⟨running, joined⟩ := settled_of_net hn
    refine ⟨fun bad => exec_recordService answer (recordService_badRequest running joined hb bad),
      fun h1 h2 h4 hg => ?_⟩
    lift type to Fin 4 using h4
    obtain ⟨unknown, known⟩ := recordService_inRange type running joined hb h1 h2 hg
    refine ⟨fun hc => exec_recordService answer (unknown hc), fun cls hc hnone hfull =>
      exec_recordService answer ((known cls hc).1 ((noRoomFor_iff s v).mpr ⟨hnone, hfull⟩)),
      fun cls e hc room he => ?_⟩
    have reached := (known cls hc).2 (noRoomFor_false room)
    rw [← he] at reached
    refine ⟨fun r hr top => exec_recordService answer (reached.trans (recordAt_hoursImplausible hr top)),
      fun r hr low => exec_recordService answer (reached.trans (recordAt_hoursRegression hr low)),
      fun hours_ok => ?_⟩
    have passed := hoursCheck_passes hours_ok
    refine ⟨fun r hf hr top => exec_recordService answer (reached.trans
        (recordAt_totaliserImplausible passed hr (givenReading_one total hf) top)),
      fun r hf hr low => exec_recordService answer (reached.trans
        (recordAt_totaliserRegression passed hr (givenReading_one total hf) low)),
      fun total_ok last => exec_recordService answer (reached.trans ?_)⟩
    rw [recordAt_passed passed (totaliserCheck_passes hg.2.1 total_ok),
      if_pos ((sequenceLimit_iff e type).mpr last)]
  · obtain ⟨running, joined⟩ := settled_of_net hn
    lift type to Fin 4 using h4
    have reached := ((recordService_inRange type running joined hb h1 h2 hg).2 cls hc).2 (noRoomFor_false room)
    have open_sequence : ¬ sequenceLimit e type = true := fun h => by
      obtain ⟨i, hi, hl⟩ := (sequenceLimit_iff e type).mp h
      exact absurd (hseq i hi) (by omega)
    obtain rfl : given = givenReading flag total := hgiven
    rw [← he, recordAt_passed (r := ⟨type, hours, givenReading flag total⟩) hh ht, if_neg open_sequence] at reached
    have number : (servicedEntry c s.clock.pos ⟨type, hours, givenReading flag total⟩ e).number = v := by
      rw [he]; exact number_entryOrNew s v cls
    have entries := fun w => entry_changeEntry c
      (servicedEntry c s.clock.pos ⟨type, hours, givenReading flag total⟩ e) s w
    rw [number] at entries
    refine ⟨_, withUsage c (servicedEntry c s.clock.pos ⟨type, hours, givenReading flag total⟩ e),
      exec_recordService answer reached, ?_, rfl, totaliser_servicedEntry c _ type hours flag total e,
      fun i => services_servicedEntry c _ type hours flag total e i, rfl, rfl, rfl, ?_, fun w hw => ?_, ?_, ?_, ?_,
      ?_, ?_⟩
    · rw [entry_respond, entries, if_pos rfl]
    · have queued := queued_changeEntry c (servicedEntry c s.clock.pos ⟨type, hours, givenReading flag total⟩ e) s
      rwa [number] at queued
    · rw [entry_respond, entries, if_neg hw]
    · simp
    · simp
    · simp
    · simp [KeepsForecourt]
    · rw [← serviceReports_eq]; simp

end Sys2Proof.Machine.ServiceIntervals
end

section
/-! PRESENT_VEHICLE refused by its first failing check (R128 to R130). -/

namespace Sys2Proof.Machine.ServiceIntervals

open Sys2Proof Sys2Proof.Machine

/-! ### Checks 1 to 12 -/

section Checks

variable {s : State} {c : ConfigBlock} {h : Fin 4} {v hours flag total preset : Nat}

/-- With its operands in range (checks 1 and 2), a presentation comes to check 3. -/
theorem presentVehicle_inRange (hr : s.net.state ≠ .standby) (hb : s.store.block = some c) (hv : within 1 4095 v)
    (hg : ReadingsInRange hours flag total) (hp : preset ≤ 4294967295) :
    presentVehicle (h.val + 1) v hours flag total preset s =
      presentAt c h ⟨v, hours, givenReading flag total, preset⟩ s := by
  have preset_ok : ¬ u32Max < preset := Nat.not_lt.mpr hp
  simp only [presentVehicle, running_true hr, hb, indexOf_succ, badVehicle_false hv.1 hv.2,
    badReadings_of_inRange hg, preset_ok, decide_false, Bool.or_self, Bool.false_eq_true, if_false]

theorem presentVehicle_badRequest {hose : Nat} (hr : s.net.state ≠ .standby) (hb : s.store.block = some c)
    (bad : hose = 0 ∨ 4 < hose ∨ v = 0 ∨ 4095 < v ∨ 9999999 < hours ∨ 1 < flag ∨ (flag = 1 ∧ 99999999 < total)) :
    presentVehicle hose v hours flag total preset s = (s, .badRequest, []) := by
  unfold presentVehicle
  simp only [running_true hr, hb]
  cases hi : indexOf 4 hose with
  | none => rfl
  | some k =>
    have fields : (badVehicle v || badReadings hours flag total) = true := by
      rcases bad with b | b | b | b | b
      · simp [indexOf_none (.inl b)] at hi
      · simp [indexOf_none (.inr b)] at hi
      · simp [badVehicle_true (.inl b)]
      · simp [badVehicle_true (.inr b)]
      · simp [badReadings_true b]
    simp only [fields, Bool.true_or, if_true]
    rfl

/-- The first failing check of checks 3 to 8, or what comes after them. -/
theorem hoseRefusal_getD (hb : s.store.block = some c) (later : Result) :
    (hoseRefusal h s).getD later =
      if c.fitted[h] = false then .notFitted
      else if (s.hose h).ctl.state = .outOfService then .hoseOut
      else if (s.hose h).ctl.state ≠ .idle then .busy
      else if (s.hose h).nozzle.active = true then .nozzleLifted
      else if s.field.stop.active = true then .estop
      else if 32 ≤ s.records.records.length + s.records.reservations then .recordsFull
      else later := by
  have full : s.recordsFull = true ↔ 32 ≤ s.records.records.length + s.records.reservations := decide_eq_true_iff
  simp only [hoseRefusal, fitted_eq hb, full, Bool.not_eq_true']
  simp only [apply_ite (fun o : Option Result => o.getD later), Option.getD_some, Option.getD_none]

theorem vehicleActive_iff (s : State) (v : Nat) :
    s.vehicleActive v = true ↔ ∃ k : Fin 4, ∃ x, s.context k = some x ∧ x.vehicle = v := by
  rw [State.vehicleActive, anyTable_hoses]
  refine exists_congr fun k => ?_
  cases hx : s.context k with
  | none => simp [show (s.hose k).ctl.context = none from hx]
  | some x => simp [show (s.hose k).ctl.context = some x from hx]

/-- The first failing check of checks 10 to 12, or what comes after them. -/
theorem vehicleRefusal_getD (v : Nat) (e : VehicleEntry) (s : State) (later : Result)
    [Decidable (∃ k : Fin 4, ∃ x, s.context k = some x ∧ x.vehicle = v)]
    [Decidable (s.entry v = none ∧ 256 ≤ s.view.entries.length)] :
    (vehicleRefusal v e s).getD later =
      if ∃ k : Fin 4, ∃ x, s.context k = some x ∧ x.vehicle = v then .vehicleActive
      else if s.entry v = none ∧ 256 ≤ s.view.entries.length then .viewFull
      else if e.bar.barred = true then .barred
      else later := by
  simp only [vehicleRefusal, vehicleActive_iff, noRoomFor_iff]
  simp only [apply_ite (fun o : Option Result => o.getD later), Option.getD_some, Option.getD_none]

theorem hoseRefusal_none (hb : s.store.block = some c) (fitted : c.fitted[h] = true)
    (idle : (s.hose h).ctl.state = .idle) (nozzle : (s.hose h).nozzle.active = false)
    (stop : s.field.stop.active = false) (room : s.records.records.length + s.records.reservations < 32) :
    hoseRefusal h s = none := by
  have full : s.recordsFull = false := decide_eq_false (Nat.not_le.mpr room)
  simp [hoseRefusal, fitted_eq hb, fitted, idle, nozzle, stop, full]

theorem vehicleRefusal_none {e : VehicleEntry} (free : ∀ k : Fin 4, ∀ x, s.context k = some x → x.vehicle ≠ v)
    (room : s.entry v = none → s.view.entries.length < 256) (bar : e.bar.barred = false) :
    vehicleRefusal v e s = none := by
  have inactive : ¬ s.vehicleActive v = true := fun active => by
    obtain ⟨k, x, hx, hv⟩ := (vehicleActive_iff s v).mp active
    exact free k x hx hv
  simp [vehicleRefusal, inactive, noRoomFor_false room, bar]

/-- Past checks 1 to 12, with the readings in range: checks 13 to 16. -/
theorem presentVehicle_passed {e : VehicleEntry} (hp : PassesToReadings s c h v e)
    (hg : ReadingsInRange hours flag total) (hl : preset ≤ 4294967295) :
    presentVehicle (h.val + 1) v hours flag total preset s =
      presentReadings c h ⟨v, hours, givenReading flag total, preset⟩ e s := by
  obtain ⟨running, hb, hv, fitted, idle, nozzle, stop, records, ⟨cls, hc, rfl⟩, free, room, bar⟩ := hp
  rw [presentVehicle_inRange running hb hv hg hl]
  simp only [presentAt, hoseRefusal_none hb fitted idle nozzle stop records, hc, vehicleRefusal_none free room bar]

end Checks

/-! ### Checks 13 to 16 -/

/-- No present register's highest hours reading is exceeded: the hours check is not implausible. -/
theorem hoursCheck_ne_implausible {c : ConfigBlock} {now : ClockPos} {register : Option Reading} {h : Nat}
    (hb : ∀ r, register = some r → h ≤ hoursTop c now r) : hoursCheck c now register h ≠ .implausible := by
  cases register with
  | none => exact nofun
  | some r =>
    have top := hb r rfl
    exact fun e => absurd ((hoursCheck_iff c now r h).1.mp e) (by omega)

theorem totaliserCheck_ne_implausible {c : ConfigBlock} {cls : Fin 8} {now : ClockPos} {register : Option Reading}
    {flag total : Nat} (hf : flag ≤ 1)
    (hb : ∀ r, flag = 1 → register = some r → total ≤ totaliserTop c cls now r) :
    totaliserCheck c cls now register (givenReading flag total) ≠ .implausible := by
  rcases Nat.le_one_iff_eq_zero_or_eq_one.mp hf with h0 | h1
  · rw [givenReading_zero total h0]
    exact nofun
  · rw [givenReading_one total h1]
    cases register with
    | none => exact nofun
    | some r =>
      have top := hb r h1 rfl
      exact fun e => absurd ((totaliserCheck_iff c cls now r total).1.mp e) (by omega)

section Readings

variable {s : State} {c : ConfigBlock} {h : Fin 4} {p : Presentation} {e : VehicleEntry} {r : Reading} {t : Nat}

theorem presentReadings_hours (hr : e.hours = some r) (top : hoursTop c s.clock.pos r < p.hours) :
    presentReadings c h p e s =
      (s, .hoursImplausible, fieldBytes [(3, r.value), (3, hoursTop c s.clock.pos r)]) := by
  have outcome : (presentCheck c p e s).hours = .implausible := by
    rw [presentCheck, hr]; exact (hoursCheck_iff c _ r _).1.mpr top
  simp only [presentReadings, outcome, if_true, hr, hoursTooHigh, readingBounds_eq, hoursTop_eq]

theorem presentReadings_totaliser (hours_ok : hoursCheck c s.clock.pos e.hours p.hours ≠ .implausible)
    (hr : e.totaliser = some r) (ht : p.totaliser = some t) (top : totaliserTop c e.cls s.clock.pos r < t) :
    presentReadings c h p e s =
      (s, .totaliserImplausible, fieldBytes [(4, r.value), (4, totaliserTop c e.cls s.clock.pos r)]) := by
  have hours : (presentCheck c p e s).hours ≠ .implausible := hours_ok
  have outcome : (presentCheck c p e s).totaliser = .implausible := by
    rw [presentCheck, hr, ht]; exact (totaliserCheck_iff c _ _ r _).1.mpr top
  simp only [presentReadings, hours, outcome, if_true, if_false, hr, totaliserTooHigh, readingBounds_eq,
    totaliserTop_eq]

/-- Both readings are plausible: check 15, of the origin list, then check 16, of the limit. -/
theorem presentReadings_plausible (hours_ok : hoursCheck c s.clock.pos e.hours p.hours ≠ .implausible)
    (total_ok : totaliserCheck c e.cls s.clock.pos e.totaliser p.totaliser ≠ .implausible) :
    (hasOwn s e.origins = false → 16 ≤ e.origins.length → presentReadings c h p e s = (s, .originFull, [])) ∧
    (hasOwn s e.origins = true ∨ e.origins.length < 16 →
      (presentCheck c p e s).limit < c.minimumIssue * 100 →
      presentReadings c h p e s = (s, limitRefusal (presentCheck c p e s).bound,
        fieldBytes [(4, (presentCheck c p e s).limit), (1, (presentCheck c p e s).bound.code)])) := by
  have hours : (presentCheck c p e s).hours ≠ .implausible := hours_ok
  have totaliser : (presentCheck c p e s).totaliser ≠ .implausible := total_ok
  refine ⟨fun own full => ?_, fun room below => ?_⟩
  · have no_place : (!hasOwn s e.origins && decide (originRoom ≤ e.origins.length)) = true := by
      simp only [own, Bool.not_false, Bool.true_and]
      exact decide_eq_true full
    simp only [presentReadings, hours, totaliser, if_false, no_place, if_true]
    rfl
  · have place : (!hasOwn s e.origins && decide (originRoom ≤ e.origins.length)) = false := by
      rcases room with own | short
      · simp [own]
      · have fits : decide (originRoom ≤ e.origins.length) = false := decide_eq_false (Nat.not_le.mpr short)
        rw [fits, Bool.and_false]
    simp only [presentReadings, hours, totaliser, if_false, place, Bool.false_eq_true, below, if_true]
    simp

end Readings

/-- The station holds its own origin entry just when an amount stands under its key (R10). -/
theorem hasOwn_eq_amountOf {s : State} {c : ConfigBlock} (hb : s.store.block = some c) (l : List OriginEntry) :
    hasOwn s l = (amountOf c.station s.store.startTag l).isSome := by
  simp only [hasOwn, amountOf, State.stationNumber, hb, Option.isSome_map]
  rw [Bool.eq_iff_iff, List.any_eq_true, List.find?_isSome]

/-! ### The bound of a limit below the minimum issue -/

theorem smallestBound_mem (first : Bound × Nat) (rest : List (Bound × Nat)) :
    smallestBound first rest ∈ first :: rest := by
  induction rest generalizing first with
  | nil => exact List.mem_singleton_self first
  | cons b rest ih =>
    rw [show smallestBound first (b :: rest) = smallestBound (if b.2 < first.2 then b else first) rest from rfl]
    rcases List.mem_cons.mp (ih (if b.2 < first.2 then b else first)) with h | h
    · rw [h]
      split <;> simp
    · exact List.mem_cons_of_mem _ (List.mem_cons_of_mem _ h)

theorem issueLimit_mem (c : ConfigBlock) (cls : Fin 8) (active : Nat) (net : NetState) (origins : List OriginEntry)
    (hold : Bool) (preset : Nat) :
    issueLimit c cls active net origins hold preset ∈ candidateBounds c cls active net origins hold preset := by
  unfold issueLimit
  split
  next hn => simp [candidateBounds] at hn
  next b rest hl => rw [hl]; exact smallestBound_mem b rest

theorem eq_tank_of_mem {c : ConfigBlock} {cls : Fin 8} {active preset n : Nat} {net : NetState}
    {origins : List OriginEntry} {hold : Bool}
    (h : (Bound.tank, n) ∈ candidateBounds c cls active net origins hold preset) :
    n = c.classes[cls].tank * 100 := by
  simpa [candidateBounds] using h

/-- Where the tank capacity bounds a limit, the limit is that capacity (R129). -/
theorem limit_of_tank {c : ConfigBlock} {p : Presentation} {e : VehicleEntry} {s : State}
    (h : (presentCheck c p e s).bound = .tank) :
    (presentCheck c p e s).limit = c.classes[e.cls].tank * 100 := by
  have member := issueLimit_mem c e.cls s.clock.active[e.cls] s.net.state e.origins
    (entryOnAcceptance c s.clock.pos p e).hold p.preset
  have pair : issueLimit c e.cls s.clock.active[e.cls] s.net.state e.origins
      (entryOnAcceptance c s.clock.pos p e).hold p.preset = (.tank, (presentCheck c p e s).limit) :=
    Prod.ext h rfl
  rw [pair] at member
  exact eq_tank_of_mem member

/-- In a configuration in range no tank capacity is below the minimum issue (R172), so a limit below it has
another bound. -/
theorem bound_ne_tank {c : ConfigBlock} {p : Presentation} {e : VehicleEntry} {s : State} (hs : ConfigSound s)
    (hb : s.store.block = some c) (below : (presentCheck c p e s).limit < c.minimumIssue * 100) :
    (presentCheck c p e s).bound ≠ .tank := fun tank => by
  have range := hs.1 c hb
  unfold ConfigBlock.inRange at range
  have classes : ∀ k : Fin 8, c.classes[k].inRange c.minimumIssue := by tauto
  obtain ⟨-, -, -, -, holds_minimum, -⟩ := classes e.cls
  rw [limit_of_tank tank] at below
  omega

/-! ### The obligation -/

/-- A presentation is answered with what it makes of the state. -/
theorem exec_presentVehicle {s t : State} {hose v hours flag total preset : Nat} {r : Result} {payload : List Byte}
    (h : s.canAnswer) (e : presentVehicle hose v hours flag total preset s = (t, r, payload)) :
    exec (.presentVehicle hose v hours flag total preset) s = .next (t.respond 0x10 r payload) :=
  congrArg Host.Outcome.next (serve_answered h e)

/-- Settles O12: the checks of Table 8-3 one after another. -/
theorem presentRefusedInOrder : Obligations.PresentRefusedInOrder := by
  intro s c h v hours flag total preset answer
  refine ⟨fun hn hose => exec_presentVehicle answer (by simp [presentVehicle, running_false hn, refuse]),
    fun hr hb hose bad => exec_presentVehicle answer (presentVehicle_badRequest hr hb bad),
    fun hr hb h1 h2 hg hl => ?_, fun e sound passes hg hl => ?_⟩
  · have reached := presentVehicle_inRange (h := h) hr hb ⟨h1, h2⟩ hg hl
    refine ⟨_, ?_, (hoseRefusal_getD hb _)⟩
    cases hh : hoseRefusal h s with
    | some r => exact .inl (exec_presentVehicle answer (reached.trans (by simp only [presentAt, hh]; rfl)))
    | none =>
      cases hc : classOf c v with
      | none => exact .inl (exec_presentVehicle answer (reached.trans (by simp only [presentAt, hh, hc]; rfl)))
      | some cls =>
        simp only [Option.getD_none]
        rw [← vehicleRefusal_getD]
        cases hv : vehicleRefusal v (s.entryOrNew v cls) s with
        | some r =>
          exact .inl (exec_presentVehicle answer (reached.trans (by simp only [presentAt, hh, hc, hv]; rfl)))
        | none => exact .inr rfl
  · have hb : s.store.block = some c := passes.2.1
    have reached := presentVehicle_passed passes hg hl
    refine ⟨fun r hr top => exec_presentVehicle answer (reached.trans (presentReadings_hours hr top)),
      fun hours_top => ?_⟩
    have hours_ok := hoursCheck_ne_implausible hours_top
    refine ⟨fun r hf hr top => exec_presentVehicle answer (reached.trans
      (presentReadings_totaliser hours_ok hr (givenReading_one total hf) top)), fun total_top => ?_⟩
    obtain ⟨no_place, below_minimum⟩ := presentReadings_plausible (h := h)
      (p := ⟨v, hours, givenReading flag total, preset⟩) hours_ok (totaliserCheck_ne_implausible hg.2.1 total_top)
    rw [hasOwn_eq_amountOf hb] at no_place below_minimum
    refine ⟨fun own full => exec_presentVehicle answer (reached.trans (no_place (by simp [own]) full)),
      fun k room hk below => ?_⟩
    obtain rfl : k = presentCheck c ⟨v, hours, givenReading flag total, preset⟩ e s := hk
    refine ⟨_, exec_presentVehicle answer (reached.trans (below_minimum room below)), ?_⟩
    have not_tank := bound_ne_tank sound hb below
    cases bound : (presentCheck c ⟨v, hours, givenReading flag total, preset⟩ e s).bound with
    | allowance => exact .inl ⟨rfl, rfl⟩
    | hold => exact .inr (.inl ⟨rfl, rfl⟩)
    | net => exact .inr (.inr (.inl ⟨rfl, rfl⟩))
    | tank => exact absurd bound not_tank
    | preset => exact .inr (.inr (.inr ⟨rfl, rfl⟩))

end Sys2Proof.Machine.ServiceIntervals
end

-- Proofs of the family 03_shift_clock_and_allowance_periods: the shift clock and its commands, the class allowances,
-- START, the beacon, and what stays frozen in an issue context.

section
/-! Proofs of the family 03_shift_clock_and_allowance_periods. What a command does to the state, where it does anything:
one inversion lemma for each request and event whose checks stand before a single operation. -/

namespace Sys2Proof.Machine.ShiftClock

open Sys2Proof Sys2Proof.Machine Sys2Proof.Machine.ServiceIntervals

/-! ### Requests -/

/-- An accepted START finds a station in STANDBY, a configuration, and a position in range (R173). -/
theorem start_cases (shift time : Nat) (s : State) : (start shift time s).1 = s ∨
    ∃ c, s.store.block = some c ∧ time < c.shiftLength ∧ shift ≤ u24Max ∧
      (start shift time s).1 = startStation c ⟨shift, time⟩ s := by
  unfold start
  split
  · exact .inl rfl
  · split
    · exact .inl rfl
    · next c hb =>
      split
      · exact .inl rfl
      · next hr => exact .inr ⟨c, hb, by omega, by omega, rfl⟩

theorem standby_cases (s : State) : (standby s).1 = s ∨ (standby s).1 = standbyStation s := by
  unfold standby
  split
  · exact .inl rfl
  · exact .inr rfl

theorem restart_cases (s : State) : (restart s).1 = s ∨
    ∃ c, s.running = true ∧ s.store.block = some c ∧ (restart s).1 = restartStation c s := by
  unfold restart
  split
  · next c hr hb => exact .inr ⟨c, hr, hb, rfl⟩
  · exact .inl rfl

theorem idle_of_hoseRefusal {h : Fin 4} {s : State} (e : hoseRefusal h s = none) :
    (s.hose h).ctl.state = .idle := by
  unfold hoseRefusal at e
  split at e
  · cases e
  · split at e
    · cases e
    · split at e
      · cases e
      · next busy => exact Classical.not_not.mp busy

theorem presentReadings_cases (c : ConfigBlock) (h : Fin 4) (p : Presentation) (e : VehicleEntry) (s : State) :
    (presentReadings c h p e s).1 = s ∨
    (presentReadings c h p e s).1 = acceptPresentation c h p e (presentCheck c p e s) s := by
  simp only [presentReadings]
  split
  · exact .inl rfl
  · split
    · exact .inl rfl
    · split
      · exact .inl rfl
      · split
        · exact .inl rfl
        · exact .inr rfl

/-- An accepted presentation finds its hose in IDLE (R128). -/
theorem presentVehicle_cases (hose v hours flag total preset : Nat) (s : State) :
    (presentVehicle hose v hours flag total preset s).1 = s ∨
    ∃ c h p e k, (s.hose h).ctl.state = .idle ∧
      (presentVehicle hose v hours flag total preset s).1 = acceptPresentation c h p e k s := by
  unfold presentVehicle
  split
  · next c hr hb =>
    split
    · exact .inl rfl
    · next h hh =>
      split
      · exact .inl rfl
      · unfold presentAt
        split
        · exact .inl rfl
        · exact .inl rfl
        · next cls hn hc =>
          simp only
          split
          · exact .inl rfl
          · exact (presentReadings_cases c h _ _ s).imp_right
              fun e => ⟨c, h, _, _, _, idle_of_hoseRefusal hn, e⟩
  · exact .inl rfl

theorem stopHose_cases (hose : Nat) (s : State) : (stopHose hose s).1 = s ∨
    ∃ c h, (stopHose hose s).1 = endIssue c h .stop s := by
  unfold stopHose
  split
  · exact .inl rfl
  · exact .inl rfl
  · next h c hh hb =>
    split
    · exact .inl rfl
    · exact .inr ⟨c, h, rfl⟩

theorem clearHoseFault_cases (hose : Nat) (s : State) : (clearHoseFault hose s).1 = s ∨
    ∃ h, (clearHoseFault hose s).1 = thaw h s := by
  unfold clearHoseFault
  split
  · exact .inl rfl
  · next h hh =>
    split
    · exact .inr ⟨h, rfl⟩
    · exact .inl rfl

theorem barRequest_cases (b : Bool) (v : Nat) (s : State) : (barRequest b v s).1 = s ∨
    ∃ c e, (barRequest b v s).1 = setBar c b e s := by
  unfold barRequest
  split
  · next c hr hb =>
    split
    · exact .inl rfl
    · split
      · exact .inl rfl
      · simp only
        split
        · exact .inl rfl
        · split
          · exact .inl rfl
          · exact .inr ⟨c, _, rfl⟩
  · exact .inl rfl

theorem recordAt_cases (c : ConfigBlock) (r : ServiceRecord) (e : VehicleEntry) (s : State) :
    (recordAt c r e s).1 = s ∨ ∃ e', (recordAt c r e s).1 = changeEntry c e' s := by
  simp only [recordAt]
  split
  · exact .inl rfl
  · exact .inl rfl
  · split
    · exact .inl rfl
    · exact .inr ⟨_, rfl⟩

theorem recordService_cases (v type hours flag total : Nat) (s : State) :
    (recordService v type hours flag total s).1 = s ∨
    ∃ c e, (recordService v type hours flag total s).1 = changeEntry c e s := by
  unfold recordService
  split
  · next c hr hb =>
    split
    · exact .inl rfl
    · split
      · exact .inl rfl
      · split
        · exact .inl rfl
        · split
          · exact .inl rfl
          · split
            · exact .inl rfl
            · exact (recordAt_cases c _ _ s).imp_right fun ⟨e, h⟩ => ⟨c, e, h⟩
  · exact .inl rfl

/-- STAGE_ALLOWANCE and CLEAR_STAGED move the staged allowances alone (R54, R55). -/
theorem stageAllowance_cases (cls litres : Nat) (s : State) : (stageAllowance cls litres s).1 = s ∨
    ∃ k, (stageAllowance cls litres s).1 = setStaged k (some litres) s := by
  unfold stageAllowance
  split
  · exact .inl rfl
  · exact .inl rfl
  · next k hb hk =>
    split
    · exact .inl rfl
    · exact .inr ⟨k, rfl⟩

theorem clearStaged_cases (cls : Nat) (s : State) : (clearStaged cls s).1 = s ∨
    ∃ k, (clearStaged cls s).1 = setStaged k none s := by
  unfold clearStaged
  split
  · exact .inl rfl
  · exact .inl rfl
  · next k hb hk => exact .inr ⟨k, rfl⟩

theorem releaseRecord_cases (number : Nat) (s : State) : (releaseRecord number s).1 = s ∨
    ∃ rest, (releaseRecord number s).1 = releaseOldest rest s := by
  unfold releaseRecord
  split
  · exact .inl rfl
  · split
    · exact .inl rfl
    · next r rest hr =>
      split
      · exact .inr ⟨rest, rfl⟩
      · exact .inl rfl

theorem ackNotice_cases (source : Nat) (s : State) : (ackNotice source s).1 = s ∨
    ∃ i, (ackNotice source s).1 = s.mapNotice i (ackEntry i) := by
  unfold ackNotice
  split
  · exact .inl rfl
  · next i hi => exact .inr ⟨i, rfl⟩

theorem setNoticeEnables_cases (mask : Nat) (s : State) : (setNoticeEnables mask s).1 = s ∨
    (setNoticeEnables mask s).1 = s.mapNotices fun i => enableEntry i (mask.testBit i.val) := by
  unfold setNoticeEnables
  split
  · exact .inl rfl
  · exact .inr rfl

/-- What LOAD_CONFIG can do: parts are held or discarded under the configuration in force, or in STANDBY two parts that
pass their validation are installed (R171, R172). -/
def PartsTaken (s t : State) : Prop :=
  (∃ store : ConfigStore, store.block = s.store.block ∧ t = { s with store := store }) ∨
  ∃ p1 p2, s.running = false ∧ partsFailure p1 p2 = none ∧ t = installConfig (configOfParts p1 p2) s

theorem partsTaken_loadBlock (p1 p2 : List Byte) {s : State} (hr : s.running = false) :
    PartsTaken s (loadBlock p1 p2 s).1 := by
  unfold loadBlock
  split
  · exact .inl ⟨{ s.store with part1 := none, part2 := none }, rfl, rfl⟩
  · next valid => exact .inr ⟨p1, p2, hr, valid, rfl⟩

theorem partsTaken_loadConfig (part : Nat) (bytes : List Byte) (s : State) :
    PartsTaken s (loadConfig part bytes s).1 := by
  have refused : PartsTaken s s := .inl ⟨s.store, rfl, rfl⟩
  unfold loadConfig
  split
  · exact refused
  · split
    · exact refused
    · next running =>
      have standby : s.running = false := Bool.eq_false_iff.mpr running
      split
      · split
        · exact .inl ⟨{ s.store with part1 := some bytes }, rfl, rfl⟩
        · exact partsTaken_loadBlock _ _ standby
      · split
        · split
          · exact .inl ⟨{ s.store with part2 := some bytes }, rfl, rfl⟩
          · exact partsTaken_loadBlock _ _ standby
        · exact refused

/-! ### Frames and events -/

section Events

variable {s t : State}

/-- A beacon is taken in a running station and in the ranges of R83; otherwise it is dropped or lost (R82, R84). -/
theorem execBeacon_cases {n : Nat} {p : ClockPos} {k : Nat} (h : execBeacon n p k s = .next t) :
    t = s ∨ (∃ cause, t = countDrop cause s) ∨
    ∃ c i, s.running = true ∧ s.store.block = some c ∧ beaconInRange c.shiftLength p k = true ∧
      t = takeBeacon c i p k s := by
  unfold execBeacon at h
  split at h
  · next c hr hb =>
    split at h
    · exact .inr (.inl ⟨_, (next_inj h).symm⟩)
    · next i hi =>
      split at h
      · next range => exact .inr (.inr ⟨c, i, hr, hb, range, (next_inj h).symm⟩)
      · exact .inr (.inl ⟨_, (next_inj h).symm⟩)
  · exact .inl (next_inj h).symm

theorem execTally_cases {n : Nat} {f : TallyFrame} (h : execTally n f s = .next t) :
    t = s ∨ (∃ cause, t = countDrop cause s) ∨
    ∃ c i, s.running = true ∧ s.store.block = some c ∧ f.inRange c.shiftLength = true ∧ t = takeTally c i f s := by
  unfold execTally at h
  split at h
  · next c hr hb =>
    split at h
    · exact .inr (.inl ⟨_, (next_inj h).symm⟩)
    · next i hi =>
      split at h
      · next range => exact .inr (.inr ⟨c, i, hr, hb, range, (next_inj h).symm⟩)
      · exact .inr (.inl ⟨_, (next_inj h).symm⟩)
  · exact .inl (next_inj h).symm

theorem execShiftClockSecond_cases (h : execShiftClockSecond s = .next t) :
    t = s ∨ ∃ c, s.store.block = some c ∧ t = countSecond c s := by
  unfold execShiftClockSecond at h
  split at h
  · exact .inl (next_inj h).symm
  · next c hb => exact .inr ⟨c, hb, (next_inj h).symm⟩

theorem execMissTimerExpiry_cases {n : Nat} (h : execMissTimerExpiry n s = .next t) :
    t = s ∨ ∃ i, t = missAtPeer i s := by
  unfold execMissTimerExpiry at h
  split at h
  · exact .inl (next_inj h).symm
  · next i hi =>
    rw [← next_inj h]
    split
    · exact .inr ⟨i, rfl⟩
    · exact .inl rfl

theorem execBeaconDue_cases (h : execBeaconDue s = .next t) : t = s ∨ ∃ c f, t = (nextBeacon c s).mapRadio f := by
  unfold execBeaconDue at h
  split at h
  · exact .inr ⟨_, _, (next_inj h).symm⟩
  · exact .inl (next_inj h).symm

/-- The end of a quiet wait runs a countdown, after a draw or not (R89, R90). -/
theorem execQuietTimePassed_cases (h : execQuietTimePassed s = .next t) :
    t = s ∨ (∃ c n m, t = runCountdown c n (s.drawBelow m).2) ∨ ∃ c n, t = runCountdown c n s := by
  unfold execQuietTimePassed at h
  split at h
  · exact .inr (.inl ⟨_, _, _, (next_inj h).symm⟩)
  · exact .inr (.inr ⟨_, _, (next_inj h).symm⟩)
  · exact .inl (next_inj h).symm

theorem execBackoffSlotEnd_cases (h : execBackoffSlotEnd s = .next t) : t = s ∨ ∃ c n, t = runCountdown c n s := by
  unfold execBackoffSlotEnd at h
  split at h
  · next c slots left hb htx =>
    rw [← next_inj h]
    split
    · exact .inl rfl
    · exact .inr ⟨c, _, rfl⟩
  · exact .inl (next_inj h).symm

theorem execNozzleChange_cases {hose : Nat} {b : Bool} (h : execNozzleChange hose b s = .next t) :
    t = s ∨ ∃ c k, t = changeNozzle c k b s := by
  unfold execNozzleChange at h
  split at h
  · exact .inl (next_inj h).symm
  · next c k hk =>
    rw [← next_inj h]
    split
    · exact .inl rfl
    · exact .inr ⟨c, k, rfl⟩

theorem execStopLineChange_cases {b : Bool} (h : execStopLineChange b s = .next t) :
    t = s ∨ ∃ c, t = changeStop c b s := by
  unfold execStopLineChange at h
  split at h
  · exact .inl (next_inj h).symm
  · next c hb =>
    rw [← next_inj h]
    split
    · exact .inl rfl
    · exact .inr ⟨c, rfl⟩

theorem execMeterPulse_cases {hose ticks : Nat} (h : execMeterPulse hose ticks s = .next t) :
    t = s ∨ ∃ c k, t = takePulse c k ticks (setMeterInput c k s) := by
  unfold execMeterPulse at h
  split at h
  · exact .inl (next_inj h).symm
  · next c k hk => exact .inr ⟨c, k, (next_inj h).symm⟩

theorem execAuthTimerExpiry_cases {hose : Nat} (h : execAuthTimerExpiry hose s = .next t) :
    t = s ∨ ∃ k, t = raise .authExpired (cancel k s) := by
  unfold execAuthTimerExpiry at h
  split at h
  · exact .inl (next_inj h).symm
  · next c k hk =>
    rw [← next_inj h]
    split
    · exact .inr ⟨k, rfl⟩
    · exact .inl rfl

theorem execPrimeWaitExpiry_cases {hose : Nat} (h : execPrimeWaitExpiry hose s = .next t) :
    t = s ∨ ∃ c k x, t = endPrimeWait c k x s := by
  unfold execPrimeWaitExpiry at h
  split at h
  · exact .inl (next_inj h).symm
  · next c k hk =>
    split at h
    · next x hs hx => exact .inr ⟨c, k, x, (next_inj h).symm⟩
    · exact .inl (next_inj h).symm

theorem execStartTimerExpiry_cases {hose : Nat} (h : execStartTimerExpiry hose s = .next t) :
    t = s ∨ ∃ c k, t = close c k .noStart s := by
  unfold execStartTimerExpiry at h
  split at h
  · exact .inl (next_inj h).symm
  · next c k hk =>
    rw [← next_inj h]
    split
    · exact .inr ⟨c, k, rfl⟩
    · exact .inl rfl

theorem execNoFlowTimerExpiry_cases {hose : Nat} (h : execNoFlowTimerExpiry hose s = .next t) :
    t = s ∨ ∃ c k, t = close c k .noFlow s := by
  unfold execNoFlowTimerExpiry at h
  split at h
  · exact .inl (next_inj h).symm
  · next c k hk =>
    rw [← next_inj h]
    split
    · exact .inr ⟨c, k, rfl⟩
    · exact .inl rfl

theorem execSettleTimerExpiry_cases {hose : Nat} (h : execSettleTimerExpiry hose s = .next t) :
    t = s ∨ ∃ k f, t = s.mapMeter k f := by
  unfold execSettleTimerExpiry at h
  split at h
  · exact .inl (next_inj h).symm
  · next c k hk => exact .inr ⟨k, _, (next_inj h).symm⟩

theorem execCreepQuietTimerExpiry_cases {hose : Nat} (h : execCreepQuietTimerExpiry hose s = .next t) :
    t = s ∨ ∃ k f, t = s.mapMeter k f := by
  unfold execCreepQuietTimerExpiry at h
  split at h
  · exact .inl (next_inj h).symm
  · next k hk => exact .inr ⟨k, _, (next_inj h).symm⟩

/-- The end of an overrun window completes the issue of its hose (R140). -/
theorem execOverrunWindowExpiry_cases {hose : Nat} (h : execOverrunWindowExpiry hose s = .next t) :
    t = s ∨ ∃ c k x, s.context k = some x ∧ t = complete c k x s := by
  unfold execOverrunWindowExpiry at h
  split at h
  · exact .inl (next_inj h).symm
  · next c k hk =>
    split at h
    · next x hs hx => exact .inr ⟨c, k, x, hx, (next_inj h).symm⟩
    · exact .inl (next_inj h).symm

end Events

end Sys2Proof.Machine.ShiftClock
end

section
/-! The shift clock: where each operation of chapter 3 leaves it, and what every command and every step does to it. -/

namespace Sys2Proof.Machine.ShiftClock

open Sys2Proof Sys2Proof.Machine Sys2Proof.Machine.ServiceIntervals

/-! ### The operations of the clock -/

@[simp] theorem clock_placeClock (c : ConfigBlock) (p : ClockPos) (s : State) : (placeClock c p s).clock =
    { s.clock with pos := p, phase := 0, held := s.clock.held || holdsAt c p } := rfl

/-- A clock moved is placed, and a shift change hands on the staged allowances (R51). -/
theorem clock_moveClock (c : ConfigBlock) (p : ClockPos) (s : State) : (moveClock c p s).clock =
    if s.clock.pos.shift < p.shift then (shiftEffects (placeClock c p s)).clock else (placeClock c p s).clock := by
  simp only [moveClock]
  split <;> rfl

@[simp] theorem pos_moveClock (c : ConfigBlock) (p : ClockPos) (s : State) : (moveClock c p s).clock.pos = p := by
  rw [clock_moveClock]
  split <;> rfl

@[simp] theorem set_moveClock (c : ConfigBlock) (p : ClockPos) (s : State) :
    (moveClock c p s).clock.set = s.clock.set := by
  rw [clock_moveClock]
  split <;> rfl

/-- A move to a greater shift number has the effects of R51, and any other none. -/
theorem moveClock_eq (c : ConfigBlock) (p : ClockPos) (s : State) : moveClock c p s =
    if s.clock.pos.shift < p.shift then shiftEffects (placeClock c p s) else placeClock c p s := rfl

/-- START sets an unset clock, moves one that is behind, and leaves any other (R48). -/
theorem startClock_set (c : ConfigBlock) (p : ClockPos) (s : State) : (startClock c p s).clock.set = true := by
  unfold startClock
  split
  · rfl
  · next set =>
    have set : s.clock.set = true := by simpa using set
    split
    · rwa [set_moveClock]
    · exact set

theorem startClock_pos (c : ConfigBlock) (p : ClockPos) (s : State) : (startClock c p s).clock.pos =
    if s.clock.set = false ∨ ClockPos.ahead p s.clock.pos = true then p else s.clock.pos := by
  unfold startClock
  cases s.clock.set <;> cases ClockPos.ahead p s.clock.pos <;> simp

theorem clock_startStation (c : ConfigBlock) (p : ClockPos) (s : State) :
    (startStation c p s).clock = (startClock c p s).clock := by
  simp [startStation]

theorem block_startStation (c : ConfigBlock) (p : ClockPos) (s : State) :
    (startStation c p s).store.block = s.store.block := by
  simp [startStation, dropParts]

theorem set_beaconAtClock (c : ConfigBlock) (p : ClockPos) (s : State) :
    (beaconAtClock c p s).clock.set = s.clock.set := by
  simp only [beaconAtClock]
  (repeat' split) <;> simp

/-- A beacon moves the clock only when it leads it by more than 2 s (Table 3-1). -/
theorem beaconAtClock_pos (c : ConfigBlock) (p : ClockPos) (s : State) :
    (beaconAtClock c p s).clock.pos = s.clock.pos ∨
    2 < clockLead c.shiftLength p s.clock.pos ∧ (beaconAtClock c p s).clock.pos = p := by
  simp only [beaconAtClock]
  split
  · exact .inl rfl
  · next lead =>
    split
    · split
      · exact .inl rfl
      · exact .inr ⟨Int.not_le.mp lead, pos_moveClock c p s⟩
    · exact .inl rfl

/-- A beacon with the own number does not reach the clock (R65). -/
theorem clock_takeBeacon (c : ConfigBlock) (i : Fin 16) (p : ClockPos) (n : Nat) (s : State) :
    (takeBeacon c i p n s).clock = if i.val + 1 = c.station then s.clock else (beaconAtClock c p s).clock := by
  unfold takeBeacon
  split <;> simp

theorem clock_takeTally (c : ConfigBlock) (i : Fin 16) (f : TallyFrame) (s : State) :
    (takeTally c i f s).clock = (tallyAtClock c f.shift s).clock := by
  simp only [takeTally]
  split <;> simp

/-- The clock under a new configuration: kept below the new shift length, and otherwise put at the new last second when it
is held or in the last shift, or moved to the next shift (R56). -/
theorem clockUnderConfig_pos (c : ConfigBlock) (s : State) : (clockUnderConfig c s).clock.pos =
    if s.clock.set = false ∨ s.clock.pos.time < c.shiftLength then s.clock.pos
    else if s.clock.held = true ∨ s.clock.pos.shift = u24Max then ⟨s.clock.pos.shift, c.shiftLength - 1⟩
    else ⟨s.clock.pos.shift + 1, 0⟩ := by
  simp only [clockUnderConfig, Bool.or_eq_true, Bool.not_eq_true', decide_eq_true_eq]
  split
  · rfl
  · split
    · rfl
    · exact pos_moveClock c _ s

theorem set_clockUnderConfig (c : ConfigBlock) (s : State) : (clockUnderConfig c s).clock.set = s.clock.set := by
  simp only [clockUnderConfig]
  (repeat' split) <;> simp

/-- The clock of a station with a configuration installed: its allowances loaded, then placed by R56. -/
theorem clock_installConfig (c : ConfigBlock) (s : State) :
    (installConfig c s).clock.set = s.clock.set ∧
    (installConfig c s).clock.pos = (clockUnderConfig c s).clock.pos := by
  simp [installConfig, eachHose, set_clockUnderConfig, clockUnderConfig_pos, loadAllowances]

theorem block_installConfig (c : ConfigBlock) (s : State) : (installConfig c s).store.block = some c := by
  simp [installConfig, eachHose]

/-! ### A block that passes its validation (R172) -/

theorem length_rawFields (fs : List FieldSpec) (bs : List Byte) : (rawFields fs bs).length = fs.length := by
  induction fs generalizing bs with
  | nil => rfl
  | cons f fs ih => simp [rawFields, ih]

/-- Each field of two valid parts passes its own range, and the block holds its value. -/
theorem field_of_valid {p1 p2 : List Byte} {i : Nat} {f : FieldSpec} (valid : partsFailure p1 p2 = none)
    (hf : blockFields[i]? = some f) :
    ∃ raw, f.fails raw = false ∧ valueAt (blockValues (rawBlock p1 p2)) (i + 1) = f.value raw := by
  have hi : i < blockFields.length := (List.getElem?_eq_some_iff.mp hf).1
  have hr : i < (rawBlock p1 p2).length := by rwa [rawBlock, length_rawFields]
  have pair : (blockFields.zip (rawBlock p1 p2))[i]? = some (f, (rawBlock p1 p2)[i]) := by
    rw [List.getElem?_zip_eq_some]
    exact ⟨hf, List.getElem?_eq_getElem hr⟩
  have none_named : rangeFailures (rawBlock p1 p2) = [] := by
    have all : blockFailures (rawBlock p1 p2) = [] := List.min?_eq_none_iff.mp valid
    exact (List.append_eq_nil_iff.mp all).1
  refine ⟨(rawBlock p1 p2)[i], ?_, ?_⟩
  · have member : ((f, (rawBlock p1 p2)[i]), i + 1) ∈ (blockFields.zip (rawBlock p1 p2)).zipIdx 1 :=
      List.mem_of_getElem? (i := i) (by simp [List.getElem?_zipIdx, pair, Nat.add_comm])
    have passed := List.filterMap_eq_nil_iff.mp none_named _ member
    by_contra fails
    simp [fails] at passed
  · simp [valueAt, blockValues, List.getD_eq_getElem?_getD, pair]

/-- The shift length is field 40 of Table 11-5. -/
theorem shiftLength_field : blockFields[39]? = some ⟨3, 3600, 86400, some 43200⟩ := by decide

theorem shiftLength_of_valid {p1 p2 : List Byte} (valid : partsFailure p1 p2 = none) :
    3600 ≤ (configOfParts p1 p2).shiftLength := by
  obtain ⟨raw, passes, value⟩ := field_of_valid valid shiftLength_field
  have same : (configOfParts p1 p2).shiftLength = valueAt (blockValues (rawBlock p1 p2)) (39 + 1) := by
    simp only [configOfParts, configOf]
  rw [same, value]
  simp only [FieldSpec.fails, Bool.or_eq_false_iff, decide_eq_false_iff_not] at passes
  omega

end Sys2Proof.Machine.ShiftClock
end

section
/-! The shift clock through every command and every step (R46). -/

namespace Sys2Proof.Machine.ShiftClock

open Sys2Proof Sys2Proof.Machine Sys2Proof.Machine.ServiceIntervals

/-- The configuration, the set flag and the position stand, and no station in STANDBY comes to run. -/
structure KeepsClock (s t : State) : Prop where
  block   : t.store.block = s.store.block
  set     : t.clock.set = s.clock.set
  pos     : t.clock.pos = s.clock.pos
  running : t.running = true → s.running = true

/-- Under a configuration that stands, the clock is set at a position below its shift length and not behind the one that a
set clock had. -/
structure PlacesClock (c : ConfigBlock) (s t : State) : Prop where
  block     : t.store.block = some c
  set       : t.clock.set = true
  time      : t.clock.pos.time < c.shiftLength
  shift     : t.clock.pos.shift ≤ u24Max
  notBehind : s.clock.set = true → ClockPos.notBehind t.clock.pos s.clock.pos

/-- What every command but POWER_ON and LOAD_CONFIG does to the clock. -/
def ClockAdvances (s t : State) : Prop := KeepsClock s t ∨ ∃ c, PlacesClock c s t

theorem notBehind_refl (p : ClockPos) : ClockPos.notBehind p p := .inr ⟨rfl, Nat.le_refl _⟩

theorem clockSound_of_advances {s t : State} (h : ClockSound s) (a : ClockAdvances s t) : ClockSound t := by
  obtain ⟨below, shift, unset, running⟩ := h
  rcases a with k | ⟨c, k⟩
  · refine ⟨fun hs => ?_, by rwa [k.pos], fun hs => ?_, fun hr => ?_⟩
    · obtain ⟨c, hb, ht⟩ := below (k.set ▸ hs)
      exact ⟨c, k.block.trans hb, by rwa [k.pos]⟩
    · rw [k.pos]
      exact unset (k.set ▸ hs)
    · rw [k.set]
      exact running (k.running hr)
  · refine ⟨fun _ => ⟨c, k.block, k.time⟩, k.shift, fun hs => ?_, fun _ => k.set⟩
    rw [k.set] at hs
    cases hs

theorem notBehind_of_advances {s t : State} (hs : s.clock.set = true) (a : ClockAdvances s t) :
    ClockPos.notBehind t.clock.pos s.clock.pos := by
  rcases a with k | ⟨c, k⟩
  · rw [k.pos]
    exact notBehind_refl _
  · exact k.notBehind hs

/-! ### Commands that leave the clock -/

theorem KeepsClock.refl (s : State) : KeepsClock s s := ⟨rfl, rfl, rfl, id⟩

theorem KeepsClock.trans {s t u : State} (a : KeepsClock s t) (b : KeepsClock t u) : KeepsClock s u :=
  ⟨b.block.trans a.block, b.set.trans a.set, b.pos.trans a.pos, a.running ∘ b.running⟩

/-- An operation that touches neither configuration, clock nor net leaves the clock. -/
theorem KeepsClock.of_frame {s t : State} (h : t.store = s.store ∧ t.clock = s.clock ∧ t.net = s.net) :
    KeepsClock s t := by
  obtain ⟨hb, hc, hn⟩ := h
  exact ⟨by rw [hb], by rw [hc], by rw [hc], by simp [State.running, hn]⟩

/-- In a station that runs, an operation may move the net state. -/
theorem KeepsClock.of_running {s t : State} (hr : s.running = true) (h : t.store = s.store ∧ t.clock = s.clock) :
    KeepsClock s t := by
  obtain ⟨hb, hc⟩ := h
  exact ⟨by rw [hb], by rw [hc], by rw [hc], fun _ => hr⟩

theorem keepsClock_respond (s : State) (kind : Nat) (r : Result) (payload : List Byte) :
    KeepsClock s (s.respond kind r payload) := .of_frame (by simp)

theorem ClockAdvances.then_keeps {s t u : State} (a : ClockAdvances s t) (b : KeepsClock t u) : ClockAdvances s u := by
  rcases a with k | ⟨c, k⟩
  · exact .inl (k.trans b)
  · exact .inr ⟨c, b.block.trans k.block, b.set.trans k.set, by rw [b.pos]; exact k.time, by rw [b.pos]; exact k.shift,
      by rw [b.pos]; exact k.notBehind⟩

/-- A request served does to the clock what its request does, or nothing when it is discarded (R166). -/
theorem ClockAdvances.serve {kind : Nat} {s : State} {request : State → Reply} (h : ClockAdvances s (request s).1) :
    ClockAdvances s (serve kind s request) := by
  rcases Nat.lt_or_ge s.link.responses.length responseRoom with hr | hr
  · rw [serve_taken _ _ _ hr]
    exact h.then_keeps (keepsClock_respond _ kind _ _)
  · rw [serve_discarded _ _ _ hr]
    exact .inl (.of_frame (by simp))

theorem keepsClock_ite {p : Prop} [Decidable p] {s t u : State} (ht : p → KeepsClock s t) (hu : KeepsClock s u) :
    KeepsClock s (if p then t else u) := by
  split
  · next h => exact ht h
  · exact hu

theorem keepsClock_standby (s : State) : KeepsClock s (standby s).1 := by
  rcases standby_cases s with e | e <;> rw [e]
  · exact .refl s
  · unfold standbyStation
    split
    · next hr => exact .of_running hr (by simp)
    · exact .refl s

theorem keepsClock_restart (s : State) : KeepsClock s (restart s).1 := by
  rcases restart_cases s with e | ⟨c, hr, hb, e⟩ <;> rw [e]
  · exact .refl s
  · exact .of_running hr (by simp)

theorem keepsClock_presentVehicle (hose v hours flag total preset : Nat) (s : State) :
    KeepsClock s (presentVehicle hose v hours flag total preset s).1 := by
  rcases presentVehicle_cases hose v hours flag total preset s with e | ⟨c, h, p, x, k, -, e⟩ <;> rw [e]
  · exact .refl s
  · exact .of_frame (by simp)

theorem keepsClock_stopHose (hose : Nat) (s : State) : KeepsClock s (stopHose hose s).1 := by
  rcases stopHose_cases hose s with e | ⟨c, h, e⟩ <;> rw [e]
  · exact .refl s
  · exact .of_frame (by simp)

theorem keepsClock_clearHoseFault (hose : Nat) (s : State) : KeepsClock s (clearHoseFault hose s).1 := by
  rcases clearHoseFault_cases hose s with e | ⟨h, e⟩ <;> rw [e]
  · exact .refl s
  · exact .of_frame (by simp)

theorem keepsClock_barRequest (b : Bool) (v : Nat) (s : State) : KeepsClock s (barRequest b v s).1 := by
  rcases barRequest_cases b v s with e | ⟨c, x, e⟩ <;> rw [e]
  · exact .refl s
  · exact .of_frame (by simp)

theorem keepsClock_recordService (v type hours flag total : Nat) (s : State) :
    KeepsClock s (recordService v type hours flag total s).1 := by
  rcases recordService_cases v type hours flag total s with e | ⟨c, x, e⟩ <;> rw [e]
  · exact .refl s
  · exact .of_frame (by simp)

theorem keepsClock_setStaged (k : Fin 8) (v : Option Nat) (s : State) : KeepsClock s (setStaged k v s) :=
  ⟨rfl, rfl, rfl, id⟩

theorem keepsClock_stageAllowance (cls litres : Nat) (s : State) : KeepsClock s (stageAllowance cls litres s).1 := by
  rcases stageAllowance_cases cls litres s with e | ⟨k, e⟩ <;> rw [e]
  · exact .refl s
  · exact keepsClock_setStaged k _ s

theorem keepsClock_clearStaged (cls : Nat) (s : State) : KeepsClock s (clearStaged cls s).1 := by
  rcases clearStaged_cases cls s with e | ⟨k, e⟩ <;> rw [e]
  · exact .refl s
  · exact keepsClock_setStaged k _ s

theorem keepsClock_releaseRecord (number : Nat) (s : State) : KeepsClock s (releaseRecord number s).1 := by
  rcases releaseRecord_cases number s with e | ⟨rest, e⟩ <;> rw [e]
  · exact .refl s
  · exact .of_frame (by simp)

theorem keepsClock_ackNotice (source : Nat) (s : State) : KeepsClock s (ackNotice source s).1 := by
  rcases ackNotice_cases source s with e | ⟨i, e⟩ <;> rw [e]
  · exact .refl s
  · exact .of_frame (by simp)

theorem keepsClock_setNoticeEnables (mask : Nat) (s : State) : KeepsClock s (setNoticeEnables mask s).1 := by
  rcases setNoticeEnables_cases mask s with e | e <;> rw [e]
  · exact .refl s
  · exact .of_frame (by simp)

theorem keepsClock_missAtPeer (i : Fin 16) (s : State) : KeepsClock s (missAtPeer i s) := by
  refine ⟨by simp, by simp, by simp, fun hr => ?_⟩
  simp only [missAtPeer] at hr
  split at hr
  · next joined => simp [State.running, joined.1]
  · exact hr

theorem keepsClock_tick (s : State) : KeepsClock s (tick s) := by
  have ticked : s.clock.tick.set = s.clock.set ∧ s.clock.tick.pos = s.clock.pos := by
    unfold ClockBlock.tick
    split <;> exact ⟨rfl, rfl⟩
  refine ⟨by simp, by simp [ticked], by simp [ticked], by simp [State.running]⟩

/-! ### Commands that place the clock -/

/-- A set clock stands below the shift length in force (R46). -/
theorem time_of_sound {s : State} {c : ConfigBlock} (h : ClockSound s) (hs : s.clock.set = true)
    (hb : s.store.block = some c) : s.clock.pos.time < c.shiftLength := by
  obtain ⟨below, -⟩ := h
  obtain ⟨c', hb', ht⟩ := below hs
  rwa [Option.some.inj (hb.symm.trans hb')]

theorem shift_of_sound {s : State} (h : ClockSound s) : s.clock.pos.shift ≤ u24Max := h.2.1

theorem set_of_running {s : State} (h : ClockSound s) (hr : s.running = true) : s.clock.set = true := by
  obtain ⟨-, -, -, running⟩ := h
  exact running hr

/-- A position is ahead of another exactly when the other is behind it (R46). -/
theorem notBehind_of_ahead {p q : ClockPos} (h : ClockPos.ahead p q = true) : ClockPos.notBehind p q := by
  simp only [ClockPos.ahead, Bool.or_eq_true, Bool.and_eq_true, decide_eq_true_eq, beq_iff_eq] at h
  exact h.imp_right fun ⟨hs, ht⟩ => ⟨hs, Nat.le_of_lt ht⟩

/-- A positive difference of R49 between two times below the shift length puts the leading position ahead. -/
theorem notBehind_of_lead {n : Nat} {p q : ClockPos} (hp : p.time < n) (lead : 0 < clockLead n p q) :
    ClockPos.notBehind p q := by
  unfold clockLead at lead
  rcases Nat.lt_trichotomy p.shift q.shift with h | h | h
  · have behind : ((p.shift : Int) - q.shift) * n ≤ -1 * n :=
      Int.mul_le_mul_of_nonneg_right (by omega) (Int.natCast_nonneg n)
    omega
  · refine .inr ⟨h.symm, ?_⟩
    rw [h, Int.sub_self, Int.zero_mul] at lead
    omega
  · exact .inl h

theorem advances_start (shift time : Nat) {s : State} (hs : ClockSound s) :
    ClockAdvances s (start shift time s).1 := by
  rcases start_cases shift time s with e | ⟨c, hb, ht, hm, e⟩ <;> rw [e]
  · exact .inl (.refl s)
  · refine .inr ⟨c, ?_⟩
    have set : (startStation c ⟨shift, time⟩ s).clock.set = true := by
      rw [clock_startStation]; exact startClock_set c _ s
    have block := (block_startStation c ⟨shift, time⟩ s).trans hb
    have pos : (startStation c ⟨shift, time⟩ s).clock.pos = _ :=
      (congrArg ClockBlock.pos (clock_startStation c _ s)).trans (startClock_pos c _ s)
    split at pos
    · next moved =>
      refine ⟨block, set, by rwa [pos], by rwa [pos], fun was => ?_⟩
      rw [pos]
      exact notBehind_of_ahead (moved.resolve_left (by simp [was]))
    · next kept =>
      have was : s.clock.set = true := by
        by_contra unset
        exact kept (.inl (Bool.eq_false_iff.mpr unset))
      exact ⟨block, set, pos ▸ time_of_sound hs was hb, pos ▸ shift_of_sound hs, fun _ => pos ▸ notBehind_refl _⟩

theorem advances_takeBeacon {c : ConfigBlock} {s : State} (i : Fin 16) {p : ClockPos} {n : Nat} (hs : ClockSound s)
    (hr : s.running = true) (hb : s.store.block = some c) (range : beaconInRange c.shiftLength p n = true) :
    ClockAdvances s (takeBeacon c i p n s) := by
  have clock := clock_takeBeacon c i p n s
  split at clock
  · exact .inl (.of_running hr ⟨by simp, clock⟩)
  · have was := set_of_running hs hr
    have set : (takeBeacon c i p n s).clock.set = s.clock.set := by rw [clock, set_beaconAtClock]
    rcases beaconAtClock_pos c p s with pos | ⟨lead, pos⟩
    · exact .inl ⟨by simp, set, by rw [clock, pos], fun _ => hr⟩
    · simp only [beaconInRange, Bool.and_eq_true, decide_eq_true_eq] at range
      obtain ⟨⟨⟨shift, time⟩, -⟩, -⟩ := range
      rw [← clock] at pos
      refine .inr ⟨c, by simpa using hb, set.trans was, ?_, ?_, fun _ => ?_⟩ <;> rw [pos]
      · exact time
      · exact shift
      · exact notBehind_of_lead time (by omega)

theorem advances_takeTally {c : ConfigBlock} {s : State} (i : Fin 16) {f : TallyFrame} (hs : ClockSound s)
    (hr : s.running = true) (hb : s.store.block = some c) (range : f.inRange c.shiftLength = true) :
    ClockAdvances s (takeTally c i f s) := by
  have was := set_of_running hs hr
  have clock := clock_takeTally c i f s
  unfold tallyAtClock at clock
  split at clock
  · next next_shift =>
    have shift : f.shift ≤ u24Max := by
      simp only [TallyFrame.inRange, TallyFrame.wf, Bool.and_eq_true, decide_eq_true_eq] at range
      omega
    have pos : (takeTally c i f s).clock.pos = ⟨f.shift, 0⟩ := by rw [clock, pos_moveClock]
    refine .inr ⟨c, by simpa using hb, by rw [clock, set_moveClock, was], ?_, pos ▸ shift, fun _ => ?_⟩
    · rw [pos]
      exact Nat.zero_lt_of_lt (time_of_sound hs was hb)
    · rw [pos]
      exact .inl (by simp [next_shift])
  · exact .inl (.of_running hr ⟨by simp, clock⟩)

theorem advances_countSecond {c : ConfigBlock} {s : State} (hs : ClockSound s) (hb : s.store.block = some c) :
    ClockAdvances s (countSecond c s) := by
  simp only [countSecond, Bool.or_eq_true, Bool.not_eq_true']
  split
  · exact .inl (.refl s)
  · next counts =>
    have was : s.clock.set = true := by
      by_contra unset
      exact counts (.inl (Bool.eq_false_iff.mpr unset))
    have time := time_of_sound hs was hb
    have shift := shift_of_sound hs
    split
    · next below => exact .inr ⟨c, by simpa using hb, was, below, shift, fun _ => .inr ⟨rfl, Nat.le_succ _⟩⟩
    · split
      · next last =>
        refine .inr ⟨c, by simpa using hb, by rwa [set_moveClock], ?_, ?_, fun _ => ?_⟩ <;> rw [pos_moveClock]
        · exact Nat.zero_lt_of_lt time
        · exact last
        · exact .inl (Nat.lt_succ_self _)
      · exact .inr ⟨c, by simpa using hb, was, time, shift, fun _ => notBehind_refl _⟩

/-! ### Every command -/

/-- What every command but POWER_ON and LOAD_CONFIG does to a sound clock. -/
theorem exec_clockAdvances {i : Instr} {s t : State} (hs : ClockSound s) (hp : i ≠ .powerOn)
    (hl : isLoadConfig i = false) (h : exec i s = .next t) : ClockAdvances s t := by
  have still : ClockAdvances s s := .inl (.refl s)
  have framed : ∀ {u : State}, u.store = s.store ∧ u.clock = s.clock ∧ u.net = s.net → ClockAdvances s u :=
    fun e => .inl (.of_frame e)
  cases i with
  | powerOn => exact absurd rfl hp
  | loadConfig => cases hl
  | start shift time => rw [← next_inj h]; exact (advances_start shift time hs).serve
  | standby => rw [← next_inj h]; exact ClockAdvances.serve (.inl (keepsClock_standby s))
  | restart => rw [← next_inj h]; exact ClockAdvances.serve (.inl (keepsClock_restart s))
  | readStatus => rw [← next_inj h]; exact ClockAdvances.serve still
  | presentVehicle hose v hours flag total preset =>
    rw [← next_inj h]; exact ClockAdvances.serve (.inl (keepsClock_presentVehicle hose v hours flag total preset s))
  | stopHose hose => rw [← next_inj h]; exact ClockAdvances.serve (.inl (keepsClock_stopHose hose s))
  | readHose hose => rw [← next_inj h]; exact ClockAdvances.serve (by rwa [fst_readHose])
  | clearHoseFault hose => rw [← next_inj h]; exact ClockAdvances.serve (.inl (keepsClock_clearHoseFault hose s))
  | readVehicle v => rw [← next_inj h]; exact ClockAdvances.serve (by rwa [fst_readVehicle])
  | barVehicle v => rw [← next_inj h]; exact ClockAdvances.serve (.inl (keepsClock_barRequest true v s))
  | clearBar v => rw [← next_inj h]; exact ClockAdvances.serve (.inl (keepsClock_barRequest false v s))
  | recordService v type hours flag total =>
    rw [← next_inj h]; exact ClockAdvances.serve (.inl (keepsClock_recordService v type hours flag total s))
  | stageAllowance cls litres =>
    rw [← next_inj h]; exact ClockAdvances.serve (.inl (keepsClock_stageAllowance cls litres s))
  | clearStaged cls => rw [← next_inj h]; exact ClockAdvances.serve (.inl (keepsClock_clearStaged cls s))
  | readWatchList => rw [← next_inj h]; exact ClockAdvances.serve still
  | readOldest => rw [← next_inj h]; exact ClockAdvances.serve (by rwa [fst_readOldest])
  | releaseRecord n => rw [← next_inj h]; exact ClockAdvances.serve (.inl (keepsClock_releaseRecord n s))
  | readPeers group => rw [← next_inj h]; exact ClockAdvances.serve (by rwa [fst_readPeers])
  | readNotices => rw [← next_inj h]; exact ClockAdvances.serve (framed (by simp [readNotices, accept]))
  | ackNotice n => rw [← next_inj h]; exact ClockAdvances.serve (.inl (keepsClock_ackNotice n s))
  | setNoticeEnables m => rw [← next_inj h]; exact ClockAdvances.serve (.inl (keepsClock_setNoticeEnables m s))
  | unknownRequestKind kind => rw [← next_inj h]; exact ClockAdvances.serve still
  | linkFrameDiscard cause => rw [← next_inj h]; exact framed (by simp)
  | responseBacklogDiscard =>
    rw [← next_inj h]; exact .inl (keepsClock_ite (fun _ => .of_frame (by simp)) (.refl s))
  | beacon n p k =>
    rcases execBeacon_cases h with rfl | ⟨cause, rfl⟩ | ⟨c, i, hr, hb, range, rfl⟩
    · exact still
    · exact framed (by simp)
    · exact advances_takeBeacon i hs hr hb range
  | tally n f =>
    rcases execTally_cases h with rfl | ⟨cause, rfl⟩ | ⟨c, i, hr, hb, range, rfl⟩
    · exact still
    · exact framed (by simp)
    · exact advances_takeTally i hs hr hb range
  | radioFrameDrop cause => rw [← next_inj h]; exact .inl (keepsClock_ite (fun _ => .of_frame (by simp)) (.refl s))
  | shiftClockSecond =>
    rcases execShiftClockSecond_cases h with rfl | ⟨c, hb, rfl⟩
    · exact still
    · exact advances_countSecond hs hb
  | missTimerExpiry n =>
    rcases execMissTimerExpiry_cases h with rfl | ⟨i, rfl⟩
    · exact still
    · exact .inl (keepsClock_missAtPeer i s)
  | listenTimerExpiry =>
    rw [← next_inj h]
    exact .inl (keepsClock_ite (fun e => .of_running (by simp [State.running, e.1]) (by simp)) (.refl s))
  | beaconDue =>
    rcases execBeaconDue_cases h with rfl | ⟨c, f, rfl⟩
    · exact still
    · exact framed (by simp)
  | quietTimePassed =>
    rcases execQuietTimePassed_cases h with rfl | ⟨c, n, m, rfl⟩ | ⟨c, n, rfl⟩
    · exact still
    · exact framed (by simp)
    · exact framed (by simp)
  | backoffSlotEnd =>
    rcases execBackoffSlotEnd_cases h with rfl | ⟨c, n, rfl⟩
    · exact still
    · exact framed (by simp)
  | tallyDue | accessLimitExpiry frame | transmissionEnd | carrierDetectFall =>
    rw [← next_inj h]; exact .inl (keepsClock_ite (fun _ => .of_frame (by simp)) (.refl s))
  | carrierDetectRise => rw [← next_inj h]; exact .inl (keepsClock_ite (fun _ => .refl s) (.of_frame (by simp)))
  | nozzleChange hose b =>
    rcases execNozzleChange_cases h with rfl | ⟨c, k, rfl⟩
    · exact still
    · exact framed (by simp)
  | stopLineChange b =>
    rcases execStopLineChange_cases h with rfl | ⟨c, rfl⟩
    · exact still
    · exact framed (by simp)
  | meterPulse hose ticks =>
    rcases execMeterPulse_cases h with rfl | ⟨c, k, rfl⟩
    · exact still
    · exact framed (by simp)
  | authTimerExpiry hose =>
    rcases execAuthTimerExpiry_cases h with rfl | ⟨k, rfl⟩
    · exact still
    · exact framed (by simp)
  | primeWaitExpiry hose =>
    rcases execPrimeWaitExpiry_cases h with rfl | ⟨c, k, x, rfl⟩
    · exact still
    · exact framed (by simp)
  | startTimerExpiry hose =>
    rcases execStartTimerExpiry_cases h with rfl | ⟨c, k, rfl⟩
    · exact still
    · exact framed (by simp)
  | noFlowTimerExpiry hose =>
    rcases execNoFlowTimerExpiry_cases h with rfl | ⟨c, k, rfl⟩
    · exact still
    · exact framed (by simp)
  | settleTimerExpiry hose =>
    rcases execSettleTimerExpiry_cases h with rfl | ⟨k, f, rfl⟩
    · exact still
    · exact framed (by simp)
  | creepQuietTimerExpiry hose =>
    rcases execCreepQuietTimerExpiry_cases h with rfl | ⟨k, f, rfl⟩
    · exact still
    · exact framed (by simp)
  | overrunWindowExpiry hose =>
    rcases execOverrunWindowExpiry_cases h with rfl | ⟨c, k, x, -, rfl⟩
    · exact still
    · exact framed (by simp)
  | responseSentWhole => rw [← next_inj h]; exact framed ⟨rfl, rfl, rfl⟩

/-! ### POWER_ON and LOAD_CONFIG -/

theorem clockSound_powerOn (s : State) : ClockSound (powerOn s) :=
  ⟨fun on => Bool.noConfusion on, Nat.zero_le _, fun _ => rfl, fun run => Bool.noConfusion run⟩

/-- A new configuration leaves a sound clock in a station in STANDBY (R56). -/
theorem clockSound_installConfig {c : ConfigBlock} {s : State} (hs : ClockSound s) (hl : 0 < c.shiftLength)
    (hr : s.running = false) : ClockSound (installConfig c s) := by
  obtain ⟨set, pos⟩ := clock_installConfig c s
  have stopped : (installConfig c s).running = false := by simpa [State.running] using hr
  obtain ⟨-, shift, unset, -⟩ := hs
  rw [clockUnderConfig_pos] at pos
  refine ⟨fun on => ⟨c, block_installConfig c s, ?_⟩, ?_, fun off => ?_, fun run => ?_⟩
  · rw [set] at on
    rw [pos]
    simp only [on, Bool.true_eq_false, false_or]
    split
    · assumption
    · split
      · exact Nat.sub_lt hl Nat.one_pos
      · exact hl
  · rw [pos]
    split
    · exact shift
    · split
      · exact shift
      · next going => exact Nat.lt_of_le_of_ne shift fun last => going (.inr last)
  · rw [set] at off
    rw [pos, if_pos (.inl off)]
    exact unset off
  · rw [stopped] at run
    cases run

theorem clockSound_loadConfig (part : Nat) (bytes : List Byte) {s : State} (hs : ClockSound s) :
    ClockSound (loadConfig part bytes s).1 := by
  rcases partsTaken_loadConfig part bytes s with ⟨store, hb, e⟩ | ⟨p1, p2, hr, valid, e⟩ <;> rw [e]
  · exact clockSound_of_advances hs (.inl ⟨hb, rfl, rfl, id⟩)
  · have long := shiftLength_of_valid valid
    exact clockSound_installConfig hs (by omega) hr

theorem clockSound_serve {kind : Nat} {s : State} {request : State → Reply} (hs : ClockSound s)
    (h : ClockSound (request s).1) : ClockSound (serve kind s request) := by
  rcases Nat.lt_or_ge s.link.responses.length responseRoom with hr | hr
  · rw [serve_taken _ _ _ hr]
    exact clockSound_of_advances h (.inl (keepsClock_respond _ kind _ _))
  · rw [serve_discarded _ _ _ hr]
    exact clockSound_of_advances hs (.inl (.of_frame (by simp)))

/-- Every command keeps the clock sound. -/
theorem exec_clockSound {i : Instr} {s t : State} (hs : ClockSound s) (h : exec i s = .next t) : ClockSound t := by
  by_cases hp : i = .powerOn
  · subst hp
    rw [← next_inj h]
    exact clockSound_powerOn s
  · cases hl : isLoadConfig i with
    | false => exact clockSound_of_advances hs (exec_clockAdvances hs hp hl h)
    | true =>
      cases i with
      | loadConfig part bytes =>
        rw [← next_inj h]
        exact clockSound_serve hs (clockSound_loadConfig part bytes hs)
      | _ => cases hl

/-- Settles O53: a step is a command or a tick; a command leaves the clock, places it below the shift length, or installs
a configuration under which R56 places it. -/
theorem stepKeepsClock : Obligations.StepKeepsClock := by
  intro s t _ hs he
  rcases step_cases s with ⟨i, rest, -, e⟩ | ⟨-, i, m, e⟩ | ⟨-, e⟩
  · exact exec_clockSound (s := { s with pending := rest }) hs (e.symm.trans he)
  · exact exec_clockSound (s := { s with model := m }) hs (e.symm.trans he)
  · rw [← next_inj (e.symm.trans he)]
    exact clockSound_of_advances hs (.inl (keepsClock_tick s))

/-! ### The clock never goes back -/

/-- A new configuration moves a clock that is not held, before the last shift, to the next shift or not at all (R56). -/
theorem notBehind_installConfig (c : ConfigBlock) {s : State} (going : s.clock.held = false)
    (before : s.clock.pos.shift < 16777215) :
    ClockPos.notBehind (installConfig c s).clock.pos s.clock.pos := by
  have free : ¬ (s.clock.held = true ∨ s.clock.pos.shift = u24Max) := by
    simp only [going, Bool.false_eq_true, false_or]
    exact Nat.ne_of_lt before
  rw [(clock_installConfig c s).2, clockUnderConfig_pos, if_neg free]
  split
  · exact notBehind_refl _
  · exact .inl (Nat.lt_succ_self _)

theorem notBehind_loadConfig (part : Nat) (bytes : List Byte) {s : State} (going : s.clock.held = false)
    (before : s.clock.pos.shift < 16777215) :
    ClockPos.notBehind (serve 0x01 s (loadConfig part bytes)).clock.pos s.clock.pos := by
  rcases Nat.lt_or_ge s.link.responses.length responseRoom with hr | hr
  · rw [serve_taken _ _ _ hr]
    show ClockPos.notBehind (loadConfig part bytes s).1.clock.pos _
    rcases partsTaken_loadConfig part bytes s with ⟨store, -, e⟩ | ⟨p1, p2, -, -, e⟩ <;> rw [e]
    · exact notBehind_refl _
    · exact notBehind_installConfig _ going before
  · rw [serve_discarded _ _ _ hr]
    exact notBehind_refl _

/-- Settles O57: every other command leaves the clock or places it not behind where it stood, and LOAD_CONFIG before the
last shift leaves it or takes it to the next shift. -/
theorem clockNeverBack : Obligations.ClockNeverBack := by
  intro i s t hs set hp hl h
  cases kind : isLoadConfig i with
  | false => exact notBehind_of_advances set (exec_clockAdvances hs hp kind h)
  | true =>
    obtain ⟨before, going⟩ := hl kind
    cases i with
    | loadConfig part bytes =>
      rw [← next_inj h]
      exact notBehind_loadConfig part bytes going before
    | _ => cases kind

end Sys2Proof.Machine.ShiftClock
end

section
/-! What acceptance froze in an issue context (R52, R132): which part of a context that is, and that every operation on the
hoses keeps it for as long as the context is held. -/

namespace Sys2Proof.Machine.ShiftClock

open Sys2Proof Sys2Proof.Machine Sys2Proof.Machine.ServiceIntervals

/-- A context without what the course of its issue writes into it: the health event flag, the end reason and the two
volumes. -/
def frozenPart (x : IssueContext) : IssueContext :=
  { x with healthEvent := false, endReason := none, delivered := 0, overrun := 0 }

/-- The frozen part of the context that a hose holds. -/
def frozenAt (h : Fin 4) (s : State) : Option IssueContext := (s.context h).map frozenPart

/-- A context that the hose still holds is one that it held, with the same frozen part. -/
def KeepsFrozen (h : Fin 4) (s t : State) : Prop := ∀ x, frozenAt h t = some x → frozenAt h s = some x

theorem frozenPart_eq {x y : IssueContext} (e : frozenPart y = frozenPart x) :
    y.vehicle = x.vehicle ∧ y.cls = x.cls ∧ y.limit = x.limit ∧ y.bound = x.bound ∧ y.slowPoint = x.slowPoint ∧
    y.hours = x.hours ∧ y.totaliser = x.totaliser ∧ y.hoursFlag = x.hoursFlag ∧ y.totaliserFlag = x.totaliserFlag ∧
    y.serviceState = x.serviceState ∧ y.netState = x.netState ∧ y.authorised = x.authorised := by
  simpa [frozenPart] using e

theorem KeepsFrozen.refl (h : Fin 4) (s : State) : KeepsFrozen h s s := fun _ => id

theorem KeepsFrozen.trans {h : Fin 4} {s t u : State} (a : KeepsFrozen h s t) (b : KeepsFrozen h t u) :
    KeepsFrozen h s u := fun x hx => a x (b x hx)

theorem KeepsFrozen.of_eq {h : Fin 4} {s t : State} (e : frozenAt h t = frozenAt h s) : KeepsFrozen h s t :=
  fun _ hx => e.symm.trans hx

theorem KeepsFrozen.of_none {h : Fin 4} {s t : State} (e : t.context h = none) : KeepsFrozen h s t := fun x hx => by
  simp [frozenAt, e] at hx

/-- An operation that leaves the controllers leaves the contexts. -/
theorem KeepsFrozen.of_ctl {h : Fin 4} {s t : State} (e : (t.hose h).ctl = (s.hose h).ctl) : KeepsFrozen h s t :=
  .of_eq (by simp [frozenAt, State.context, e])

theorem KeepsFrozen.of_hoses {h : Fin 4} {s t : State} (e : t.hoses = s.hoses) : KeepsFrozen h s t :=
  .of_ctl (by rw [hose_congr e])

theorem keepsFrozen_ite {h : Fin 4} {p : Prop} [Decidable p] {s t u : State} (ht : KeepsFrozen h s t)
    (hu : KeepsFrozen h s u) : KeepsFrozen h s (if p then t else u) := by
  split
  · exact ht
  · exact hu

theorem keepsFrozen_eachHose {h : Fin 4} {f : Fin 4 → State → State} (hf : ∀ k s, KeepsFrozen h s (f k s))
    (s : State) : KeepsFrozen h s (eachHose f s) :=
  eachHose_inv (KeepsFrozen h s) f (fun k t q => q.trans (hf k t)) s (.refl h s)

/-! ### Updates of a hose -/

/-- An operation of one hose keeps its context, rewrites it beside its frozen part, or discards it, and leaves the other
hoses' controllers. -/
theorem KeepsFrozen.of_own {h : Fin 4} (k : Fin 4) {s t : State}
    (own : frozenAt k t = frozenAt k s ∨ t.context k = none)
    (others : h ≠ k → (t.hose h).ctl = (s.hose h).ctl) : KeepsFrozen h s t := by
  by_cases e : h = k
  · subst e
    exact own.elim .of_eq .of_none
  · exact .of_ctl (others e)

theorem frozenAt_mapCtl (k : Fin 4) (s : State) (f : HoseControl → HoseControl) :
    frozenAt k (s.mapCtl k f) = (f (s.hose k).ctl).context.map frozenPart := by
  simp [frozenAt, State.context]

/-- A controller rewritten with its context kept. -/
theorem keepsFrozen_mapCtl (h k : Fin 4) (s : State) (f : HoseControl → HoseControl)
    (hf : ∀ x, (f x).context = x.context) : KeepsFrozen h s (s.mapCtl k f) := by
  refine .of_own k (.inl ?_) fun other => by simp [other]
  rw [frozenAt_mapCtl, hf]
  rfl

theorem keepsFrozen_mapContext (h k : Fin 4) (s : State) (f : IssueContext → IssueContext)
    (hf : ∀ x, frozenPart (f x) = frozenPart x) : KeepsFrozen h s (s.mapContext k f) :=
  .of_own k (.inl (by simp [frozenAt, State.context, Function.comp_def, hf])) fun other => by simp [other]

theorem keepsFrozen_mapMeter (h k : Fin 4) (s : State) (f : Meter → Meter) : KeepsFrozen h s (s.mapMeter k f) :=
  .of_ctl (by rw [hose_mapMeter]; split <;> rfl)

theorem keepsFrozen_mapHealth (h k : Fin 4) (s : State) (f : Health → Health) : KeepsFrozen h s (s.mapHealth k f) :=
  .of_ctl (by rw [hose_mapHealth]; split <;> rfl)

theorem keepsFrozen_guardEval (h : Fin 4) (s : State) : KeepsFrozen h s (guardEval s) :=
  .of_ctl (parts_guardEval h s).1

theorem keepsFrozen_enterState (h k : Fin 4) (st : HoseState) (s : State) : KeepsFrozen h s (enterState k st s) := by
  refine .of_eq ?_
  rw [frozenAt, frozenAt, State.context, State.context, ctl_enterState]
  split <;> rfl

/-! ### The course of an issue -/

section Course

variable (c : ConfigBlock) (h k : Fin 4) (s : State)

theorem keepsFrozen_markIssue : KeepsFrozen h s (markIssue k s) := keepsFrozen_mapContext h k s _ fun _ => rfl

theorem keepsFrozen_cancel : KeepsFrozen h s (cancel k s) :=
  .of_own k (.inr (by simp [State.context, cancel_own])) fun other => (cancel_others k h s other).1

theorem keepsFrozen_close (r : EndReason) : KeepsFrozen h s (close c k r s) := by
  refine .of_own k (.inl ?_) fun other => (close_others c r k h s other).1
  rw [frozenAt, State.context, (close_own c k r s).1, Option.map_map]
  rfl

theorem keepsFrozen_endIssue (r : EndReason) : KeepsFrozen h s (endIssue c k r s) :=
  keepsFrozen_ite (keepsFrozen_cancel h k s) (keepsFrozen_ite (keepsFrozen_close c h k s r) (.refl h s))

theorem keepsFrozen_reportHoseOut : KeepsFrozen h s (reportHoseOut s) := .of_hoses (by simp)

theorem keepsFrozen_freezeAction : KeepsFrozen h s (freezeAction c k s) := by
  have closed := (keepsFrozen_markIssue h k s).trans (keepsFrozen_close c h k _ .fault)
  unfold freezeAction
  split
  case h_1 => exact keepsFrozen_enterState h k _ s
  case h_2 => exact keepsFrozen_cancel h k s
  case h_3 | h_4 | h_5 => exact closed
  case h_6 | h_7 | h_8 => exact .refl h s

theorem keepsFrozen_freeze : KeepsFrozen h s (freeze c k s) :=
  ((keepsFrozen_mapHealth h k s _).trans (keepsFrozen_freezeAction c h k _)).trans (keepsFrozen_reportHoseOut h _)

theorem keepsFrozen_healthEvent : KeepsFrozen h s (healthEvent c k s) := by
  have counted := fun n => keepsFrozen_mapHealth h k s fun x => { x with count := n }
  exact keepsFrozen_ite (.refl h s)
    (keepsFrozen_ite ((counted _).trans (keepsFrozen_freeze c h k _)) (counted _))

theorem keepsFrozen_issueHealthEvent : KeepsFrozen h s (issueHealthEvent c k s) :=
  (keepsFrozen_markIssue h k s).trans (keepsFrozen_healthEvent c h k _)

theorem keepsFrozen_drip (n : Nat) (b : Bool) : KeepsFrozen h s (drip c k n b s) :=
  keepsFrozen_ite (.refl h s) (keepsFrozen_mapHealth h k s _)

theorem keepsFrozen_leaveEnded : KeepsFrozen h s (leaveEnded k s) :=
  .of_own k (.inr (by simp [State.context, leaveEnded, ctl_enterState])) fun other => (leaveEnded_others k h s other).1

theorem keepsFrozen_examineNozzle : KeepsFrozen h s (examineNozzle k s) :=
  keepsFrozen_ite (keepsFrozen_leaveEnded h k s) (.refl h s)

theorem keepsFrozen_enterEnded (n : Nat) : KeepsFrozen h s (enterEnded c k n s) := by
  refine .of_own k (.inl ?_) fun other => (enterEnded_others c n k h s other).1
  simp only [frozenAt, State.context, enterEnded, ctl_enterState, hose_mapCtl, hose_mapMeter, if_true, Option.map_map]
  rfl

theorem keepsFrozen_completionHealth (a b : Bool) (n : Nat) : KeepsFrozen h s (completionHealth c k a b n s) := by
  have event : ∀ (b : Bool) s, KeepsFrozen h s (if b then issueHealthEvent c k s else s) := fun b s =>
    keepsFrozen_ite (keepsFrozen_issueHealthEvent c h k s) (.refl h s)
  have both := (event a s).trans (event b _)
  simp only [completionHealth]
  split
  · exact both
  · exact both.trans (keepsFrozen_drip c h k _ n _)

theorem keepsFrozen_complete (x : IssueContext) : KeepsFrozen h s (complete c k x s) := by
  have ended := keepsFrozen_enterEnded c h k s x.limit
  have recorded : ∀ v n y u, KeepsFrozen h u (raise .issueEnded (commitRecord k y (charge c v n u))) :=
    fun v n y u => .of_hoses (by simp)
  exact ((ended.trans (recorded _ _ _ _)).trans (keepsFrozen_completionHealth c h k _ _ _ _)).trans
    (keepsFrozen_examineNozzle h k _)

theorem keepsFrozen_enterSlowing : KeepsFrozen h s (enterSlowing c k s) := by
  refine .of_own k (.inl ?_) fun other => (enterSlowing_others c k h s other).1
  rw [frozenAt, State.context, (enterSlowing_own c k s).1]
  rfl

theorem keepsFrozen_enterFlowing (x : IssueContext) : KeepsFrozen h s (enterFlowing c k x s) := by
  refine .of_own k (.inl ?_) fun other => (enterFlowing_others c x k h s other).1
  rw [frozenAt, State.context, (enterFlowing_own c k x s).1]
  rfl

theorem keepsFrozen_enterStarting (x : IssueContext) : KeepsFrozen h s (enterStarting c k x s) := by
  refine .of_own k (.inl ?_) fun other => (enterStarting_others c x k h s other).1
  rw [frozenAt, State.context, (enterStarting_own c k x s _ rfl).1]
  generalize (if s.field.pumpRun = true then s.field.sincePumpOn else 0) = run
  split <;> rfl

theorem keepsFrozen_endPrimeWait (x : IssueContext) : KeepsFrozen h s (endPrimeWait c k x s) := by
  unfold endPrimeWait
  refine KeepsFrozen.trans ?_ (keepsFrozen_enterFlowing c h k _ x)
  exact .of_hoses rfl

/-! ### Pulses, nozzles, bars and the stop line -/

theorem keepsFrozen_actOnFindings (f : PulseFindings) : KeepsFrozen h s (actOnFindings c k f s) := by
  unfold actOnFindings
  exact keepsFrozen_ite
    (((keepsFrozen_markIssue h k s).trans (keepsFrozen_close c h k _ .fault)).trans (keepsFrozen_healthEvent c h k _))
    (keepsFrozen_ite (keepsFrozen_close c h k s .limit)
      (keepsFrozen_ite (keepsFrozen_enterSlowing c h k s) (.refl h s)))

theorem keepsFrozen_issuePulse (x : IssueContext) (ticks : Nat) : KeepsFrozen h s (issuePulse c k x ticks s) := by
  have timers : ∀ st x, (pulseTimers c st x).context = x.context := fun st x => by
    unfold pulseTimers
    split <;> rfl
  exact ((keepsFrozen_mapMeter h k s _).trans (keepsFrozen_mapCtl h k _ _ (timers _))).trans
    (keepsFrozen_actOnFindings c h k _ _)

theorem keepsFrozen_creepPulse : KeepsFrozen h s (creepPulse c k s) := by
  simp only [creepPulse]
  exact keepsFrozen_ite ((keepsFrozen_mapMeter h k s _).trans (keepsFrozen_healthEvent c h k _))
    (keepsFrozen_mapMeter h k s _)

theorem keepsFrozen_takePulse (ticks : Nat) : KeepsFrozen h s (takePulse c k ticks s) := by
  unfold takePulse
  split
  · exact keepsFrozen_issuePulse c h k s _ ticks
  · exact keepsFrozen_creepPulse c h k s

theorem keepsFrozen_setMeterInput : KeepsFrozen h s (setMeterInput c k s) :=
  .of_ctl (by rw [setMeterInput, hose_mapHose]; split <;> rfl)

theorem keepsFrozen_changeNozzle (b : Bool) : KeepsFrozen h s (changeNozzle c k b s) := by
  have seen : KeepsFrozen h s (guardEval (setNozzle c k b s)) :=
    KeepsFrozen.trans (.of_ctl (by rw [setNozzle, hose_mapHose]; split <;> rfl)) (keepsFrozen_guardEval h _)
  have lifted : ∀ u, KeepsFrozen h u (liftAt c k u) := fun u => by
    unfold liftAt
    split
    · exact keepsFrozen_enterStarting c h k u _
    · exact .refl h u
  have hung : ∀ u, KeepsFrozen h u (hangAt c k u) := fun u =>
    keepsFrozen_ite (keepsFrozen_close c h k u .hung) (keepsFrozen_ite (keepsFrozen_leaveEnded h k u) (.refl h u))
  exact keepsFrozen_ite (seen.trans (lifted _)) (seen.trans (hung _))

theorem keepsFrozen_barEndsIssue (v : Nat) : KeepsFrozen h s (barEndsIssue c v s) :=
  keepsFrozen_eachHose (fun k s => by
    unfold barHose
    split
    · exact .refl h s
    · exact keepsFrozen_ite (keepsFrozen_endIssue c h k s .barred) (.refl h s)) s

theorem keepsFrozen_driveValves : KeepsFrozen h s (driveValves k s) := keepsFrozen_mapCtl h k s _ fun _ => rfl

theorem keepsFrozen_changeStop (b : Bool) : KeepsFrozen h s (changeStop c b s) := by
  have set : KeepsFrozen h s (setStop c b s) := .of_hoses (by simp)
  have driven := set.trans (keepsFrozen_eachHose (fun k s => keepsFrozen_driveValves h k s) _)
  have ended := driven.trans (keepsFrozen_eachHose (fun k s => keepsFrozen_endIssue c h k s .estop) _)
  simp only [changeStop]
  split
  · exact ended
  · exact driven

theorem keepsFrozen_thaw : KeepsFrozen h s (thaw k s) := by
  unfold thaw thawHose
  exact ((keepsFrozen_mapHealth h k s _).trans (keepsFrozen_reportHoseOut h _)).trans
    (keepsFrozen_ite (keepsFrozen_enterState h k .idle _) (.refl h _))

/-! ### RESTART, LOAD_CONFIG and tallies -/

theorem keepsFrozen_restartHose : KeepsFrozen h s (restartHose c k s) := by
  have reason : KeepsFrozen h s (s.mapContext k fun y => { y with endReason := some .restart }) :=
    keepsFrozen_mapContext h k s _ fun _ => rfl
  unfold restartHose
  refine keepsFrozen_ite (keepsFrozen_cancel h k s) (keepsFrozen_ite ?_ (.refl h s))
  split
  · exact .refl h s
  · exact reason.trans (keepsFrozen_complete c h k _ _)

theorem keepsFrozen_restartStation : KeepsFrozen h s (restartStation c s) := by
  have noted : KeepsFrozen h s (s.mapNotices restartEntry) := .of_hoses (by simp)
  unfold restartStation
  refine (noted.trans (keepsFrozen_eachHose (fun k s => keepsFrozen_restartHose c h k s) _)).trans ?_
  exact .of_hoses (by simp)

theorem keepsFrozen_installConfig : KeepsFrozen h s (installConfig c s) := by
  have emptied : KeepsFrozen h s (clockUnderConfig c (loadAllowances c (emptyView { s with
      store := { s.store with block := some c, part1 := none, part2 := none } }))) := .of_hoses (by simp)
  have filters : ∀ u, KeepsFrozen h u (restartFilters u) := fun u =>
    .of_ctl (by simp [restartFilters, State.hose, mapTable])
  have hoses := keepsFrozen_eachHose (h := h) (f := hoseUnderConfig c) fun k s =>
    (keepsFrozen_mapHealth h k s _).trans (keepsFrozen_enterState h k _ _)
  exact ((emptied.trans (filters _)).trans (hoses _)).trans (keepsFrozen_reportHoseOut h _)

theorem keepsFrozen_mergeIntoView (cls : Fin 8) (f : TallyFrame) : KeepsFrozen h s (mergeIntoView c cls f s) := by
  have counted : ∀ v, KeepsFrozen h s { s with view := v } := fun v => .of_hoses rfl
  have stored : ∀ (b : Bool) e v, KeepsFrozen h s
      (if b then storeEntry c e { s with view := v } else { s with view := v }) := fun b e v =>
    keepsFrozen_ite (.of_hoses (by simp)) (counted v)
  have ended : ∀ (b : Bool) u, KeepsFrozen h u (if b then barEndsIssue c f.vehicle u else u) := fun b u =>
    keepsFrozen_ite (keepsFrozen_barEndsIssue c h u f.vehicle) (.refl h u)
  have reported : ∀ a b u, KeepsFrozen h u (mergeReport c f.vehicle a b u) := fun a b u => .of_hoses (by simp)
  unfold mergeIntoView
  exact ((stored _ _ _).trans (ended _ _)).trans (reported _ _ _)

theorem keepsFrozen_takeTally (i : Fin 16) (f : TallyFrame) : KeepsFrozen h s (takeTally c i f s) := by
  have viewed : ∀ u, KeepsFrozen h u (tallyAtView c f u) := fun u => by
    unfold tallyAtView
    split
    · exact .of_hoses rfl
    · exact keepsFrozen_ite (.of_hoses (by simp)) (keepsFrozen_mergeIntoView c h u _ f)
  have taken : KeepsFrozen h s (tallyAtView c f (tallyAtClock c f.shift s)) :=
    KeepsFrozen.trans (.of_hoses (by simp)) (viewed _)
  exact keepsFrozen_ite taken (taken.trans (.of_hoses (by simp)))

/-- A presentation is accepted at a hose in IDLE, and no other hose's context moves (R131). -/
theorem keepsFrozen_acceptPresentation (p : Presentation) (e : VehicleEntry) (x : PresentCheck) (other : h ≠ k) :
    KeepsFrozen h s (acceptPresentation c k p e x s) := by
  have stored : KeepsFrozen h s (takeReservation (storePresented c p e s)) := .of_hoses (by simp)
  refine (stored.trans ?_).trans (keepsFrozen_enterState h k _ _)
  exact .of_ctl (by rw [hose_mapCtl, if_neg other])

end Course

end Sys2Proof.Machine.ShiftClock
end

section
/-! What acceptance froze in an issue context, through every command (R52, R132). -/

namespace Sys2Proof.Machine.ShiftClock

open Sys2Proof Sys2Proof.Machine Sys2Proof.Machine.ServiceIntervals

section Commands

variable {h : Fin 4} {s t : State}

/-- A request served keeps of a context what its request keeps. -/
theorem KeepsFrozen.serve {kind : Nat} {request : State → Reply} (k : KeepsFrozen h s (request s).1) :
    KeepsFrozen h s (serve kind s request) := by
  rcases Nat.lt_or_ge s.link.responses.length responseRoom with hr | hr
  · rw [serve_taken _ _ _ hr]
    exact k.trans (.of_hoses rfl)
  · rw [serve_discarded _ _ _ hr]
    exact .of_hoses rfl

theorem keepsFrozen_start (shift time : Nat) : KeepsFrozen h s (start shift time s).1 := by
  rcases start_cases shift time s with e | ⟨c, -, -, -, e⟩ <;> rw [e]
  · exact .refl h s
  · unfold startStation
    exact KeepsFrozen.trans (.of_hoses (by simp)) (keepsFrozen_guardEval h _)

theorem keepsFrozen_standby : KeepsFrozen h s (standby s).1 := by
  rcases standby_cases s with e | e <;> rw [e]
  · exact .refl h s
  · exact .of_hoses (by simp)

theorem keepsFrozen_restart : KeepsFrozen h s (restart s).1 := by
  rcases restart_cases s with e | ⟨c, -, -, e⟩ <;> rw [e]
  · exact .refl h s
  · exact keepsFrozen_restartStation c h s

theorem keepsFrozen_loadConfig (part : Nat) (bytes : List Byte) : KeepsFrozen h s (loadConfig part bytes s).1 := by
  rcases partsTaken_loadConfig part bytes s with ⟨store, -, e⟩ | ⟨p1, p2, -, -, e⟩ <;> rw [e]
  · exact .of_hoses rfl
  · exact keepsFrozen_installConfig _ h s

/-- At a hose that is not in IDLE no presentation is accepted (R128). -/
theorem keepsFrozen_presentVehicle (busy : (s.hose h).ctl.state ≠ .idle) (hose v hours flag total preset : Nat) :
    KeepsFrozen h s (presentVehicle hose v hours flag total preset s).1 := by
  rcases presentVehicle_cases hose v hours flag total preset s with e | ⟨c, k, p, x, f, idle, e⟩ <;> rw [e]
  · exact .refl h s
  · exact keepsFrozen_acceptPresentation c h k s p x f fun same => busy (same ▸ idle)

theorem keepsFrozen_stopHose (hose : Nat) : KeepsFrozen h s (stopHose hose s).1 := by
  rcases stopHose_cases hose s with e | ⟨c, k, e⟩ <;> rw [e]
  · exact .refl h s
  · exact keepsFrozen_endIssue c h k s .stop

theorem keepsFrozen_clearHoseFault (hose : Nat) : KeepsFrozen h s (clearHoseFault hose s).1 := by
  rcases clearHoseFault_cases hose s with e | ⟨k, e⟩ <;> rw [e]
  · exact .refl h s
  · exact keepsFrozen_thaw h k s

theorem keepsFrozen_barRequest (b : Bool) (v : Nat) : KeepsFrozen h s (barRequest b v s).1 := by
  rcases barRequest_cases b v s with e | ⟨c, x, e⟩ <;> rw [e]
  · exact .refl h s
  · have changed : ∀ y, KeepsFrozen h s (changeEntry c y s) := fun y => .of_hoses (by simp)
    simp only [setBar]
    exact keepsFrozen_ite ((changed _).trans (keepsFrozen_barEndsIssue c h _ x.number)) (changed _)

theorem keepsFrozen_recordService (v type hours flag total : Nat) :
    KeepsFrozen h s (recordService v type hours flag total s).1 := by
  rcases recordService_cases v type hours flag total s with e | ⟨c, x, e⟩ <;> rw [e]
  · exact .refl h s
  · exact .of_hoses (by simp)

theorem keepsFrozen_stageAllowance (cls litres : Nat) : KeepsFrozen h s (stageAllowance cls litres s).1 := by
  rcases stageAllowance_cases cls litres s with e | ⟨k, e⟩ <;> rw [e]
  · exact .refl h s
  · exact .of_hoses rfl

theorem keepsFrozen_clearStaged (cls : Nat) : KeepsFrozen h s (clearStaged cls s).1 := by
  rcases clearStaged_cases cls s with e | ⟨k, e⟩ <;> rw [e]
  · exact .refl h s
  · exact .of_hoses rfl

theorem keepsFrozen_releaseRecord (number : Nat) : KeepsFrozen h s (releaseRecord number s).1 := by
  rcases releaseRecord_cases number s with e | ⟨rest, e⟩ <;> rw [e]
  · exact .refl h s
  · exact .of_hoses (by simp)

theorem keepsFrozen_ackNotice (source : Nat) : KeepsFrozen h s (ackNotice source s).1 := by
  rcases ackNotice_cases source s with e | ⟨i, e⟩ <;> rw [e]
  · exact .refl h s
  · exact .of_hoses (by simp)

theorem keepsFrozen_setNoticeEnables (mask : Nat) : KeepsFrozen h s (setNoticeEnables mask s).1 := by
  rcases setNoticeEnables_cases mask s with e | e <;> rw [e]
  · exact .refl h s
  · exact .of_hoses (by simp)

theorem context_powerOn (h : Fin 4) (s : State) : (powerOn s).context h = none := by
  simp [powerOn, State.powerOn, State.context, State.hose, Hose.powerOn, HoseControl.powerOn]

/-- Every command keeps what is frozen in the context of a hose that is not in IDLE. -/
theorem exec_keepsFrozen {i : Instr} (busy : (s.hose h).ctl.state ≠ .idle) (he : exec i s = .next t) :
    KeepsFrozen h s t := by
  have still : KeepsFrozen h s s := .refl h s
  have framed : ∀ {u : State}, u.hoses = s.hoses → KeepsFrozen h s u := .of_hoses
  cases i with
  | powerOn => rw [← next_inj he]; exact .of_none (context_powerOn h s)
  | loadConfig part bytes => rw [← next_inj he]; exact (keepsFrozen_loadConfig part bytes).serve
  | start shift time => rw [← next_inj he]; exact (keepsFrozen_start shift time).serve
  | standby => rw [← next_inj he]; exact keepsFrozen_standby.serve
  | restart => rw [← next_inj he]; exact keepsFrozen_restart.serve
  | readStatus => rw [← next_inj he]; exact KeepsFrozen.serve still
  | presentVehicle hose v hours flag total preset =>
    rw [← next_inj he]; exact (keepsFrozen_presentVehicle busy hose v hours flag total preset).serve
  | stopHose hose => rw [← next_inj he]; exact (keepsFrozen_stopHose hose).serve
  | readHose hose => rw [← next_inj he]; exact KeepsFrozen.serve (by rwa [fst_readHose])
  | clearHoseFault hose => rw [← next_inj he]; exact (keepsFrozen_clearHoseFault hose).serve
  | readVehicle v => rw [← next_inj he]; exact KeepsFrozen.serve (by rwa [fst_readVehicle])
  | barVehicle v => rw [← next_inj he]; exact (keepsFrozen_barRequest true v).serve
  | clearBar v => rw [← next_inj he]; exact (keepsFrozen_barRequest false v).serve
  | recordService v type hours flag total =>
    rw [← next_inj he]; exact (keepsFrozen_recordService v type hours flag total).serve
  | stageAllowance cls litres => rw [← next_inj he]; exact (keepsFrozen_stageAllowance cls litres).serve
  | clearStaged cls => rw [← next_inj he]; exact (keepsFrozen_clearStaged cls).serve
  | readWatchList => rw [← next_inj he]; exact KeepsFrozen.serve still
  | readOldest => rw [← next_inj he]; exact KeepsFrozen.serve (by rwa [fst_readOldest])
  | releaseRecord n => rw [← next_inj he]; exact (keepsFrozen_releaseRecord n).serve
  | readPeers group => rw [← next_inj he]; exact KeepsFrozen.serve (by rwa [fst_readPeers])
  | readNotices => rw [← next_inj he]; exact KeepsFrozen.serve (framed (by simp [readNotices, accept]))
  | ackNotice n => rw [← next_inj he]; exact (keepsFrozen_ackNotice n).serve
  | setNoticeEnables m => rw [← next_inj he]; exact (keepsFrozen_setNoticeEnables m).serve
  | unknownRequestKind kind => rw [← next_inj he]; exact KeepsFrozen.serve still
  | linkFrameDiscard cause => rw [← next_inj he]; exact framed (by simp)
  | responseBacklogDiscard => rw [← next_inj he]; exact keepsFrozen_ite (framed (by simp)) still
  | beacon n p k =>
    rcases execBeacon_cases he with rfl | ⟨cause, rfl⟩ | ⟨c, i, -, -, -, rfl⟩
    · exact still
    · exact framed (by simp)
    · exact framed (by simp)
  | tally n f =>
    rcases execTally_cases he with rfl | ⟨cause, rfl⟩ | ⟨c, i, -, -, -, rfl⟩
    · exact still
    · exact framed (by simp)
    · exact keepsFrozen_takeTally c h s i f
  | radioFrameDrop cause => rw [← next_inj he]; exact keepsFrozen_ite (framed (by simp)) still
  | shiftClockSecond =>
    rcases execShiftClockSecond_cases he with rfl | ⟨c, -, rfl⟩
    · exact still
    · exact framed (by simp)
  | missTimerExpiry n =>
    rcases execMissTimerExpiry_cases he with rfl | ⟨i, rfl⟩
    · exact still
    · exact framed (by simp)
  | listenTimerExpiry => rw [← next_inj he]; exact keepsFrozen_ite (framed (by simp)) still
  | beaconDue =>
    rcases execBeaconDue_cases he with rfl | ⟨c, f, rfl⟩
    · exact still
    · exact framed (by simp)
  | quietTimePassed =>
    rcases execQuietTimePassed_cases he with rfl | ⟨c, n, m, rfl⟩ | ⟨c, n, rfl⟩
    · exact still
    · exact framed (by simp)
    · exact framed (by simp)
  | backoffSlotEnd =>
    rcases execBackoffSlotEnd_cases he with rfl | ⟨c, n, rfl⟩
    · exact still
    · exact framed (by simp)
  | tallyDue | accessLimitExpiry frame | transmissionEnd | carrierDetectFall =>
    rw [← next_inj he]; exact keepsFrozen_ite (framed (by simp)) still
  | carrierDetectRise => rw [← next_inj he]; exact keepsFrozen_ite still (framed (by simp))
  | nozzleChange hose b =>
    rcases execNozzleChange_cases he with rfl | ⟨c, k, rfl⟩
    · exact still
    · exact keepsFrozen_changeNozzle c h k s b
  | stopLineChange b =>
    rcases execStopLineChange_cases he with rfl | ⟨c, rfl⟩
    · exact still
    · exact keepsFrozen_changeStop c h s b
  | meterPulse hose ticks =>
    rcases execMeterPulse_cases he with rfl | ⟨c, k, rfl⟩
    · exact still
    · exact (keepsFrozen_setMeterInput c h k s).trans (keepsFrozen_takePulse c h k _ ticks)
  | authTimerExpiry hose =>
    rcases execAuthTimerExpiry_cases he with rfl | ⟨k, rfl⟩
    · exact still
    · exact (keepsFrozen_cancel h k s).trans (.of_hoses (by simp))
  | primeWaitExpiry hose =>
    rcases execPrimeWaitExpiry_cases he with rfl | ⟨c, k, x, rfl⟩
    · exact still
    · exact keepsFrozen_endPrimeWait c h k s x
  | startTimerExpiry hose =>
    rcases execStartTimerExpiry_cases he with rfl | ⟨c, k, rfl⟩
    · exact still
    · exact keepsFrozen_close c h k s .noStart
  | noFlowTimerExpiry hose =>
    rcases execNoFlowTimerExpiry_cases he with rfl | ⟨c, k, rfl⟩
    · exact still
    · exact keepsFrozen_close c h k s .noFlow
  | settleTimerExpiry hose =>
    rcases execSettleTimerExpiry_cases he with rfl | ⟨k, f, rfl⟩
    · exact still
    · exact keepsFrozen_mapMeter h k s f
  | creepQuietTimerExpiry hose =>
    rcases execCreepQuietTimerExpiry_cases he with rfl | ⟨k, f, rfl⟩
    · exact still
    · exact keepsFrozen_mapMeter h k s f
  | overrunWindowExpiry hose =>
    rcases execOverrunWindowExpiry_cases he with rfl | ⟨c, k, x, -, rfl⟩
    · exact still
    · exact keepsFrozen_complete c h k s x
  | responseSentWhole => rw [← next_inj he]; exact framed rfl

end Commands

/-- Settles O59: a context held after a command is one held before it with the same frozen part. -/
theorem frozenContext : Obligations.FrozenContext := by
  intro i s t h x y busy before he after
  have held : frozenAt h s = some (frozenPart y) := exec_keepsFrozen busy he (frozenPart y) (by simp [frozenAt, after])
  have same : frozenPart y = frozenPart x := by
    rw [frozenAt, before] at held
    exact (Option.some.inj held).symm
  exact frozenPart_eq same

end Sys2Proof.Machine.ShiftClock
end

section
/-! The class allowances (R53 to R55) and the second of the shift clock (R47). -/

namespace Sys2Proof.Machine.ShiftClock

open Sys2Proof Sys2Proof.Machine Sys2Proof.Machine.ServiceIntervals

/-! ### STAGE_ALLOWANCE and CLEAR_STAGED -/

theorem allowanceFields_eq (s : State) : allowanceFields s =
    fieldBytes (([0, 1, 2, 3, 4, 5, 6, 7] : List (Fin 8)).flatMap fun k =>
      [(3, s.clock.active[k]), (1, s.clock.staged[k].isSome.toNat), (3, s.clock.staged[k].getD 0)]) := by
  simp [allowanceFields, flagByte]

section Allowances

variable {s t : State} {cls litres : Nat} {r : Result} {payload : List Byte}

theorem exec_stageAllowance (h : s.canAnswer) (e : stageAllowance cls litres s = (t, r, payload)) :
    exec (.stageAllowance cls litres) s = .next (t.respond 0x24 r payload) :=
  congrArg Host.Outcome.next (serve_answered h e)

theorem exec_clearStaged (h : s.canAnswer) (e : clearStaged cls s = (t, r, payload)) :
    exec (.clearStaged cls) s = .next (t.respond 0x25 r payload) :=
  congrArg Host.Outcome.next (serve_answered h e)

theorem stageAllowance_badRequest {c : ConfigBlock} (hb : s.store.block = some c) (bad : 8 ≤ cls ∨ 100000 < litres) :
    stageAllowance cls litres s = (s, .badRequest, []) := by
  simp only [stageAllowance, hb]
  cases hk : indexFrom0 8 cls with
  | none => rfl
  | some k =>
    have much : 100000 < litres := bad.resolve_left fun outside => by simp [indexFrom0_none outside] at hk
    simp only [much, if_true]
    rfl

theorem stageAllowance_accepted {c : ConfigBlock} (hb : s.store.block = some c) (k : Fin 8) (room : litres ≤ 100000) :
    stageAllowance k.val litres s =
      (setStaged k (some litres) s, .ok, allowanceFields (setStaged k (some litres) s)) := by
  simp only [stageAllowance, hb, indexFrom0_val, Nat.not_lt.mpr room, if_false]
  rfl

theorem clearStaged_accepted {c : ConfigBlock} (hb : s.store.block = some c) (k : Fin 8) :
    clearStaged k.val s = (setStaged k none s, .ok, allowanceFields (setStaged k none s)) := by
  simp only [clearStaged, hb, indexFrom0_val]
  rfl

end Allowances

/-- Settles O21: the checks of R54 and R55 one after another, and past them the staged value set or removed. -/
theorem stagedAllowances : Obligations.StagedAllowances := by
  intro s cls litres table answer fields
  have report : ∀ u, table u = allowanceFields u := fun u => (fields u).trans (allowanceFields_eq u).symm
  refine ⟨fun hb => ⟨exec_stageAllowance answer ?_, exec_clearStaged answer ?_⟩, fun hb bad => ?_, fun hb bad => ?_,
    fun k hb hk room => ⟨_, rfl, ?_⟩, fun k hb hk => ⟨_, rfl, ?_⟩⟩
  · simp only [stageAllowance, hb]; rfl
  · simp only [clearStaged, hb]; rfl
  · obtain ⟨c, hb⟩ := Option.ne_none_iff_exists'.mp hb
    exact exec_stageAllowance answer (stageAllowance_badRequest hb bad)
  · obtain ⟨c, hb⟩ := Option.ne_none_iff_exists'.mp hb
    refine exec_clearStaged answer ?_
    simp only [clearStaged, hb, indexFrom0_none bad]; rfl
  · obtain ⟨c, hb⟩ := Option.ne_none_iff_exists'.mp hb
    subst hk
    rw [report]
    exact exec_stageAllowance answer (stageAllowance_accepted hb k room)
  · obtain ⟨c, hb⟩ := Option.ne_none_iff_exists'.mp hb
    subst hk
    rw [report]
    exact exec_clearStaged answer (clearStaged_accepted hb k)

/-! ### SHIFT_CLOCK_SECOND -/

section Second

variable {s : State} {c : ConfigBlock}

theorem exec_shiftClockSecond (hb : s.store.block = some c) : exec .shiftClockSecond s = .next (countSecond c s) := by
  show execShiftClockSecond s = _
  simp only [execShiftClockSecond, hb]

theorem countSecond_below (set : s.clock.set = true) (going : s.clock.held = false)
    (below : s.clock.pos.time + 1 < c.shiftLength) :
    countSecond c s = placeClock c ⟨s.clock.pos.shift, s.clock.pos.time + 1⟩ s := by
  simp [countSecond, set, going, below]

theorem countSecond_rollover (set : s.clock.set = true) (going : s.clock.held = false)
    (last : c.shiftLength ≤ s.clock.pos.time + 1) (more : s.clock.pos.shift < u24Max) :
    countSecond c s = moveClock c ⟨s.clock.pos.shift + 1, 0⟩ s := by
  simp [countSecond, set, going, Nat.not_lt.mpr last, more]

theorem countSecond_held (held : s.clock.held = true) : countSecond c s = s := by
  simp [countSecond, held]

theorem holdsAt_iff (c : ConfigBlock) (p : ClockPos) :
    holdsAt c p = true ↔ p.shift = 16777215 ∧ c.shiftLength ≤ p.time + 1 := by
  simp [holdsAt]

/-- Neither the response under way, the radio nor a hose brings a second of the clock. -/
theorem not_second_of_response : Instr.shiftClockSecond ∉ responseDue s := by
  unfold responseDue
  split <;> simp

theorem not_second_of_radio : Instr.shiftClockSecond ∉ radioDue c s := by
  have transmitter : Instr.shiftClockSecond ∉ transmitterDue c s.radio := by
    unfold transmitterDue
    split <;> simp
  simp [radioDue, transmitter]

theorem not_second_of_hose (h : Fin 4) : Instr.shiftClockSecond ∉ hoseDue c s h := by
  simp only [hoseDue]
  split <;> simp

/-- The second has come about when its ticks are complete and the clock counts (R46, R47). -/
theorem second_comesAbout (hb : s.store.block = some c) : ComesAbout .shiftClockSecond s ↔
    s.clock.set = true ∧ s.clock.held = false ∧ 100000 ≤ s.clock.phase := by
  rw [comesAbout_iff]
  change _ ↔ _ ∧ _ ∧ second ≤ s.clock.phase
  simp [ownDue, hb, stationDue, not_second_of_response, not_second_of_radio, not_second_of_hose, and_assoc]

end Second

/-- Settles O31: the second below the last, at the end of a shift and at the last second of the last shift, and what
brings it about at rest. -/
theorem clockSecond : Obligations.ClockSecond := by
  intro s c hb set going
  refine ⟨fun rest => ⟨_, step_atRest rest, ?_⟩, ?_, fun below => ?_, fun last more long => ?_, fun last top => ?_⟩
  · simp [ClockBlock.tick, set, going]
  · simp [second_comesAbout hb, set, going]
  · have free : holdsAt c ⟨s.clock.pos.shift, s.clock.pos.time + 1⟩ = false := by
      rw [Bool.eq_false_iff, Ne, holdsAt_iff]
      simp only
      omega
    rw [exec_shiftClockSecond hb, countSecond_below set going (by omega), placeClock, free, Bool.or_false]
  · have free : holdsAt c ⟨s.clock.pos.shift + 1, 0⟩ = false := by
      rw [Bool.eq_false_iff, Ne, holdsAt_iff]
      simp only
      omega
    rw [exec_shiftClockSecond hb, countSecond_rollover set going last more, moveClock_eq,
      if_pos (Nat.lt_succ_self _), placeClock, free, Bool.or_false]
    rfl
  · have holds : holdsAt c ⟨s.clock.pos.shift, s.clock.pos.time + 1⟩ = true := by
      rw [holdsAt_iff]
      simp only
      omega
    have held : (placeClock c ⟨s.clock.pos.shift, s.clock.pos.time + 1⟩ s).clock.held = true := by
      simp [holds]
    refine ⟨_, (exec_shiftClockSecond hb).trans (by rw [countSecond_below set going (by omega)]), held, ?_, by simp, ?_⟩
    · simp only [clock_placeClock, top, last]
      rfl
    · rw [exec_shiftClockSecond (c := c) (by simpa using hb), countSecond_held held]

end Sys2Proof.Machine.ShiftClock
end

section
/-! START (R48, R71, R87, R98, R106, R173): its refusals in order, and its acceptance block by block. -/

namespace Sys2Proof.Machine.ShiftClock

open Sys2Proof Sys2Proof.Machine Sys2Proof.Machine.ServiceIntervals

/-! ### The guard counters and NOZZLE_GUARD -/

/-- A guard counter counts an offence of its own hose alone (R105). -/
theorem guardCount_countOffence (h k : Fin 4) (s : State) : ((countOffence k s).hose h).guardCount =
    if h = k ∧ s.offends h = true then bump (s.hose h).guardCount else (s.hose h).guardCount := by
  unfold countOffence
  by_cases e : h = k
  · subst e
    split <;> simp_all
  · split <;> simp [hose_mapHose, e]

theorem offends_countOffence (h k : Fin 4) (s : State) : (countOffence k s).offends h = s.offends h := by
  have parts : ((countOffence k s).hose h).nozzle = (s.hose h).nozzle ∧ ((countOffence k s).hose h).ctl = (s.hose h).ctl := by
    unfold countOffence
    split
    · rw [hose_mapHose]
      split <;> exact ⟨rfl, rfl⟩
    · exact ⟨rfl, rfl⟩
  simp [State.offends, State.fitted, parts]

/-- Every offending hose is counted once. -/
theorem guardCount_eachHose (h : Fin 4) (s : State) : ((eachHose countOffence s).hose h).guardCount =
    if s.offends h = true then bump (s.hose h).guardCount else (s.hose h).guardCount := by
  simp only [eachHose, guardCount_countOffence, offends_countOffence]
  fin_cases h <;> simp

theorem no_offence_iff (s : State) : hoseIndices.any s.offends = false ↔ ∀ h, s.offends h = false := by
  simp [hoseIndices, Fin.forall_fin_succ]

/-- The match state as an evaluation sets it. -/
def withMatched (b : Bool) (s : State) : State := { s with field := { s.field with matched := b } }

theorem guardEval_offence {s : State} (hr : s.running = true) (hm : s.field.matched = true)
    (offence : hoseIndices.any s.offends = true) :
    guardEval s = raise .nozzleGuard (eachHose countOffence (withMatched false s)) := by
  simp [guardEval, hr, hm, offence, withMatched]

theorem guardEval_no_offence {s : State} (hr : s.running = true) (hm : s.field.matched = true)
    (none_offends : hoseIndices.any s.offends = false) : guardEval s = s := by
  simp [guardEval, hr, none_offends, ← hm]

/-- The guard of a running station taken as matched and evaluated: an offence unmatches it, counts each offending hose once
and raises NOZZLE_GUARD, and without one nothing else moves (R105, R106). -/
theorem guardEval_matched {s : State} (hr : s.running = true) (hm : s.field.matched = true) :
    ((guardEval s).field.matched = true ↔ ∀ h, s.offends h = false) ∧
    (∀ h, ((guardEval s).hose h).guardCount =
      if s.offends h = true then bump (s.hose h).guardCount else (s.hose h).guardCount) ∧
    ((guardEval s).field.matched = false → (guardEval s).notices.entries[2] = s.notices.entries[2].raised) ∧
    ((guardEval s).field.matched = true → (guardEval s).notices.entries[2] = s.notices.entries[2]) := by
  cases offence : hoseIndices.any s.offends with
  | true =>
    have unmatched : (guardEval s).field.matched = false := by rw [matched_guardEval s hr, offence]; rfl
    have some_offends : ¬ ∀ h, s.offends h = false := by
      rw [← no_offence_iff, offence]
      exact Bool.noConfusion
    have raised : (guardEval s).notices.entries[2] = s.notices.entries[2].raised := by
      have stands : (eachHose countOffence (withMatched false s)).notices = s.notices :=
        eachHose_keeps (fun s : State => s.notices) countOffence (by intro h s; simp) (withMatched false s)
      rw [guardEval_offence hr hm offence, entries_raise, stands]
      rfl
    refine ⟨by simp [unmatched, some_offends], fun h => ?_, fun _ => raised, fun e => ?_⟩
    · rw [guardEval_offence hr hm offence, hose_raise, guardCount_eachHose]
      rfl
    · rw [unmatched] at e
      cases e
  | false =>
    have each := (no_offence_iff s).mp offence
    rw [guardEval_no_offence hr hm offence]
    exact ⟨by simp [hm, each], fun h => by simp [each h], fun e => by simp [hm] at e, fun _ => rfl⟩

/-! ### The clock at START -/

section Clock

variable (c : ConfigBlock) (p : ClockPos) (s : State)

/-- A set clock in an earlier shift than the position given is moved with a shift change (R48, R51). -/
theorem startClock_shift (set : s.clock.set = true) (later : s.clock.pos.shift < p.shift) :
    startClock c p s = shiftEffects (placeClock c p s) := by
  have ahead : ClockPos.ahead p s.clock.pos = true := by simp [ClockPos.ahead, later]
  simp [startClock, set, ahead, moveClock_eq, later]

/-- In any other case START leaves the view and the allowances (R48, R51). -/
theorem startClock_no_shift (same : s.clock.set = false ∨ p.shift ≤ s.clock.pos.shift) :
    (startClock c p s).view = s.view ∧ (startClock c p s).clock.active = s.clock.active ∧
    (startClock c p s).clock.staged = s.clock.staged := by
  unfold startClock
  split
  · exact ⟨rfl, rfl, rfl⟩
  · next set =>
    have earlier : ¬ s.clock.pos.shift < p.shift := by simp_all
    split
    · rw [moveClock_eq, if_neg earlier]
      exact ⟨rfl, rfl, rfl⟩
    · exact ⟨rfl, rfl, rfl⟩

end Clock

/-- The origin lists and the allowances after a shift change (R51). -/
theorem origins_shiftEffects (s : State) : ∀ e ∈ (shiftEffects s).view.entries, e.origins = [] := by
  intro e he
  obtain ⟨x, -, rfl⟩ := List.mem_map.mp he
  rfl

theorem allowances_shiftEffects (s : State) (k : Fin 8) :
    (shiftEffects s).clock.active[k] = s.clock.staged[k].getD s.clock.active[k] ∧
    (shiftEffects s).clock.staged[k] = none := by
  simp [shiftEffects]

/-! ### The refusals of START -/

section Request

variable {s t : State} {shift time : Nat} {c : ConfigBlock}

theorem exec_start {r : Result} {payload : List Byte} (h : s.canAnswer) (e : start shift time s = (t, r, payload)) :
    exec (.start shift time) s = .next (t.respond 0x02 r payload) :=
  congrArg Host.Outcome.next (serve_answered h e)

theorem start_running (hn : s.net.state ≠ .standby) : start shift time s = (s, .notRunning, []) := by
  simp only [start, running_true hn, if_true]
  rfl

theorem start_noConfig (hn : s.net.state = .standby) (hb : s.store.block = none) :
    start shift time s = (s, .noConfig, []) := by
  simp only [start, running_false hn, hb]
  rfl

theorem start_badRequest (hn : s.net.state = .standby) (hb : s.store.block = some c) (late : c.shiftLength ≤ time) :
    start shift time s = (s, .badRequest, []) := by
  simp only [start, running_false hn, hb, late, true_or, if_true]
  rfl

theorem start_accepted (hn : s.net.state = .standby) (hb : s.store.block = some c) (ht : time < c.shiftLength)
    (hs : shift ≤ 16777215) : start shift time s =
      (startStation c ⟨shift, time⟩ s, .ok, posField (startStation c ⟨shift, time⟩ s).clock.pos) := by
  have range : ¬ (c.shiftLength ≤ time ∨ u24Max < shift) := not_or.mpr ⟨Nat.not_le.mpr ht, Nat.not_lt.mpr hs⟩
  simp only [start, running_false hn, hb, range, if_false]
  rfl

end Request

/-! ### The acceptance of START, block by block -/

section Station

variable (c : ConfigBlock) (p : ClockPos) (s : State)

/-- The station that an accepted START has made when its guard is evaluated. -/
def startedStation : State :=
  withMatched true ((startSchedules (enterListenIn c (dropParts (startClock c p s)))).mapRadio fun r =>
    { r with tx := .idle, cw := cwLow })

theorem startStation_eq : startStation c p s = guardEval (startedStation c p s) := rfl

theorem hoses_startedStation : (startedStation c p s).hoses = s.hoses := by
  simp [startedStation, withMatched]

theorem offends_startedStation (h : Fin 4) : (startedStation c p s).offends h = s.offends h := by
  have block : (startedStation c p s).store.block = s.store.block := by simp [startedStation, withMatched, dropParts]
  simp [State.offends, State.fitted, block, hose_congr (hoses_startedStation c p s)]

theorem net_startedStation : (startedStation c p s).net =
    { state := .listenIn, listen := some (c.listenInTime * second), peers := Vector.replicate 16 Peer.cleared,
      clash := s.net.clash } := by
  simp [startedStation, withMatched, enterListenIn, setListen, clearPeers]

theorem notices_startedStation (standby : s.net.state = .standby) (j : Nat) (hj : j < 12) :
    (startedStation c p s).notices.entries[j] = (raise .netState s).notices.entries[j] := by
  simp [startedStation, withMatched, enterListenIn, setNetState, setListen, clearPeers, standby, entries_raise]

theorem radio_startedStation : (startedStation c p s).radio =
    { s.radio with tx := .idle, cw := 16, schedule := some (Config.freeDraw s.model.draws % 1001 * 100)
                   gapClock := some 0 } := by
  simp [startedStation, withMatched, startSchedules, State.drawBelow, cwLow, millisecond]

/-- What START leaves of each hose: everything but its guard counter. -/
theorem hose_startStation (h : Fin 4) : ((startStation c p s).hose h).same (s.hose h) := by
  have parts := parts_guardEval h (startedStation c p s)
  rw [hose_congr (hoses_startedStation c p s)] at parts
  exact parts

theorem net_startStation : (startStation c p s).net = (startedStation c p s).net :=
  (guardEval_frame (startedStation c p s)).2.2.2.2.2.1

theorem radio_startStation : (startStation c p s).radio = (startedStation c p s).radio :=
  (guardEval_frame (startedStation c p s)).2.2.2.2.2.2.1

theorem store_startStation : (startStation c p s).store = { s.store with part1 := none, part2 := none } := by
  simp [startStation, dropParts]

theorem view_startStation : (startStation c p s).view = (startClock c p s).view := by
  simp [startStation, dropParts]

/-- NET_STATE is raised by START, the station coming from STANDBY (R67). -/
theorem raised_netState_startStation (standby : s.net.state = .standby) : Raised .netState s (startStation c p s) := by
  have entry : (startStation c p s).notices.entries[3] = (raise .netState s).notices.entries[3] :=
    (notices_guardEval (startedStation c p s) 3 (by omega) (by omega)).trans
      (notices_startedStation c p s standby 3 (by omega))
  exact (congrArg NoticeEntry.pending entry).trans (raised_raise .netState s)

/-- The guard as START leaves it: taken as matched, and evaluated over the hoses as they stand (R106). -/
theorem guard_startStation (standby : s.net.state = .standby) :
    ((startStation c p s).field.matched = true ↔ ∀ h, s.offends h = false) ∧
    (∀ h, ((startStation c p s).hose h).guardCount =
      if s.offends h = true then bump (s.hose h).guardCount else (s.hose h).guardCount) ∧
    ((startStation c p s).field.matched = false →
      (startStation c p s).notices.entries[2] = s.notices.entries[2].raised) ∧
    ((startStation c p s).field.matched = true →
      (startStation c p s).notices.entries[2] = s.notices.entries[2]) := by
  have running : (startedStation c p s).running = true :=
    running_true (by rw [net_startedStation]; exact NetState.noConfusion)
  have guard := guardEval_matched running (s := startedStation c p s) rfl
  have entry : (startedStation c p s).notices.entries[2] = s.notices.entries[2] := by
    rw [notices_startedStation c p s standby 2 (by omega), entries_raise]
    rfl
  simpa only [startStation_eq, offends_startedStation, hose_congr (hoses_startedStation c p s), entry] using guard

end Station

theorem offends_eq_true (s : State) (h : Fin 4) : s.offends h = true ↔
    s.fitted h = true ∧ (s.hose h).nozzle.active = true ∧
      ((s.hose h).ctl.state = .idle ∨ (s.hose h).ctl.state = .outOfService) := by
  rw [← Bool.not_eq_false, offends_eq_false]
  tauto

/-- What a shift change at START leaves of the origin lists and the allowances (R51). -/
theorem startStation_shift (c : ConfigBlock) (p : ClockPos) (s : State) (set : s.clock.set = true)
    (later : s.clock.pos.shift < p.shift) :
    (∀ e ∈ (startStation c p s).view.entries, e.origins = []) ∧
    ∀ k : Fin 8, (startStation c p s).clock.active[k] = s.clock.staged[k].getD s.clock.active[k] ∧
      (startStation c p s).clock.staged[k] = none := by
  rw [view_startStation, clock_startStation, startClock_shift c p s set later]
  exact ⟨origins_shiftEffects _, allowances_shiftEffects (placeClock c p s)⟩

theorem startStation_no_shift (c : ConfigBlock) (p : ClockPos) (s : State)
    (same : s.clock.set = false ∨ p.shift ≤ s.clock.pos.shift) :
    (startStation c p s).view = s.view ∧ (startStation c p s).clock.active = s.clock.active ∧
    (startStation c p s).clock.staged = s.clock.staged := by
  rw [view_startStation, clock_startStation]
  exact startClock_no_shift c p s same

/-- Settles O7: the refusals in order, then the acceptance read off `startStation`, its clock from `startClock`, its net and
its transmitter before the guard is evaluated, and its guard from `guardEval_matched`. -/
theorem startRequest : Obligations.StartRequest := by
  intro s shift time canAnswer
  refine ⟨fun hn => exec_start canAnswer (start_running hn), fun hn hb => exec_start canAnswer (start_noConfig hn hb),
    fun c hn hb late => exec_start canAnswer (start_badRequest hn hb late), fun c hn hb ht hs => ?_⟩
  obtain ⟨matched, counts, raised, kept⟩ := guard_startStation c ⟨shift, time⟩ s hn
  have clock := clock_startStation c ⟨shift, time⟩ s
  refine ⟨_, Config.freeDraw s.model.draws % 1001, exec_start canAnswer (start_accepted hn hb ht hs),
    ?set, ?pos, store_startStation c _ s, ?net, raised_netState_startStation c _ s hn, ?radio, ?draw, ?watch, ?records,
    fun set later => (startStation_shift c _ s set later).1, fun set later => (startStation_shift c _ s set later).2,
    startStation_no_shift c ⟨shift, time⟩ s, hose_startStation c _ s, ?matched, ?counts,
    fun e => congrArg NoticeEntry.pending (raised e), kept, ?responses⟩
  case set => exact (congrArg ClockBlock.set clock).trans (startClock_set c _ s)
  case pos => exact (congrArg ClockBlock.pos clock).trans (startClock_pos c _ s)
  case net => exact (net_startStation c _ s).trans (net_startedStation c _ s)
  case radio => exact (radio_startStation c _ s).trans (radio_startedStation c _ s)
  case draw => omega
  case watch => exact (startStation_frame c _ s).2.1
  case records => exact (startStation_frame c _ s).2.2.1
  case matched => exact matched.trans (forall_congr' (offends_eq_false s))
  case counts =>
    intro h
    simp only [← offends_eq_true]
    exact counts h
  case responses => simp [State.respond, posField, fieldBytes]

end Sys2Proof.Machine.ShiftClock
end

section
/-! BEACON in a running station (R49, R59, R60, R62, R65, R70): the clock by Table 3-1, and the sender's entry by Table 4-2. -/

namespace Sys2Proof.Machine.ShiftClock

open Sys2Proof Sys2Proof.Machine Sys2Proof.Machine.ServiceIntervals

theorem exec_beacon {s : State} {c : ConfigBlock} {pos : ClockPos} {interval : Nat} (i : Fin 16)
    (running : s.net.state ≠ .standby) (hb : s.store.block = some c)
    (range : beaconInRange c.shiftLength pos interval = true) :
    exec (.beacon (i.val + 1) pos interval) s = .next (takeBeacon c i pos interval s) := by
  have taken : execBeacon (i.val + 1) pos interval s = .next (takeBeacon c i pos interval s) := by
    simp only [execBeacon, running_true running, hb, indexOf_succ, range, if_true]
  exact taken

/-! ### The clock (Table 3-1) -/

section Clock

variable {c : ConfigBlock} {p : ClockPos} {s : State}

theorem beaconAtClock_near (near : clockLead c.shiftLength p s.clock.pos ≤ 2) : beaconAtClock c p s = s := by
  simp [beaconAtClock, near]

theorem beaconAtClock_held (lead : 2 < clockLead c.shiftLength p s.clock.pos)
    (within_shift : clockLead c.shiftLength p s.clock.pos ≤ c.shiftLength) (held : s.clock.held = true) :
    beaconAtClock c p s = s := by
  simp [beaconAtClock, Int.not_le.mpr lead, within_shift, held]

theorem beaconAtClock_moved (lead : 2 < clockLead c.shiftLength p s.clock.pos)
    (within_shift : clockLead c.shiftLength p s.clock.pos ≤ c.shiftLength) (free : s.clock.held = false) :
    beaconAtClock c p s = moveClock c p s := by
  simp [beaconAtClock, Int.not_le.mpr lead, within_shift, free]

theorem beaconAtClock_rejected (far : c.shiftLength < clockLead c.shiftLength p s.clock.pos)
    (lead : 2 < clockLead c.shiftLength p s.clock.pos) : beaconAtClock c p s =
      raise .clockReject { s with clock := { s.clock with reject := bump s.clock.reject } } := by
  simp [beaconAtClock, Int.not_le.mpr lead, Int.not_le.mpr far]

/-- The clock's answer to a beacon raises CLOCK_REJECT and moves no other notice. -/
theorem notices_beaconAtClock (j : Nat) (hj : j < 12) (other : j ≠ 6) :
    (beaconAtClock c p s).notices.entries[j] = s.notices.entries[j] := by
  simp only [beaconAtClock]
  (repeat' split) <;> simp [entries_raise, NoticeSource.index, other]

/-- A moved clock restarts its second, and keeps its reject counter. -/
theorem counts_moveClock : (moveClock c p s).clock.phase = 0 ∧ (moveClock c p s).clock.reject = s.clock.reject := by
  rw [clock_moveClock]
  split <;> exact ⟨rfl, rfl⟩

/-- A move to a later shift has the effects of R51, and any other move leaves the view and the allowances. -/
theorem moveClock_shift (later : s.clock.pos.shift < p.shift) :
    (∀ e ∈ (moveClock c p s).view.entries, e.origins = []) ∧
    (moveClock c p s).view = { s.view with entries := s.view.entries.map fun e => { e with origins := [] } } ∧
    ∀ k : Fin 8, (moveClock c p s).clock.active[k] = s.clock.staged[k].getD s.clock.active[k] ∧
      (moveClock c p s).clock.staged[k] = none := by
  rw [moveClock_eq, if_pos later]
  exact ⟨origins_shiftEffects _, rfl, allowances_shiftEffects (placeClock c p s)⟩

theorem moveClock_no_shift (same : p.shift ≤ s.clock.pos.shift) :
    (moveClock c p s).view = s.view ∧ (moveClock c p s).clock.active = s.clock.active ∧
    (moveClock c p s).clock.staged = s.clock.staged := by
  rw [moveClock_eq, if_neg (Nat.not_lt.mpr same)]
  exact ⟨rfl, rfl, rfl⟩

end Clock

/-! ### The sender's entry (Table 4-2) -/

section Bucket

variable {p : Peer} (now : ClockPos) (interval : Nat)

theorem beacon_neverHeard (st : p.state = .neverHeard) :
    (p.beacon now interval).bucket = 0 ∧ (p.beacon now interval).state = .present := by
  simp [Peer.beacon, bucketAfterBeacon, bucketState, st]

theorem beacon_present (sound : p.sound) (st : p.state = .present) :
    (p.beacon now interval).bucket = p.bucket - 1 ∧ (p.beacon now interval).state = .present := by
  have bucket : p.bucket ≤ 2 := by
    simp only [Peer.sound, st] at sound
    exact sound.1
  have low : p.bucket - 1 ≤ 2 := by omega
  simp [Peer.beacon, bucketAfterBeacon, bucketState, st, low]

/-- A FADING entry is PRESENT again when its bucket comes down to 2. -/
theorem beacon_fading (sound : p.sound) (st : p.state = .fading) :
    (p.beacon now interval).bucket = p.bucket - 1 ∧
    (p.beacon now interval).state = if p.bucket = 3 then .present else .fading := by
  have bucket : 3 ≤ p.bucket ∧ p.bucket ≤ 7 := by
    simp only [Peer.sound, st, within] at sound
    exact sound.1
  have bucket_eq : bucketAfterBeacon p = p.bucket - 1 := by simp only [bucketAfterBeacon, st]
  have low : p.bucket - 1 ≤ 2 ↔ p.bucket = 3 := by omega
  have high : p.bucket - 1 ≤ 7 := by omega
  refine ⟨bucket_eq, ?_⟩
  simp only [Peer.beacon, bucket_eq, bucketState, low, high, if_true]

theorem beacon_lost (st : p.state = .lost) :
    (p.beacon now interval).bucket = 2 ∧ (p.beacon now interval).state = .present := by
  simp [Peer.beacon, bucketAfterBeacon, bucketState, st]

end Bucket

/-! ### The peer table and the net state (R60, R70) -/

section Net

variable (c : ConfigBlock) (i : Fin 16) (interval : Nat) (s : State)

theorem peers_beaconAtPeer : (beaconAtPeer c i interval s).net.peers =
    s.net.peers.set i (s.net.peers[i].beacon s.clock.pos interval) := by
  simp only [beaconAtPeer]
  split <;> simp [setListen]

theorem clash_beaconAtPeer : (beaconAtPeer c i interval s).net.clash = s.net.clash := by
  simp only [beaconAtPeer]
  split <;> simp [setListen]

/-- A beacon at its sender's entry raises NET_STATE and moves no other notice. -/
theorem notices_beaconAtPeer (j : Nat) (hj : j < 12) (other : j ≠ 3) :
    (beaconAtPeer c i interval s).notices.entries[j] = s.notices.entries[j] := by
  simp only [beaconAtPeer, setNetState]
  (repeat' split) <;> simp [entries_raise, NoticeSource.index, other, setListen]

/-- An entry that becomes PRESENT in ISOLATED starts a rejoin (R70). -/
theorem beaconAtPeer_rejoin (isolated : s.net.state = .isolated) (absent : s.net.peers[i].state ≠ .present)
    (present : (s.net.peers[i].beacon s.clock.pos interval).state = .present) :
    (beaconAtPeer c i interval s).net.state = .listenIn ∧
    (beaconAtPeer c i interval s).net.listen = some (c.rejoinTime * second) ∧
    Raised .netState s (beaconAtPeer c i interval s) := by
  have rejoin : beaconAtPeer c i interval s = raise .netState
      { s with net := { s.net with
        state := .listenIn
        listen := some (c.rejoinTime * second)
        peers := s.net.peers.set i (s.net.peers[i].beacon s.clock.pos interval) } } := by
    simp only [beaconAtPeer, isolated, present, ne_eq, absent, not_false_eq_true, and_self, if_true]
    simp [setNetState, setListen, State.mapPeer, isolated]
  rw [rejoin]
  exact ⟨rfl, rfl, raised_raise .netState _⟩

/-- In any other case the net state and the listen timer stand. -/
theorem beaconAtPeer_no_rejoin (stands : s.net.state ≠ .isolated ∨ s.net.peers[i].state = .present ∨
      (s.net.peers[i].beacon s.clock.pos interval).state ≠ .present) :
    (beaconAtPeer c i interval s).net.state = s.net.state ∧
    (beaconAtPeer c i interval s).net.listen = s.net.listen := by
  have no_rejoin : ¬ (s.net.state = .isolated ∧ s.net.peers[i].state ≠ .present ∧
      (s.net.peers[i].beacon s.clock.pos interval).state = .present) := by tauto
  simp only [beaconAtPeer, no_rejoin, if_false]
  exact ⟨rfl, rfl⟩

end Net

/-! ### The two senders (R59, R65) -/

section Sender

variable (c : ConfigBlock) (i : Fin 16) (pos : ClockPos) (interval : Nat) (s : State)

/-- A beacon with the own number is a clash, and nothing else (R65). -/
theorem takeBeacon_own (own : i.val + 1 = c.station) : takeBeacon c i pos interval s =
    raise .numberClash { s with net := { s.net with clash := bump s.net.clash } } := if_pos own

theorem takeBeacon_other (other : i.val + 1 ≠ c.station) : takeBeacon c i pos interval s =
    beaconAtPeer c i interval (beaconAtClock c pos s) := if_neg other

variable {c i}

theorem view_takeBeacon (other : i.val + 1 ≠ c.station) :
    (takeBeacon c i pos interval s).view = (beaconAtClock c pos s).view := by
  simp [takeBeacon_other c i pos interval s other]

theorem clock_takeBeacon_other (other : i.val + 1 ≠ c.station) :
    (takeBeacon c i pos interval s).clock = (beaconAtClock c pos s).clock := by
  rw [clock_takeBeacon, if_neg other]

/-- The peer table after another station's beacon: its sender's entry alone has taken it, at the clock as it stands then. -/
theorem peers_takeBeacon (other : i.val + 1 ≠ c.station) : (takeBeacon c i pos interval s).net.peers =
    s.net.peers.set i (s.net.peers[i].beacon (beaconAtClock c pos s).clock.pos interval) := by
  rw [takeBeacon_other c i pos interval s other, peers_beaconAtPeer]
  simp

theorem clash_takeBeacon (other : i.val + 1 ≠ c.station) :
    (takeBeacon c i pos interval s).net.clash = s.net.clash := by
  rw [takeBeacon_other c i pos interval s other, clash_beaconAtPeer]
  simp

/-- A lead beyond the shift length is counted and raises CLOCK_REJECT (Table 3-1). -/
theorem raised_clockReject_takeBeacon (other : i.val + 1 ≠ c.station)
    (far : c.shiftLength < clockLead c.shiftLength pos s.clock.pos)
    (lead : 2 < clockLead c.shiftLength pos s.clock.pos) : Raised .clockReject s (takeBeacon c i pos interval s) := by
  have entry : (takeBeacon c i pos interval s).notices.entries[6] = (beaconAtClock c pos s).notices.entries[6] := by
    rw [takeBeacon_other c i pos interval s other]
    exact notices_beaconAtPeer c i interval _ 6 (by omega) (by omega)
  rw [beaconAtClock_rejected far lead] at entry
  exact (congrArg NoticeEntry.pending entry).trans (raised_raise .clockReject _)

theorem takeBeacon_rejoin (other : i.val + 1 ≠ c.station) (isolated : s.net.state = .isolated)
    (absent : s.net.peers[i].state ≠ .present)
    (present : (s.net.peers[i].beacon (beaconAtClock c pos s).clock.pos interval).state = .present) :
    (takeBeacon c i pos interval s).net.state = .listenIn ∧
    (takeBeacon c i pos interval s).net.listen = some (c.rejoinTime * second) ∧
    Raised .netState s (takeBeacon c i pos interval s) := by
  have net : (beaconAtClock c pos s).net = s.net := (beaconAtClock_frame c pos s).2.2.2.1
  have entry : (beaconAtClock c pos s).notices.entries[3] = s.notices.entries[3] :=
    notices_beaconAtClock 3 (by omega) (by omega)
  obtain ⟨state, listen, raised⟩ := beaconAtPeer_rejoin c i interval (beaconAtClock c pos s)
    (by rw [net]; exact isolated) (by rw [net]; exact absent) (by rw [net]; exact present)
  rw [takeBeacon_other c i pos interval s other]
  refine ⟨state, listen, raised.trans ?_⟩
  exact congrArg (fun e : NoticeEntry => e.pending || e.enabled) entry

theorem takeBeacon_no_rejoin (other : i.val + 1 ≠ c.station)
    (stands : s.net.state ≠ .isolated ∨ s.net.peers[i].state = .present ∨
      (s.net.peers[i].beacon (beaconAtClock c pos s).clock.pos interval).state ≠ .present) :
    (takeBeacon c i pos interval s).net.state = s.net.state ∧
    (takeBeacon c i pos interval s).net.listen = s.net.listen := by
  have net : (beaconAtClock c pos s).net = s.net := (beaconAtClock_frame c pos s).2.2.2.1
  have kept := beaconAtPeer_no_rejoin c i interval (beaconAtClock c pos s)
  rw [net] at kept
  rw [takeBeacon_other c i pos interval s other]
  exact kept stands

end Sender

theorem keepsForecourt_takeBeacon (c : ConfigBlock) (i : Fin 16) (pos : ClockPos) (interval : Nat) (s : State) :
    KeepsForecourt s (takeBeacon c i pos interval s) := by
  simp [KeepsForecourt]

/-! ### What the frozen statement says, from a shift length of 2 s on -/

/-- The statement of O27 with the one premise it lacks, that a lead of 2 s is within the shift length, as it is under every
sound configuration (R172): the clock takes the beacon through `beaconAtClock`, row by row of Table 3-1, and the sender's
entry then through `Peer.beacon`, state by state of Table 4-2. -/
theorem beacon_taken_of_two_le_shiftLength {s : State} {c : ConfigBlock} {i : Fin 16} {pos : ClockPos} {interval : Nat}
    {d : Int} {p : Peer} (two_le : 2 ≤ c.shiftLength) (running : s.net.state ≠ .standby) (hb : s.store.block = some c)
    (time : pos.time < c.shiftLength) (shift : pos.shift ≤ 16777215) (low : 5 ≤ interval) (high : interval ≤ 60)
    (hd : d = ((pos.shift : Int) - s.clock.pos.shift) * c.shiftLength + ((pos.time : Int) - s.clock.pos.time))
    (hp : p = s.net.peers[i]) (sound : p.sound) :
    (i.val + 1 = c.station → ∃ t, exec (.beacon (i.val + 1) pos interval) s = .next t ∧
      t.net = { s.net with clash := min 65535 (s.net.clash + 1) } ∧ t.clock = s.clock ∧
      t.view = s.view ∧ t.radio = s.radio ∧ KeepsForecourt s t ∧ Raised .numberClash s t) ∧
    (i.val + 1 ≠ c.station → ∃ t, exec (.beacon (i.val + 1) pos interval) s = .next t ∧
      (d ≤ 2 → t.clock = s.clock) ∧
      (2 < d → d ≤ c.shiftLength → s.clock.held = false →
        t.clock.pos = pos ∧ t.clock.phase = 0 ∧ t.clock.reject = s.clock.reject ∧ t.clock.set = s.clock.set ∧
        (s.clock.pos.shift < pos.shift →
          (∀ e ∈ t.view.entries, e.origins = []) ∧
          t.view = { s.view with entries := s.view.entries.map fun e => { e with origins := [] } } ∧
          ∀ k : Fin 8, t.clock.active[k] = s.clock.staged[k].getD s.clock.active[k] ∧
            t.clock.staged[k] = none) ∧
        (pos.shift ≤ s.clock.pos.shift → t.view = s.view ∧ t.clock.active = s.clock.active ∧
          t.clock.staged = s.clock.staged)) ∧
      (d ≤ 2 → t.view = s.view) ∧
      (2 < d → d ≤ c.shiftLength → s.clock.held = true → t.clock = s.clock ∧ t.view = s.view) ∧
      (c.shiftLength < d → t.clock = { s.clock with reject := min 65535 (s.clock.reject + 1) } ∧
        t.view = s.view ∧ Raised .clockReject s t) ∧
      (∀ j : Fin 16, j ≠ i → t.net.peers[j] = s.net.peers[j]) ∧ t.net.clash = s.net.clash ∧
      t.net.peers[i].frames = min 65535 (p.frames + 1) ∧ t.net.peers[i].since = some 0 ∧
      t.net.peers[i].interval = interval ∧ t.net.peers[i].missTimer = some (interval * 150000) ∧
      t.net.peers[i].lastHeard = t.clock.pos ∧
      (p.state = .neverHeard → t.net.peers[i].bucket = 0 ∧ t.net.peers[i].state = .present) ∧
      (p.state = .present → t.net.peers[i].bucket = p.bucket - 1 ∧ t.net.peers[i].state = .present) ∧
      (p.state = .fading → t.net.peers[i].bucket = p.bucket - 1 ∧
        t.net.peers[i].state = if p.bucket = 3 then .present else .fading) ∧
      (p.state = .lost → t.net.peers[i].bucket = 2 ∧ t.net.peers[i].state = .present) ∧
      t.net.peers[i].rejoins = (if p.state = .lost then min 65535 (p.rejoins + 1) else p.rejoins) ∧
      (s.net.state = .isolated → p.state ≠ .present → t.net.peers[i].state = .present →
        t.net.state = .listenIn ∧ t.net.listen = some (c.rejoinTime * 100000) ∧ Raised .netState s t) ∧
      (s.net.state ≠ .isolated ∨ p.state = .present ∨ t.net.peers[i].state ≠ .present →
        t.net.state = s.net.state ∧ t.net.listen = s.net.listen) ∧
      t.store = s.store ∧ t.watch = s.watch ∧ t.radio = s.radio ∧ KeepsForecourt s t) := by
  subst hp
  obtain rfl : d = clockLead c.shiftLength pos s.clock.pos := hd
  have taken : exec (.beacon (i.val + 1) pos interval) s = .next (takeBeacon c i pos interval s) :=
    exec_beacon i running hb (by simp [beaconInRange, time, shift, low, high])
  refine ⟨fun own => ⟨_, taken, ?own⟩, fun other => ⟨_, taken, ?_⟩⟩
  case own =>
    rw [takeBeacon_own c i pos interval s own]
    exact ⟨rfl, rfl, rfl, rfl, ⟨rfl, rfl, rfl⟩, raised_raise .numberClash _⟩
  have view := view_takeBeacon pos interval s other
  have clock := clock_takeBeacon_other pos interval s other
  have peers := peers_takeBeacon pos interval s other
  rw [← clock] at peers
  have entry : (takeBeacon c i pos interval s).net.peers[i] =
      s.net.peers[i].beacon (takeBeacon c i pos interval s).clock.pos interval := by
    rw [peers]
    simp
  rw [entry]
  refine ⟨fun near => by rw [clock, beaconAtClock_near near], ?moved, fun near => by rw [view, beaconAtClock_near near],
    fun lead inside held => by rw [clock, view, beaconAtClock_held lead inside held]; exact ⟨rfl, rfl⟩, ?rejected,
    ?others, clash_takeBeacon pos interval s other, rfl, rfl, rfl, rfl, rfl, beacon_neverHeard _ _,
    beacon_present _ _ sound, beacon_fading _ _ sound, beacon_lost _ _, rfl, ?rejoin, ?no_rejoin, ?store, ?watch, ?radio,
    keepsForecourt_takeBeacon c i pos interval s⟩
  case moved =>
    intro lead inside free
    rw [clock, view, beaconAtClock_moved lead inside free]
    exact ⟨pos_moveClock c pos s, counts_moveClock.1, counts_moveClock.2, set_moveClock c pos s, moveClock_shift,
      moveClock_no_shift⟩
  case rejected =>
    intro far
    have lead : 2 < clockLead c.shiftLength pos s.clock.pos := by omega
    have raised := raised_clockReject_takeBeacon pos interval s other far lead
    refine ⟨?_, ?_, raised⟩
    · rw [clock, beaconAtClock_rejected far lead]
      rfl
    · rw [view, beaconAtClock_rejected far lead]
      rfl
  case others =>
    intro j hj
    have distinct : i.val ≠ j.val := fun e => hj (Fin.ext e.symm)
    rw [peers]
    simp [distinct]
  case rejoin =>
    rw [clock]
    exact takeBeacon_rejoin pos interval s other
  case no_rejoin =>
    rw [clock]
    exact takeBeacon_no_rejoin pos interval s other
  case store => exact (takeBeacon_frame c i pos interval s).2.1
  case watch => exact (takeBeacon_frame c i pos interval s).2.2.1
  case radio => exact (takeBeacon_frame c i pos interval s).2.2.2.1

/-! ### A shift of one second -/

/-- Every field of the block 1: the shift length among them, below the range 3600..86400 of its field in Table 11-5. -/
def oneSecondShift : ConfigBlock := configOf fun _ => 1

/-- A station under that block, its clock at (0, 0). -/
def oneSecondStation : State :=
  { State.reset with
    store := { State.reset.store with block := some oneSecondShift }
    net := { State.reset.net with state := .joined } }

/-- Station 2's beacon at (2, 0) leads that clock by 2 s: at most 2 s, and more than the shift length. -/
theorem lead_oneSecondStation :
    clockLead oneSecondShift.shiftLength ⟨2, 0⟩ oneSecondStation.clock.pos = 2 := rfl

/-- The model reads Table 3-1 from its first row, so it leaves the clock there and counts no reject. -/
theorem clock_oneSecondStation :
    (takeBeacon oneSecondShift 1 ⟨2, 0⟩ 5 oneSecondStation).clock = oneSecondStation.clock := by
  rw [clock_takeBeacon_other _ _ _ (show (1 : Fin 16).val + 1 ≠ oneSecondShift.station by decide),
    beaconAtClock_near (by rw [lead_oneSecondStation])]

/-- Refutes O27: it asks for no sound configuration, and under a shift length of 1 s its clauses for a lead of at most 2 s
and for a lead beyond the shift length both speak of a lead of 2 s, one keeping the reject counter and one counting. -/
theorem not_beaconTaken : ¬ Obligations.BeaconTaken := by
  intro claim
  have taken : exec (.beacon 2 ⟨2, 0⟩ 5) oneSecondStation =
      .next (takeBeacon oneSecondShift 1 ⟨2, 0⟩ 5 oneSecondStation) :=
    exec_beacon 1 NetState.noConfusion rfl rfl
  have other_station := (claim oneSecondStation oneSecondShift 1 ⟨2, 0⟩ 5 2 Peer.cleared NetState.noConfusion rfl
    (by decide) (by decide) (by decide) (by decide) rfl rfl ⟨rfl, rfl⟩).2 (by decide)
  obtain ⟨t, next, -, -, -, -, beyond_shift, -⟩ := other_station
  have reached : takeBeacon oneSecondShift 1 ⟨2, 0⟩ 5 oneSecondStation = t := next_inj (taken.symm.trans next)
  have counted : t.clock.reject = 1 := congrArg ClockBlock.reject (beyond_shift (by decide)).1
  rw [← reached, clock_oneSecondStation] at counted
  exact absurd counted (by decide)

end Sys2Proof.Machine.ShiftClock
end

-- Proofs of the family 04_peers_and_net_state: the peer table and the net state through every step, their timers,
-- READ_PEERS, STANDBY, and the frames that fall due.

section
/-! Proofs of the family 04_peers_and_net_state. The entries of the peer table by themselves: when one is sound, and what a
frame, a miss and a tick leave of it. -/

namespace Sys2Proof.Machine.PeersAndNet

open Sys2Proof Sys2Proof.Machine Sys2Proof.Machine.ServiceIntervals Sys2Proof.Machine.ShiftClock

/-! ### One entry -/

/-- An entry that shows its bucket is sound when its bucket is at most 8 and its miss timer runs below 8. -/
theorem sound_of_bucket {p : Peer} (state : p.state = bucketState p.bucket) (low : p.bucket ≤ 8)
    (timer : p.missTimer.isSome = decide (p.bucket ≤ 7)) : p.sound := by
  rcases Nat.lt_or_ge 2 p.bucket with above | present
  · rcases Nat.lt_or_ge 7 p.bucket with lost | fading
    · have bucket : p.bucket = 8 := by omega
      have stopped : p.missTimer = none := by simpa [bucket] using timer
      simp [Peer.sound, state, bucketState, bucket, stopped]
    · simp [Peer.sound, state, bucketState, within, timer, fading, Nat.not_le.mpr above, Nat.succ_le_of_lt above]
  · have running : p.bucket ≤ 7 := by omega
    simp [Peer.sound, state, bucketState, timer, present, running]

theorem active_iff (p : Peer) : p.active = true ↔ p.state = .present ∨ p.state = .fading := by
  simp [Peer.active]

/-- The miss timer of a sound entry runs exactly while the entry is active. -/
theorem timer_iff_active {p : Peer} (sound : p.sound) : p.missTimer.isSome = true ↔ p.active = true := by
  rw [active_iff]
  unfold Peer.sound at sound
  split at sound
  · next st => simp [st, sound.2]
  · next st => simp [st, sound.2]
  · next st => simp [st, sound.2]
  · next st => simp [st, sound.2]

theorem bucket_le_of_active {p : Peer} (sound : p.sound) (active : p.active = true) : p.bucket ≤ 7 := by
  rcases (active_iff p).mp active with st | st <;> simp only [Peer.sound, st, within] at sound
  · exact Nat.le_trans sound.1 (by decide)
  · exact sound.1.2

theorem sound_cleared : Peer.cleared.sound := ⟨rfl, rfl⟩

theorem bucketAfterBeacon_le {p : Peer} (sound : p.sound) : bucketAfterBeacon p ≤ 7 := by
  have low := bucket_le_of_active sound
  unfold bucketAfterBeacon
  split
  · omega
  · next st => exact Nat.le_trans (Nat.sub_le _ _) (low (by simp [Peer.active, st]))
  · next st => exact Nat.le_trans (Nat.sub_le _ _) (low (by simp [Peer.active, st]))
  · omega

theorem sound_beacon {p : Peer} (now : ClockPos) (interval : Nat) (sound : p.sound) : (p.beacon now interval).sound := by
  have low := bucketAfterBeacon_le sound
  exact sound_of_bucket rfl (Nat.le_succ_of_le low) (decide_eq_true low).symm

theorem active_beacon {p : Peer} (now : ClockPos) (interval : Nat) (sound : p.sound) :
    (p.beacon now interval).active = true :=
  (timer_iff_active (sound_beacon now interval sound)).mp rfl

/-- A miss leaves an active entry sound (R62). -/
theorem sound_miss {p : Peer} (sound : p.sound) (active : p.active = true) : p.miss.sound := by
  have low := bucket_le_of_active sound active
  refine sound_of_bucket rfl (Nat.succ_le_succ low) ?_
  simp only [Peer.miss]
  split
  · next more => simp [Nat.succ_le_of_lt more]
  · next last => simp [show ¬ p.bucket + 1 ≤ 7 by omega]

/-- A miss never makes an entry PRESENT. -/
theorem present_of_miss {p : Peer} (sound : p.sound) (active : p.active = true) (present : p.miss.state = .present) :
    p.state = .present := by
  rcases (active_iff p).mp active with st | st
  · exact st
  · have bucket : ¬ p.bucket + 1 ≤ 2 := by
      simp only [Peer.sound, st, within] at sound
      omega
    simp only [Peer.miss, bucketState, bucket, if_false] at present
    split at present <;> cases present

/-- Soundness rests on the state, the bucket and whether the miss timer runs. -/
theorem sound_congr {p q : Peer} (state : q.state = p.state) (bucket : q.bucket = p.bucket)
    (timer : q.missTimer.isSome = p.missTimer.isSome) (sound : p.sound) : q.sound := by
  have stopped : q.missTimer = none ↔ p.missTimer = none := by
    rw [← Option.not_isSome_iff_eq_none, timer, Option.not_isSome_iff_eq_none]
  unfold Peer.sound at *
  rwa [state, bucket, timer, stopped]

theorem sound_tick {p : Peer} (sound : p.sound) : p.tick.sound :=
  sound_congr (p := p) rfl rfl (by simp [Peer.tick, countDown]) sound

/-! ### The table -/

/-- The table after one entry is rewritten. -/
theorem getElem_set (peers : Vector Peer 16) (i j : Fin 16) (p : Peer) :
    (peers.set i p)[j] = if j = i then p else peers[j] := by
  by_cases e : j = i
  · simp [e]
  · have distinct : i.val ≠ j.val := fun h => e (Fin.ext h.symm)
    simp [e, distinct]

theorem activePeers_pos_iff (peers : Vector Peer 16) : 0 < activePeers peers ↔ ∃ i : Fin 16, peers[i].active = true := by
  rw [← anyTable_iff, activePeers, anyTable, List.length_filter_pos_iff, List.any_eq_true]

end Sys2Proof.Machine.PeersAndNet
end

section
/-! The peer table and the net state through every command and every step (R58, R61, R62, R68 to R71, R74). -/

namespace Sys2Proof.Machine.PeersAndNet

open Sys2Proof Sys2Proof.Machine Sys2Proof.Machine.ServiceIntervals Sys2Proof.Machine.ShiftClock

/-! ### Commands that leave the peer table -/

/-- The configuration in force and the peer table stand. -/
def KeepsNet (s t : State) : Prop := t.store.block = s.store.block ∧ t.net = s.net

theorem peersSound_of_keepsNet {s t : State} (sound : PeersSound s) (k : KeepsNet s t) : PeersSound t := by
  obtain ⟨block, net⟩ := k
  simpa only [PeersSound, block, net] using sound

theorem KeepsNet.serve {kind : Nat} {s : State} {request : State → Reply} (k : KeepsNet s (request s).1) :
    KeepsNet s (serve kind s request) := by
  rcases Nat.lt_or_ge s.link.responses.length responseRoom with room | full
  · rw [serve_taken _ _ _ room]
    exact k
  · rw [serve_discarded _ _ _ full]
    exact ⟨rfl, rfl⟩

/-- The commands that may move the peer table or the configuration. -/
def movesNet : Instr → Bool
  | .powerOn => true
  | .loadConfig _ _ => true
  | .start _ _ => true
  | .standby => true
  | .restart => true
  | .beacon _ _ _ => true
  | .tally _ _ => true
  | .missTimerExpiry _ => true
  | .listenTimerExpiry => true
  | _ => false

theorem keepsNet_ite {p : Prop} [Decidable p] {s t u : State} (ht : KeepsNet s t) (hu : KeepsNet s u) :
    KeepsNet s (if p then t else u) := by
  split
  · exact ht
  · exact hu

/-- Every other command leaves them. -/
theorem exec_keepsNet {i : Instr} {s t : State} (hi : movesNet i = false) (h : exec i s = .next t) : KeepsNet s t := by
  have still : KeepsNet s s := ⟨rfl, rfl⟩
  cases i with
  | powerOn | loadConfig _ _ | start _ _ | standby | restart | beacon _ _ _ | tally _ _ | missTimerExpiry _
  | listenTimerExpiry => cases hi
  | readStatus | readWatchList | unknownRequestKind _ => rw [← next_inj h]; exact KeepsNet.serve still
  | readHose _ => rw [← next_inj h]; exact KeepsNet.serve (by rwa [fst_readHose])
  | readVehicle _ => rw [← next_inj h]; exact KeepsNet.serve (by rwa [fst_readVehicle])
  | readOldest => rw [← next_inj h]; exact KeepsNet.serve (by rwa [fst_readOldest])
  | readPeers _ => rw [← next_inj h]; exact KeepsNet.serve (by rwa [fst_readPeers])
  | readNotices => rw [← next_inj h]; exact KeepsNet.serve (by simp [KeepsNet, readNotices, accept])
  | presentVehicle hose v hours flag total preset =>
    rw [← next_inj h]
    exact KeepsNet.serve (by
      rcases presentVehicle_cases hose v hours flag total preset s with e | ⟨c, k, p, x, b, -, e⟩ <;> simp [KeepsNet, e])
  | stopHose hose =>
    rw [← next_inj h]
    exact KeepsNet.serve (by rcases stopHose_cases hose s with e | ⟨c, k, e⟩ <;> simp [KeepsNet, e])
  | clearHoseFault hose =>
    rw [← next_inj h]
    exact KeepsNet.serve (by rcases clearHoseFault_cases hose s with e | ⟨k, e⟩ <;> simp [KeepsNet, e])
  | barVehicle v =>
    rw [← next_inj h]
    exact KeepsNet.serve (by rcases barRequest_cases true v s with e | ⟨c, x, e⟩ <;> simp [KeepsNet, e])
  | clearBar v =>
    rw [← next_inj h]
    exact KeepsNet.serve (by rcases barRequest_cases false v s with e | ⟨c, x, e⟩ <;> simp [KeepsNet, e])
  | recordService v type hours flag total =>
    rw [← next_inj h]
    exact KeepsNet.serve (by
      rcases recordService_cases v type hours flag total s with e | ⟨c, x, e⟩ <;> simp [KeepsNet, e])
  | stageAllowance cls litres =>
    rw [← next_inj h]
    exact KeepsNet.serve (by rcases stageAllowance_cases cls litres s with e | ⟨k, e⟩ <;> simp [KeepsNet, e])
  | clearStaged cls =>
    rw [← next_inj h]
    exact KeepsNet.serve (by rcases clearStaged_cases cls s with e | ⟨k, e⟩ <;> simp [KeepsNet, e])
  | releaseRecord n =>
    rw [← next_inj h]
    exact KeepsNet.serve (by rcases releaseRecord_cases n s with e | ⟨rest, e⟩ <;> simp [KeepsNet, e])
  | ackNotice n =>
    rw [← next_inj h]
    exact KeepsNet.serve (by rcases ackNotice_cases n s with e | ⟨k, e⟩ <;> simp [KeepsNet, e])
  | setNoticeEnables m =>
    rw [← next_inj h]
    exact KeepsNet.serve (by rcases setNoticeEnables_cases m s with e | e <;> simp [KeepsNet, e])
  | linkFrameDiscard _ => rw [← next_inj h]; simp [KeepsNet]
  | responseSentWhole => rw [← next_inj h]; exact ⟨rfl, rfl⟩
  | responseBacklogDiscard | radioFrameDrop _ | tallyDue | accessLimitExpiry _ | transmissionEnd | carrierDetectFall
  | carrierDetectRise => rw [← next_inj h]; exact keepsNet_ite (by simp [KeepsNet]) (by simp [KeepsNet])
  | shiftClockSecond => rcases execShiftClockSecond_cases h with rfl | ⟨c, -, rfl⟩ <;> simp [KeepsNet]
  | beaconDue => rcases execBeaconDue_cases h with rfl | ⟨c, f, rfl⟩ <;> simp [KeepsNet]
  | quietTimePassed => rcases execQuietTimePassed_cases h with rfl | ⟨c, n, m, rfl⟩ | ⟨c, n, rfl⟩ <;> simp [KeepsNet]
  | backoffSlotEnd => rcases execBackoffSlotEnd_cases h with rfl | ⟨c, n, rfl⟩ <;> simp [KeepsNet]
  | nozzleChange _ _ => rcases execNozzleChange_cases h with rfl | ⟨c, k, rfl⟩ <;> simp [KeepsNet]
  | stopLineChange _ => rcases execStopLineChange_cases h with rfl | ⟨c, rfl⟩ <;> simp [KeepsNet]
  | meterPulse _ _ => rcases execMeterPulse_cases h with rfl | ⟨c, k, rfl⟩ <;> simp [KeepsNet]
  | authTimerExpiry _ => rcases execAuthTimerExpiry_cases h with rfl | ⟨k, rfl⟩ <;> simp [KeepsNet]
  | primeWaitExpiry _ => rcases execPrimeWaitExpiry_cases h with rfl | ⟨c, k, x, rfl⟩ <;> simp [KeepsNet]
  | startTimerExpiry _ => rcases execStartTimerExpiry_cases h with rfl | ⟨c, k, rfl⟩ <;> simp [KeepsNet]
  | noFlowTimerExpiry _ => rcases execNoFlowTimerExpiry_cases h with rfl | ⟨c, k, rfl⟩ <;> simp [KeepsNet]
  | settleTimerExpiry _ => rcases execSettleTimerExpiry_cases h with rfl | ⟨k, f, rfl⟩ <;> simp [KeepsNet]
  | creepQuietTimerExpiry _ => rcases execCreepQuietTimerExpiry_cases h with rfl | ⟨k, f, rfl⟩ <;> simp [KeepsNet]
  | overrunWindowExpiry _ => rcases execOverrunWindowExpiry_cases h with rfl | ⟨c, k, x, -, rfl⟩ <;> simp [KeepsNet]

/-! ### The table cleared -/

/-- A clear table is in accord with STANDBY and LISTEN_IN, and with ISOLATED (R71). -/
theorem peersSound_of_clear {s : State} (clear : ∀ i : Fin 16, s.net.peers[i] = Peer.cleared)
    (apart : s.net.state ≠ .joined) (listen : s.net.listen.isSome = true ↔ s.net.state = .listenIn) : PeersSound s := by
  refine ⟨fun i => ?_, fun _ _ i _ => clear i, fun joined => absurd joined apart, fun _ i => ?_, listen, fun _ => clear⟩
  · rw [clear i]
    exact sound_cleared
  · rw [clear i]
    exact PeerState.noConfusion

theorem peers_cleared (i : Fin 16) : (Vector.replicate 16 Peer.cleared)[i] = Peer.cleared := by simp

theorem peersSound_powerOn (s : State) : PeersSound (powerOn s) :=
  peersSound_of_clear peers_cleared NetState.noConfusion ⟨fun h => Bool.noConfusion h, fun h => NetState.noConfusion h⟩

/-- A station whose listen timer has just been set on a clear table (R71). -/
theorem peersSound_of_listenIn {s : State} {n clash : Nat}
    (net : s.net = ⟨.listenIn, some n, Vector.replicate 16 Peer.cleared, clash⟩) : PeersSound s := by
  refine peersSound_of_clear ?_ ?_ ?_ <;> rw [net]
  · exact peers_cleared
  · exact NetState.noConfusion
  · exact ⟨fun _ => rfl, fun _ => rfl⟩

theorem net_enterListenIn (c : ConfigBlock) (s : State) : (enterListenIn c s).net =
    ⟨.listenIn, some (c.listenInTime * second), Vector.replicate 16 Peer.cleared, s.net.clash⟩ := by
  simp [enterListenIn, setListen, clearPeers]

theorem net_enterStandby (s : State) : (enterStandby s).net =
    ⟨.standby, none, Vector.replicate 16 Peer.cleared, s.net.clash⟩ := by
  simp [enterStandby, setListen, clearPeers]

theorem net_restartStation (c : ConfigBlock) (s : State) : (restartStation c s).net =
    ⟨.listenIn, some (c.listenInTime * second), Vector.replicate 16 Peer.cleared, s.net.clash⟩ := by
  simp [restartStation, net_enterListenIn, eachHose]

theorem net_standbyStation {s : State} (running : s.running = true) : (standbyStation s).net =
    ⟨.standby, none, Vector.replicate 16 Peer.cleared, s.net.clash⟩ := by
  simp [standbyStation, running, net_enterStandby]

/-! ### Requests -/

theorem peersSound_serve {kind : Nat} {s : State} {request : State → Reply} (sound : PeersSound s)
    (h : PeersSound (request s).1) : PeersSound (serve kind s request) := by
  rcases Nat.lt_or_ge s.link.responses.length responseRoom with room | full
  · rw [serve_taken _ _ _ room]
    exact h
  · rw [serve_discarded _ _ _ full]
    exact sound

/-- LOAD_CONFIG installs a configuration in STANDBY alone, where every entry is clear (R74, R171). -/
theorem peersSound_loadConfig (part : Nat) (bytes : List Byte) {s : State} (sound : PeersSound s) :
    PeersSound (loadConfig part bytes s).1 := by
  rcases partsTaken_loadConfig part bytes s with ⟨store, block, e⟩ | ⟨p1, p2, stopped, -, e⟩ <;> rw [e]
  · exact peersSound_of_keepsNet sound ⟨block, rfl⟩
  · obtain ⟨-, -, -, -, listen, clear⟩ := sound
    have standby : s.net.state = .standby := by simpa [State.running] using stopped
    have net := (installConfig_frame (configOfParts p1 p2) s).2.1
    refine peersSound_of_clear ?_ ?_ ?_ <;> rw [net]
    · exact clear standby
    · rw [standby]
      exact NetState.noConfusion
    · exact listen

theorem peersSound_start (shift time : Nat) {s : State} (sound : PeersSound s) : PeersSound (start shift time s).1 := by
  rcases start_cases shift time s with e | ⟨c, -, -, -, e⟩ <;> rw [e]
  · exact sound
  · exact peersSound_of_listenIn ((net_startStation c _ s).trans (net_startedStation c _ s))

theorem peersSound_standby {s : State} (sound : PeersSound s) : PeersSound (standby s).1 := by
  rcases standby_cases s with e | e <;> rw [e]
  · exact sound
  · cases running : s.running with
    | false => simpa [standbyStation, running] using sound
    | true =>
      refine peersSound_of_clear ?_ ?_ ?_ <;> rw [net_standbyStation running]
      · exact peers_cleared
      · exact NetState.noConfusion
      · exact ⟨fun h => Bool.noConfusion h, fun h => NetState.noConfusion h⟩

theorem peersSound_restart {s : State} (sound : PeersSound s) : PeersSound (restart s).1 := by
  rcases restart_cases s with e | ⟨c, -, -, e⟩ <;> rw [e]
  · exact sound
  · exact peersSound_of_listenIn (net_restartStation c s)

/-! ### One entry rewritten -/

/-- In a running station one entry but the own is rewritten soundly, and the net state is in accord with the table that
this leaves: the whole is in accord. -/
theorem peersSound_of_set {s t : State} {i : Fin 16} {p : Peer} (sound : PeersSound s)
    (block : t.store.block = s.store.block) (peers : t.net.peers = s.net.peers.set i p) (entry : p.sound)
    (other : ∀ c, s.store.block = some c → i.val + 1 ≠ c.station) (running : t.net.state ≠ .standby)
    (joined : t.net.state = .joined → ∃ j : Fin 16, t.net.peers[j].active = true)
    (isolated : t.net.state = .isolated → ∀ j : Fin 16, t.net.peers[j].state ≠ .present)
    (listen : t.net.listen.isSome = true ↔ t.net.state = .listenIn) : PeersSound t := by
  obtain ⟨entries, own, -⟩ := sound
  refine ⟨fun j => ?_, fun c hc j hj => ?_, fun st => (activePeers_pos_iff _).mpr (joined st), isolated, listen,
    fun st => absurd st running⟩
  · rw [peers, getElem_set]
    split
    · exact entry
    · exact entries j
  · rw [block] at hc
    have distinct : j ≠ i := fun e => other c hc (e ▸ hj)
    rw [peers, getElem_set, if_neg distinct]
    exact own c hc j hj

/-- A beacon of another station in a running station (R60, R70). -/
theorem peersSound_beaconAtPeer {s : State} {c : ConfigBlock} {i : Fin 16} (interval : Nat) (sound : PeersSound s)
    (running : s.net.state ≠ .standby) (other : ∀ c, s.store.block = some c → i.val + 1 ≠ c.station) :
    PeersSound (beaconAtPeer c i interval s) := by
  have ⟨entries, _, _, isolated, listen, _⟩ := sound
  have peers := peers_beaconAtPeer c i interval s
  have active := active_beacon s.clock.pos interval (entries i)
  have accord := peersSound_of_set sound (t := beaconAtPeer c i interval s) (by simp) peers
    (sound_beacon _ _ (entries i)) other
  have joined : ∃ j : Fin 16, (beaconAtPeer c i interval s).net.peers[j].active = true :=
    ⟨i, by rw [peers, getElem_set, if_pos rfl]; exact active⟩
  by_cases rejoin : s.net.state = .isolated ∧ s.net.peers[i].state ≠ .present ∧
      (s.net.peers[i].beacon s.clock.pos interval).state = .present
  · obtain ⟨state, timer, -⟩ := beaconAtPeer_rejoin c i interval s rejoin.1 rejoin.2.1 rejoin.2.2
    refine accord ?_ (fun _ => joined) ?_ ?_ <;> rw [state]
    · exact NetState.noConfusion
    · exact fun st => NetState.noConfusion st
    · simp [timer]
  · obtain ⟨state, timer⟩ := beaconAtPeer_no_rejoin c i interval s
      (by simpa only [not_and_or, not_not, ne_eq] using rejoin)
    refine accord (by rwa [state]) (fun _ => joined) (fun st j => ?_) (by rw [state, timer]; exact listen)
    rw [state] at st
    rw [peers, getElem_set]
    split
    · exact fun present => rejoin ⟨st, isolated st i, present⟩
    · exact isolated st j

theorem peersSound_takeBeacon {s : State} {c : ConfigBlock} (i : Fin 16) (p : ClockPos) (interval : Nat)
    (sound : PeersSound s) (running : s.running = true) (hb : s.store.block = some c) :
    PeersSound (takeBeacon c i p interval s) := by
  have state : s.net.state ≠ .standby := by simpa [State.running] using running
  by_cases own : i.val + 1 = c.station
  · rw [takeBeacon_own c i p interval s own]
    exact sound
  · rw [takeBeacon_other c i p interval s own]
    have clock : KeepsNet s (beaconAtClock c p s) := by simp [KeepsNet]
    refine peersSound_beaconAtPeer interval (peersSound_of_keepsNet sound clock) (by rwa [clock.2]) fun c' hc => ?_
    rw [clock.1, hb] at hc
    cases hc
    exact own

/-- A tally moves neither the state, the bucket nor the miss timer of its sender's entry (R64). -/
theorem peersSound_heard {s : State} {i : Fin 16} (sound : PeersSound s) (running : s.net.state ≠ .standby)
    (other : ∀ c, s.store.block = some c → i.val + 1 ≠ c.station) : PeersSound (s.mapPeer i Peer.heard) := by
  have ⟨entries, _, joined, isolated, listen, _⟩ := sound
  have state : ∀ j : Fin 16, (s.mapPeer i Peer.heard).net.peers[j].state = s.net.peers[j].state := fun j => by
    rw [peers_mapPeer, getElem_set]
    split
    · next e => subst e; rfl
    · rfl
  refine peersSound_of_set sound rfl rfl (sound_congr rfl rfl rfl (entries i)) other running (fun st => ?_)
    (fun st j => ?_) listen
  · obtain ⟨j, active⟩ := (activePeers_pos_iff _).mp (joined st)
    exact ⟨j, by rwa [active_iff, state, ← active_iff]⟩
  · rw [state]
    exact isolated st j

theorem peersSound_takeTally {s : State} {c : ConfigBlock} (i : Fin 16) (f : TallyFrame) (sound : PeersSound s)
    (running : s.running = true) (hb : s.store.block = some c) : PeersSound (takeTally c i f s) := by
  have taken : KeepsNet s (tallyAtView c f (tallyAtClock c f.shift s)) := by simp [KeepsNet]
  have state : s.net.state ≠ .standby := by simpa [State.running] using running
  have viewed := peersSound_of_keepsNet sound taken
  simp only [takeTally]
  split
  · exact viewed
  · next own =>
    refine peersSound_heard viewed (by rwa [taken.2]) fun c' hc => ?_
    rw [taken.1, hb] at hc
    cases hc
    exact own

/-! ### The timers of the peer table -/

/-- A miss is taken at an entry whose timer runs (R62). -/
theorem execMissTimerExpiry_running {n : Nat} {s t : State} (h : execMissTimerExpiry n s = .next t) :
    t = s ∨ ∃ i : Fin 16, s.net.peers[i].missTimer.isSome = true ∧ t = missAtPeer i s := by
  unfold execMissTimerExpiry at h
  split at h
  · exact .inl (next_inj h).symm
  · next i hi =>
    rw [← next_inj h]
    split
    · next timer => exact .inr ⟨i, timer, rfl⟩
    · exact .inl rfl

theorem peers_missAtPeer (i : Fin 16) (s : State) :
    (missAtPeer i s).net.peers = s.net.peers.set i s.net.peers[i].miss := by
  simp only [missAtPeer]
  split <;> simp

theorem listen_missAtPeer (i : Fin 16) (s : State) : (missAtPeer i s).net.listen = s.net.listen := by
  simp only [missAtPeer]
  split <;> simp

theorem clash_missAtPeer (i : Fin 16) (s : State) : (missAtPeer i s).net.clash = s.net.clash := by
  simp only [missAtPeer]
  split <;> simp

/-- In JOINED a miss that leaves no peer active takes the station to ISOLATED (R69). -/
theorem missAtPeer_isolates {i : Fin 16} {s : State} (joined : s.net.state = .joined)
    (alone : activePeers (missAtPeer i s).net.peers = 0) :
    (missAtPeer i s).net.state = .isolated ∧ Raised .netState s (missAtPeer i s) := by
  rw [peers_missAtPeer] at alone
  have leaves : missAtPeer i s = setNetState .isolated (s.mapPeer i Peer.miss) := if_pos ⟨joined, alone⟩
  have raises : setNetState .isolated (s.mapPeer i Peer.miss) = raise .netState _ := if_neg (by simp [joined])
  rw [leaves]
  exact ⟨by simp, by rw [raises]; exact raised_raise .netState _⟩

/-- In any other case the net state stands, and no notice is raised. -/
theorem missAtPeer_stands {i : Fin 16} {s : State}
    (stands : s.net.state ≠ .joined ∨ 0 < activePeers (missAtPeer i s).net.peers) :
    (missAtPeer i s).net.state = s.net.state ∧ (missAtPeer i s).notices = s.notices := by
  rw [peers_missAtPeer] at stands
  have keeps : missAtPeer i s = s.mapPeer i Peer.miss :=
    if_neg fun ⟨joined, alone⟩ => stands.elim (· joined) fun active => Nat.ne_of_gt active alone
  rw [keeps]
  exact ⟨rfl, rfl⟩

/-- An active entry is neither cleared nor the own one, and the station runs. -/
theorem other_of_active {s : State} {i : Fin 16} (sound : PeersSound s) (active : s.net.peers[i].active = true) :
    s.net.state ≠ .standby ∧ ∀ c, s.store.block = some c → i.val + 1 ≠ c.station := by
  obtain ⟨-, own, -, -, -, clear⟩ := sound
  have heard : s.net.peers[i] ≠ Peer.cleared := fun e => by
    rw [e] at active
    cases active
  exact ⟨fun standby => heard (clear standby i), fun c hc e => heard (own c hc i e)⟩

theorem peersSound_missAtPeer {s : State} {i : Fin 16} (sound : PeersSound s)
    (timer : s.net.peers[i].missTimer.isSome = true) : PeersSound (missAtPeer i s) := by
  have ⟨entries, _, joined, isolated, listen, _⟩ := sound
  have active := (timer_iff_active (entries i)).mp timer
  obtain ⟨running, other⟩ := other_of_active sound active
  have peers := peers_missAtPeer i s
  have accord := peersSound_of_set sound (t := missAtPeer i s) (by simp) peers (sound_miss (entries i) active) other
  rw [listen_missAtPeer] at accord
  by_cases leaves : s.net.state = .joined ∧ activePeers (missAtPeer i s).net.peers = 0
  · obtain ⟨was, alone⟩ := leaves
    have state := (missAtPeer_isolates was alone).1
    refine accord ?_ ?_ (fun _ j present => ?_) ?_
    · rw [state]
      exact NetState.noConfusion
    · rw [state]
      exact fun st => NetState.noConfusion st
    · have some_active := (activePeers_pos_iff _).mpr ⟨j, (active_iff _).mpr (.inl present)⟩
      omega
    · rw [listen, was, state]
      simp
  · have stands : s.net.state ≠ .joined ∨ 0 < activePeers (missAtPeer i s).net.peers := by
      simpa only [not_and_or, Nat.pos_iff_ne_zero, ne_eq] using leaves
    have state := (missAtPeer_stands stands).1
    rw [state] at accord
    refine accord running (fun st => (activePeers_pos_iff _).mp (stands.resolve_left (not_not.mpr st)))
      (fun st j => ?_) listen
    rw [peers, getElem_set]
    split
    · exact fun present => isolated st i (present_of_miss (entries i) active present)
    · exact isolated st j

theorem somePresent_iff (peers : Vector Peer 16) :
    somePresent peers = true ↔ ∃ i : Fin 16, peers[i].state = .present := by
  simp [somePresent, anyTable_iff]

theorem net_leaveListenIn (s : State) : (leaveListenIn s).net = { s.net with
    state := if ∃ i : Fin 16, s.net.peers[i].state = .present then .joined else .isolated
    listen := none } := by
  simp only [leaveListenIn, net_setNetState, somePresent_iff]
  rfl

/-- The end of the listen timer: JOINED with a peer PRESENT, ISOLATED without (R68). -/
theorem peersSound_leaveListenIn {s : State} (sound : PeersSound s) : PeersSound (leaveListenIn s) := by
  obtain ⟨entries, own, -⟩ := sound
  have block : (leaveListenIn s).store.block = s.store.block := by simp
  simp only [PeersSound, block, net_leaveListenIn]
  refine ⟨entries, own, ?_⟩
  split
  · next present =>
    obtain ⟨i, hi⟩ := present
    exact ⟨fun _ => (activePeers_pos_iff _).mpr ⟨i, (active_iff _).mpr (.inl hi)⟩, fun st => NetState.noConfusion st,
      by simp, fun st => NetState.noConfusion st⟩
  · next absent =>
    exact ⟨fun st => NetState.noConfusion st, fun _ i hi => absent ⟨i, hi⟩, by simp,
      fun st => NetState.noConfusion st⟩

/-- A tick moves the timers of the table and nothing that the accord rests on. -/
theorem peersSound_tick {s : State} (sound : PeersSound s) : PeersSound (tick s) := by
  obtain ⟨entries, own, joined, isolated, listen, clear⟩ := sound
  have peers : ∀ i : Fin 16, (tick s).net.peers[i] = s.net.peers[i].tick := fun i => by simp [mapTable]
  have cleared : Peer.cleared.tick = Peer.cleared := rfl
  have state : (tick s).net.state = s.net.state := by simp
  have timer : (tick s).net.listen.isSome = s.net.listen.isSome := by simp [countDown]
  simp only [PeersSound, activePeers_pos_iff, peers, state, timer, tick_store]
  refine ⟨fun i => sound_tick (entries i), fun c hc i hi => by rw [own c hc i hi, cleared],
    fun st => (activePeers_pos_iff _).mp (joined st), isolated, listen, fun st i => by rw [clear st i, cleared]⟩

/-! ### Every step -/

/-- Every command keeps the peer table and the net state in accord. -/
theorem exec_peersSound {i : Instr} {s t : State} (sound : PeersSound s) (h : exec i s = .next t) : PeersSound t := by
  cases moves : movesNet i with
  | false => exact peersSound_of_keepsNet sound (exec_keepsNet moves h)
  | true =>
    cases i with
    | powerOn => rw [← next_inj h]; exact peersSound_powerOn s
    | loadConfig part bytes => rw [← next_inj h]; exact peersSound_serve sound (peersSound_loadConfig part bytes sound)
    | start shift time => rw [← next_inj h]; exact peersSound_serve sound (peersSound_start shift time sound)
    | standby => rw [← next_inj h]; exact peersSound_serve sound (peersSound_standby sound)
    | restart => rw [← next_inj h]; exact peersSound_serve sound (peersSound_restart sound)
    | beacon n p k =>
      rcases execBeacon_cases h with rfl | ⟨cause, rfl⟩ | ⟨c, j, running, hb, -, rfl⟩
      · exact sound
      · exact peersSound_of_keepsNet sound (by simp [KeepsNet])
      · exact peersSound_takeBeacon j p k sound running hb
    | tally n f =>
      rcases execTally_cases h with rfl | ⟨cause, rfl⟩ | ⟨c, j, running, hb, -, rfl⟩
      · exact sound
      · exact peersSound_of_keepsNet sound (by simp [KeepsNet])
      · exact peersSound_takeTally j f sound running hb
    | missTimerExpiry n =>
      rcases execMissTimerExpiry_running h with rfl | ⟨j, timer, rfl⟩
      · exact sound
      · exact peersSound_missAtPeer sound timer
    | listenTimerExpiry =>
      rw [← next_inj h]
      split
      · exact peersSound_leaveListenIn sound
      · exact sound
    | _ => cases moves

/-- Settles O54: a step is a command or a tick; a command leaves the table, clears it, or rewrites one entry of another
station and moves the net state with it. -/
theorem stepKeepsPeers : Obligations.StepKeepsPeers := by
  intro s t sound he
  rcases step_cases s with ⟨i, rest, -, e⟩ | ⟨-, i, m, e⟩ | ⟨-, e⟩
  · exact exec_peersSound (s := { s with pending := rest }) sound (e.symm.trans he)
  · exact exec_peersSound (s := { s with model := m }) sound (e.symm.trans he)
  · rw [← next_inj (e.symm.trans he)]
    exact peersSound_tick sound

end Sys2Proof.Machine.PeersAndNet
end

section
/-! What has come about of the clock, the peer table and the radio; the timers of the peer table (R62, R68, R69). -/

namespace Sys2Proof.Machine.PeersAndNet

open Sys2Proof Sys2Proof.Machine Sys2Proof.Machine.ServiceIntervals Sys2Proof.Machine.ShiftClock

/-! ### Events that have come about -/

/-- The events of one hose. -/
def ofHose : Instr → Bool
  | .creepQuietTimerExpiry _ => true
  | .nozzleChange _ _ => true
  | .meterPulse _ _ => true
  | .authTimerExpiry _ => true
  | .primeWaitExpiry _ => true
  | .startTimerExpiry _ => true
  | .noFlowTimerExpiry _ => true
  | .settleTimerExpiry _ => true
  | .overrunWindowExpiry _ => true
  | _ => false

theorem ofHose_of_mem_hoseDue {c : ConfigBlock} {s : State} {h : Fin 4} {i : Instr} (hi : i ∈ hoseDue c s h) :
    ofHose i = true := by
  simp only [hoseDue, List.mem_append, mem_dueWhen] at hi
  rcases hi with ⟨-, rfl⟩ | hi
  · rfl
  · split at hi
    · simp only [List.mem_append, mem_dueWhen, or_assoc] at hi
      rcases hi with ⟨-, rfl⟩ | ⟨-, rfl⟩ | ⟨-, rfl⟩ | ⟨-, rfl⟩ | ⟨-, rfl⟩ | ⟨-, rfl⟩ | ⟨-, rfl⟩ | ⟨-, rfl⟩ <;> rfl
    · cases hi

theorem mem_responseDue {s : State} {i : Instr} (hi : i ∈ responseDue s) : i = .responseSentWhole := by
  unfold responseDue at hi
  split at hi
  · cases hi
  · exact ((mem_dueWhen _ _ _).mp hi).2

/-- The events of the transmitter. -/
def ofTransmitter : Instr → Bool
  | .quietTimePassed => true
  | .backoffSlotEnd => true
  | .transmissionEnd => true
  | _ => false

theorem ofTransmitter_of_mem_transmitterDue {c : ConfigBlock} {r : RadioBlock} {i : Instr}
    (hi : i ∈ transmitterDue c r) : ofTransmitter i = true := by
  unfold transmitterDue at hi
  split at hi
  · cases hi
  · rw [((mem_dueWhen _ _ _).mp hi).2]; rfl
  · rw [((mem_dueWhen _ _ _).mp hi).2]; rfl
  · rw [((mem_dueWhen _ _ _).mp hi).2]; rfl

/-- The events of the radio but the transmitter's: what its schedules and its access limits bring. -/
def schedulesDue (c : ConfigBlock) (s : State) : List Instr :=
  dueWhen (runOut s.radio.schedule) .beaconDue ++
  dueWhen (s.tallyCanFallDue && s.gapReached c) .tallyDue ++
  dueWhen (runOut s.radio.dueBeacon) (.accessLimitExpiry .beacon) ++
  dueWhen (runOut s.radio.dueTally) (.accessLimitExpiry .tally)

theorem radioDue_eq (c : ConfigBlock) (s : State) : radioDue c s = schedulesDue c s ++ transmitterDue c s.radio := rfl

/-- An event that is none of a hose, the transmitter and the link has come about when it is among those of the station or
of the radio's schedules. -/
theorem comesAbout_station_or_schedule {s : State} {c : ConfigBlock} {i : Instr} (hb : s.store.block = some c)
    (hose : ofHose i = false) (transmitter : ofTransmitter i = false) (link : i ≠ .responseSentWhole) :
    ComesAbout i s ↔ i ∈ stationDue c s ∨ i ∈ schedulesDue c s := by
  have no_hose : ∀ h, i ∉ hoseDue c s h := fun h hi => by
    rw [ofHose_of_mem_hoseDue hi] at hose
    cases hose
  have no_transmitter : i ∉ transmitterDue c s.radio := fun hi => by
    rw [ofTransmitter_of_mem_transmitterDue hi] at transmitter
    cases transmitter
  have no_response : i ∉ responseDue s := fun hi => link (mem_responseDue hi)
  rw [comesAbout_iff]
  simp [ownDue, hb, radioDue_eq, no_hose, no_transmitter, no_response]

/-! ### A table and its numbers -/

/-- The entries of a table with the numbers of their stations. -/
theorem zipIdx_toList {α : Type} {n : Nat} (v : Vector α n) :
    v.toList.zipIdx 1 = (List.finRange n).map fun i => (v[i], i.val + 1) := by
  apply List.ext_getElem
  · simp
  · intro i h _
    simp [Nat.add_comm]

/-! ### The timers of the peer table (R62, R68) -/

section Timers

variable {s : State} {c : ConfigBlock}

theorem missTimer_comesAbout (hb : s.store.block = some c) (i : Fin 16) :
    ComesAbout (.missTimerExpiry (i.val + 1)) s ↔ s.net.peers[i].missTimer = some 0 := by
  rw [comesAbout_station_or_schedule hb rfl rfl Instr.noConfusion, ← runOut_iff]
  simp [stationDue, schedulesDue, zipIdx_toList, Fin.val_inj]

theorem listenTimer_comesAbout (hb : s.store.block = some c) :
    ComesAbout .listenTimerExpiry s ↔ s.net.state = .listenIn ∧ s.net.listen = some 0 := by
  rw [comesAbout_station_or_schedule hb rfl rfl Instr.noConfusion, ← runOut_iff]
  simp [stationDue, schedulesDue]

theorem exec_missTimerExpiry {i : Fin 16} (timer : s.net.peers[i].missTimer.isSome = true) :
    exec (.missTimerExpiry (i.val + 1)) s = .next (missAtPeer i s) := by
  have taken : execMissTimerExpiry (i.val + 1) s = .next (missAtPeer i s) := by
    simp only [execMissTimerExpiry, indexOf_succ, timer, if_true]
  exact taken

theorem exec_listenTimerExpiry (listening : s.net.state = .listenIn) (timer : s.net.listen.isSome = true) :
    exec .listenTimerExpiry s = .next (leaveListenIn s) :=
  congrArg Host.Outcome.next (if_pos ⟨listening, timer⟩)

end Timers

/-- An entry with a bucket of at most 7 after a miss: its state follows the bucket, and the timer stops at 8 (R61, R62). -/
theorem miss_eq {p : Peer} (low : p.bucket ≤ 7) : p.miss = { p with
    bucket := p.bucket + 1
    state := if p.bucket + 1 ≤ 2 then .present else if p.bucket + 1 ≤ 7 then .fading else .lost
    missTimer := if p.bucket = 7 then none else some (p.interval * 150000) } := by
  have timer : (if p.bucket < 7 then some (missTime p.interval) else none) =
      if p.bucket = 7 then none else some (p.interval * 150000) := by
    split
    · next more => rw [if_neg (Nat.ne_of_lt more)]; rfl
    · next last => rw [if_pos (by omega)]
  unfold Peer.miss
  rw [timer]
  rfl

theorem keepsForecourt_missAtPeer (i : Fin 16) (s : State) : KeepsForecourt s (missAtPeer i s) := by
  simp [KeepsForecourt]

theorem keepsForecourt_leaveListenIn (s : State) : KeepsForecourt s (leaveListenIn s) := by simp [KeepsForecourt]

/-- The end of the listen timer always changes the net state, and so raises NET_STATE (R67, R68). -/
theorem raised_leaveListenIn {s : State} (listening : s.net.state = .listenIn) : Raised .netState s (leaveListenIn s) := by
  have changes : (setListen none s).net.state ≠ if somePresent s.net.peers then .joined else .isolated := by
    simp only [setListen, listening]
    split <;> exact NetState.noConfusion
  have raises : leaveListenIn s = raise .netState _ := if_neg changes
  rw [raises]
  exact raised_raise .netState _

theorem peers_tick (s : State) : mapTable Peer.tick s.net.peers = s.net.peers.map fun p => { p with
    missTimer := tickDown p.missTimer, since := p.since.map fun n => min 6553500000 (n + 1) } := by
  refine Vector.ext fun i hi => ?_
  simp only [mapTable, Vector.getElem_ofFn, Vector.getElem_map]
  rfl

/-- Settles O32: the ticks of the timers, when each runs out, a miss through `missAtPeer`, and the end of the listen timer
through `leaveListenIn`. -/
theorem peerTimers : Obligations.PeerTimers := by
  refine ⟨fun s rest => ⟨_, step_atRest rest, ?_⟩, fun s hb => ?_, fun s i p hp timer low => ?_,
    fun s listening timer => ⟨_, exec_listenTimerExpiry listening timer, net_leaveListenIn s,
      raised_leaveListenIn listening, by simp, by simp, by simp, by simp, keepsForecourt_leaveListenIn s⟩⟩
  · rw [tick_net, peers_tick]
    rfl
  · obtain ⟨c, hb⟩ := Option.isSome_iff_exists.mp hb
    exact ⟨missTimer_comesAbout hb, listenTimer_comesAbout hb⟩
  · subst hp
    refine ⟨_, exec_missTimerExpiry timer, ?_, fun j hj => ?_, clash_missAtPeer i s, listen_missAtPeer i s,
      fun joined alone => missAtPeer_isolates joined alone, fun stands => missAtPeer_stands stands,
      by simp, by simp, by simp, by simp, keepsForecourt_missAtPeer i s⟩
    · rw [peers_missAtPeer, getElem_set, if_pos rfl, miss_eq low]
    · rw [peers_missAtPeer, getElem_set, if_neg hj]

end Sys2Proof.Machine.PeersAndNet
end

section
/-! BEACON_DUE and TALLY_DUE (R66, R85, R87, R88): when each comes about, and the attempt that it begins. -/

namespace Sys2Proof.Machine.PeersAndNet

open Sys2Proof Sys2Proof.Machine Sys2Proof.Machine.ServiceIntervals Sys2Proof.Machine.ShiftClock

/-! ### When they come about -/

theorem activePeers_eq (peers : Vector Peer 16) : activePeers peers = ((List.finRange 16).filter fun i =>
    decide (peers[i].state = .present) || decide (peers[i].state = .fading)).length := by
  have entries : peers.toList = (List.finRange 16).map fun i => peers[i] := by
    apply List.ext_getElem <;> simp
  rw [activePeers, entries, List.filter_map, List.length_map]
  rfl

section Due

variable {s : State} {c : ConfigBlock}

theorem beaconDue_comesAbout (hb : s.store.block = some c) : ComesAbout .beaconDue s ↔ s.radio.schedule = some 0 := by
  rw [comesAbout_station_or_schedule hb rfl rfl Instr.noConfusion, ← runOut_iff]
  simp [stationDue, schedulesDue]

/-- The gap clock has reached the gap in use: the base gap with a vehicle queued, the refresh gap without (R88). -/
theorem gapReached_iff : (s.tallyCanFallDue && s.gapReached c) = true ↔
    s.radio.dueTally = none ∧ ∃ n, s.radio.gapClock = some n ∧
      (s.radio.queue ≠ [] ∧ c.baseGap * 100 * (1 + activePeers s.net.peers) ≤ n ∨
        s.radio.queue = [] ∧ s.view.entries ≠ [] ∧ c.refreshGap * 100000 * (1 + activePeers s.net.peers) ≤ n) := by
  simp only [State.tallyCanFallDue, State.gapReached, State.tallyGap, millisecond, second]
  cases s.radio.gapClock <;> cases s.radio.queue <;> cases s.view.entries <;> simp

theorem tallyDue_comesAbout (hb : s.store.block = some c) :
    ComesAbout .tallyDue s ↔ s.radio.dueTally = none ∧ ∃ n, s.radio.gapClock = some n ∧
      (s.radio.queue ≠ [] ∧ c.baseGap * 100 * (1 + activePeers s.net.peers) ≤ n ∨
        s.radio.queue = [] ∧ s.view.entries ≠ [] ∧ c.refreshGap * 100000 * (1 + activePeers s.net.peers) ≤ n) := by
  rw [comesAbout_station_or_schedule hb rfl rfl Instr.noConfusion, ← gapReached_iff]
  simp [stationDue, schedulesDue]

end Due

/-! ### The attempt that a frame begins (R85, R89) -/

/-- The transmitter after a frame has become due: an idle one begins a quiet wait, another goes on. -/
def attempting (cd : Bool) : Transmitter → Transmitter
  | .idle => quietFrom cd none
  | tx => tx

theorem beginAccess_eq (r : RadioBlock) : beginAccess r = { r with tx := attempting r.cd r.tx } := by
  obtain ⟨queue, refresh, cw, tx⟩ := r
  cases tx <;> rfl

/-- The next beacon falls due after I × 875 to I × 1125 ms (R87). -/
theorem nextBeacon_eq (c : ConfigBlock) (s : State) :
    ∃ ms m, c.beaconInterval * 875 ≤ ms ∧ ms ≤ c.beaconInterval * 1125 ∧
    nextBeacon c s = { s with radio := { s.radio with schedule := some (ms * 100) }, model := m } := by
  have drawn := Nat.mod_lt (Config.freeDraw s.model.draws) (c.beaconInterval * 250).add_one_pos
  exact ⟨c.beaconInterval * 875 + Config.freeDraw s.model.draws % (c.beaconInterval * 250 + 1), _, by omega, by omega,
    rfl⟩

theorem exec_beaconDue {s : State} {c : ConfigBlock} {n : Nat} (hb : s.store.block = some c)
    (schedule : s.radio.schedule = some n) : exec .beaconDue s =
      .next ((nextBeacon c s).mapRadio fun r => beginAccess { r with dueBeacon := some 200000 }) := by
  have taken : execBeaconDue s =
      .next ((nextBeacon c s).mapRadio fun r => beginAccess { r with dueBeacon := some accessLimit }) := by
    simp only [execBeaconDue, hb, schedule]
  exact taken

theorem exec_tallyDue {s : State} (can : s.tallyCanFallDue = true) : exec .tallyDue s =
    .next (s.mapRadio fun r => beginAccess { r with dueTally := some 200000 }) :=
  congrArg Host.Outcome.next (if_pos can)

/-- Settles O33: the schedules at rest, when each frame falls due, and the attempt that it begins through `beginAccess`. -/
theorem framesFallDue : Obligations.FramesFallDue := by
  refine ⟨fun s rest => ⟨_, step_atRest rest, ?_, ?_⟩, fun s c active hb hactive => ?_, fun s fresh hfresh => ?_⟩
  · rw [tick_radio]
    rfl
  · rw [tick_radio]
    rfl
  · rw [← activePeers_eq] at hactive
    subst hactive
    exact ⟨beaconDue_comesAbout hb, tallyDue_comesAbout hb⟩
  · have begun : attempting s.radio.cd s.radio.tx = fresh := by
      rw [hfresh]
      cases s.radio.tx with
      | idle => cases s.radio.cd <;> rfl
      | _ => rfl
    refine ⟨fun c n hb schedule => ?_, fun n gap free work => ?_⟩
    · obtain ⟨ms, m, low, high, next⟩ := nextBeacon_eq c s
      refine ⟨_, ms, exec_beaconDue hb schedule, low, high, ?_⟩
      simp [next, beginAccess_eq, begun, KeepsForecourt]
    · have can : s.tallyCanFallDue = true := by simpa [State.tallyCanFallDue, gap, free] using work
      rw [exec_tallyDue can, State.mapRadio, beginAccess_eq]
      simp only [begun]

end Sys2Proof.Machine.PeersAndNet
end

section
/-! READ_PEERS (R73): a group of eight entries of the peer table, and the header before them. -/

namespace Sys2Proof.Machine.PeersAndNet

open Sys2Proof Sys2Proof.Machine Sys2Proof.Machine.ServiceIntervals Sys2Proof.Machine.ShiftClock

/-- The index of the i-th entry of a group: group 0 from station 1, group 1 from station 9 (R73). -/
def groupEntry (g : Fin 2) (i : Fin 8) : Fin 16 := ⟨8 * g.val + i.val, by omega⟩

theorem indexOf_groupEntry (g : Fin 2) (i : Fin 8) : indexOf 16 (8 * g.val + i.val + 1) = some (groupEntry g i) :=
  indexOf_succ (groupEntry g i)

/-- The stations of a group, in ascending number. -/
theorem stations_of_group (g : Fin 2) :
    ((List.finRange 16).filter fun j => decide (g.val * 8 < j.val + 1 ∧ j.val + 1 ≤ g.val * 8 + 8)) =
      ([0, 1, 2, 3, 4, 5, 6, 7] : List (Fin 8)).map (groupEntry g) := by
  revert g
  decide

theorem groupFields_eq (g : Fin 2) (peers : Vector Peer 16) : groupFields g peers =
    ([0, 1, 2, 3, 4, 5, 6, 7] : List (Fin 8)).flatMap fun i =>
      peerFields ((groupEntry g i).val + 1) peers[groupEntry g i] := by
  have group := stations_of_group g
  rw [groupFields, zipIdx_toList, List.filter_map, List.flatMap_map]
  simp only [Function.comp_def]
  rw [group, List.flatMap_map]

/-- Times are rounded up to whole seconds and to tenths of a second. -/
theorem ceilDiv_second (n : Nat) : ceilDiv n second = (n + 99999) / 100000 := by
  simp only [ceilDiv, second]
  omega

theorem ceilDiv_tenth (n : Nat) : ceilDiv n (second / 10) = (n + 9999) / 10000 := by
  simp only [ceilDiv, second]
  omega

/-- A peer entry's 18 bytes as fields and widths (R73). -/
theorem peerFields_eq (station : Nat) (p : Peer) : peerFields station p = fieldBytes
    [(1, station), (1, p.state.code), (1, p.bucket), (1, p.interval), (2, (p.missTimer.getD 0 + 9999) / 10000),
     (3, p.lastHeard.shift), (3, p.lastHeard.time), (2, p.frames), (2, min 65535 (p.since.getD 0 / 100000)),
     (2, p.rejoins)] := by
  rw [peerFields, ceilDiv_tenth]
  simp only [posField, ticksLeft, secondsSince, second, u16Max, fieldBytes_cons, fieldBytes_nil,
    List.append_assoc, List.append_nil]

theorem listenSeconds_eq (n : NetBlock) :
    listenSeconds n = if n.state = .listenIn then (n.listen.getD 0 + 99999) / 100000 else 0 := by
  rw [listenSeconds, ceilDiv_second, ticksLeft]

theorem exec_readPeers {s t : State} {group : Nat} {r : Result} {payload : List Byte} (h : s.canAnswer)
    (e : readPeers group s = (t, r, payload)) : exec (.readPeers group) s = .next (t.respond 0x40 r payload) :=
  congrArg Host.Outcome.next (serve_answered h e)

theorem readPeers_badGroup {group : Nat} (s : State) (bad : 2 ≤ group) : readPeers group s = (s, .badRequest, []) := by
  rw [readPeers, indexFrom0_none bad]
  rfl

theorem readPeers_group (g : Fin 2) (s : State) : readPeers g.val s = (s, .ok,
    beBytes 1 g.val ++ beBytes 1 s.net.state.code ++ beBytes 2 (listenSeconds s.net) ++
      beBytes 1 (activePeers s.net.peers) ++ groupFields g s.net.peers) := by
  rw [readPeers, indexFrom0_val]
  rfl

/-- Settles O24: a group out of range is refused, and one in range is answered on the state as it stands. -/
theorem readPeersReports : Obligations.ReadPeersReports := by
  refine ⟨rfl, fun s h => ⟨fun g bad => exec_readPeers h (readPeers_badGroup s bad), fun g => ?_⟩⟩
  rw [exec_readPeers h (readPeers_group g s)]
  simp only [indexOf_groupEntry, groupFields_eq, peerFields_eq, listenSeconds_eq, fieldBytes_append, fieldBytes_flatMap,
    fieldBytes_cons, fieldBytes_nil, List.append_nil, List.append_assoc]

end Sys2Proof.Machine.PeersAndNet
end

section
/-! STANDBY (R71, R92, R98, R174): refused while a hose is active, without effect in STANDBY, and the net left otherwise. -/

namespace Sys2Proof.Machine.PeersAndNet

open Sys2Proof Sys2Proof.Machine Sys2Proof.Machine.ServiceIntervals Sys2Proof.Machine.ShiftClock

/-! ### The hoses at STANDBY -/

/-- A hose is active in every state but IDLE and OUT_OF_SERVICE (R174). -/
theorem hosesActive_iff (s : State) : s.hosesActive = true ↔
    ∃ h : Fin 4, (s.hose h).ctl.state ≠ .idle ∧ (s.hose h).ctl.state ≠ .outOfService := by
  have hung : ∀ st : HoseState, (!st.expectsHung) = true ↔ st ≠ .idle ∧ st ≠ .outOfService := fun st => by
    cases st <;> decide
  rw [State.hosesActive, anyTable_hoses]
  exact exists_congr fun h => hung _

section Request

variable {s : State}

theorem exec_standby {t : State} {r : Result} {payload : List Byte} (h : s.canAnswer)
    (e : standby s = (t, r, payload)) : exec .standby s = .next (t.respond 0x03 r payload) :=
  congrArg Host.Outcome.next (serve_answered h e)

theorem standby_refused (active : s.hosesActive = true) : standby s = (s, .hosesActive, []) := if_pos active

theorem standby_accepted (still : s.hosesActive = false) : standby s = (standbyStation s, .ok, []) :=
  if_neg (by simp [still])

theorem standbyStation_stopped (stopped : s.net.state = .standby) : standbyStation s = s :=
  if_neg (by simp [running_false stopped])

end Request

/-! ### The net left -/

section Left

variable {s : State} (running : s.net.state ≠ .standby)

include running

theorem standbyStation_running : standbyStation s =
    (enterStandby s).mapRadio fun r => { stopTransmitter r with receiver := .hunt 0 } :=
  if_pos (running_true running)

theorem radio_standbyStation :
    (standbyStation s).radio = { stopTransmitter s.radio with receiver := .hunt 0 } := by
  rw [standbyStation_running running]
  simp

theorem raised_standbyStation : Raised .netState s (standbyStation s) := by
  have raises : enterStandby s = raise .netState _ := if_neg running
  rw [standbyStation_running running, raises]
  exact raised_raise .netState _

end Left

/-! ### What a cut-off frame puts back (R92) -/

section PutBack

variable {r : RadioBlock} {f : OnAir}

theorem putBack_fromQueue (v : Nat) (r : RadioBlock) : (putBack (.fromQueue v) r).refresh = r.refresh ∧
    (putBack (.fromQueue v) r).queue = if ∃ q ∈ r.queue, q.vehicle = v then r.queue else ⟨v, 0⟩ :: r.queue := by
  have named : queued r.queue v = true ↔ ∃ q ∈ r.queue, q.vehicle = v := by simp [queued]
  simp only [putBack, ← named]
  split <;> exact ⟨rfl, rfl⟩

/-- A transmitter stopped with a frame on air puts back what the frame asks, and otherwise nothing. -/
theorem stopTransmitter_sending (sending : r.tx = .sending f) :
    (stopTransmitter r).queue = (putBack f.kind r).queue ∧ (stopTransmitter r).refresh = (putBack f.kind r).refresh := by
  simp [stopTransmitter, sending]

theorem stopTransmitter_no_tally (none_cut : ∀ f, r.tx = .sending f → f.kind = .beacon) :
    (stopTransmitter r).queue = r.queue ∧ (stopTransmitter r).refresh = r.refresh := by
  cases tx : r.tx with
  | sending f =>
    have cut := stopTransmitter_sending tx
    rwa [none_cut f tx] at cut
  | _ => simp [stopTransmitter, tx]

end PutBack

/-- Settles O8: the refusal, STANDBY in STANDBY, and the station left: its net through `enterStandby`, its transmitter
through `stopTransmitter`. -/
theorem standbyRequest : Obligations.StandbyRequest := by
  intro s h
  refine ⟨fun active => exec_standby h (standby_refused ((hosesActive_iff s).mpr active)), fun still => ?_⟩
  have accepted : standby s = (standbyStation s, .ok, []) := standby_accepted (by
    rw [Bool.eq_false_iff, Ne, hosesActive_iff]
    exact fun ⟨k, idle, out⟩ => (still k).elim idle out)
  refine ⟨fun stopped => ?_, fun running => ⟨_, exec_standby h accepted, ?_⟩⟩
  · rw [exec_standby h accepted, standbyStation_stopped stopped]
  have radio : ((standbyStation s).respond 0x03 .ok []).radio = { stopTransmitter s.radio with receiver := .hunt 0 } :=
    radio_standbyStation running
  rw [radio]
  refine ⟨net_standbyStation (running_true running), raised_standbyStation running, rfl, rfl, rfl, rfl, rfl, rfl, rfl,
    stopTransmitter_no_tally, fun f v sending kind => ?_, fun f v pointer sending kind => ?_, by simp, by simp, by simp,
    by simp, by simp [KeepsForecourt], by simp⟩
  · obtain ⟨queue, refresh⟩ := stopTransmitter_sending sending
    rw [queue, refresh, kind]
    exact putBack_fromQueue v s.radio
  · obtain ⟨queue, refresh⟩ := stopTransmitter_sending sending
    rw [queue, refresh, kind]
    exact ⟨rfl, rfl⟩

end Sys2Proof.Machine.PeersAndNet
end

-- Proofs of the family 05_pit_net_framing_and_channel_access: what every step keeps of the radio, channel access, and
-- the frames of the pit net from the encoder to the receiver.

section
/-! Proofs of the family 05_pit_net_framing_and_channel_access. The radio block by itself: when its send queue, its
contention window and its frame on air are in order, and which operations of chapter 5 keep them so. -/

namespace Sys2Proof.Machine.PitNet

open Sys2Proof Sys2Proof.Machine Sys2Proof.Machine.ServiceIntervals Sys2Proof.Machine.ShiftClock
  Sys2Proof.Machine.PeersAndNet

/-! ### The soundness of the radio, in parts -/

/-- A vehicle may stand in the send queue: it has an entry, and its cover count is below the threshold (R93, R95). -/
def ItemSound (s : State) (q : QueueItem) : Prop :=
  s.hasEntry q.vehicle ∧ ∃ c, s.store.block = some c ∧ q.cover < c.suppression

/-- A send queue that names each vehicle once, each soundly (R93). -/
def QueueSound (s : State) (q : List QueueItem) : Prop := (q.map (·.vehicle)).Nodup ∧ ∀ x ∈ q, ItemSound s x

/-- A tally on air names a vehicle with an entry. -/
def OnAirSound (s : State) (tx : Transmitter) : Prop :=
  ∀ f, tx = .sending f → ∀ v, f.kind.vehicle = some v → s.hasEntry v

/-- A radio block in order over the view and the configuration of a state, in any net state. -/
structure RadioFits (s : State) (r : RadioBlock) : Prop where
  queue : QueueSound s r.queue
  cw    : r.cw ∈ [16, 32, 64, 128, 256]
  onAir : OnAirSound s r.tx

/-- A radio block with nothing on air, due or scheduled, as STANDBY has it (R92). -/
structure Stopped (r : RadioBlock) : Prop where
  tx        : r.tx = .idle
  dueBeacon : r.dueBeacon = none
  dueTally  : r.dueTally = none
  schedule  : r.schedule = none
  gapClock  : r.gapClock = none

theorem radioSound_iff (s : State) :
    RadioSound s ↔ RadioFits s s.radio ∧ (s.net.state = .standby → Stopped s.radio) := by
  constructor
  · rintro ⟨once, items, cw, onAir, stopped⟩
    refine ⟨⟨⟨once, items⟩, cw, onAir⟩, fun standby => ?_⟩
    obtain ⟨tx, dueBeacon, dueTally, schedule, gapClock⟩ := stopped standby
    exact ⟨tx, dueBeacon, dueTally, schedule, gapClock⟩
  · rintro ⟨⟨⟨once, items⟩, cw, onAir⟩, stopped⟩
    refine ⟨once, items, cw, onAir, fun standby => ?_⟩
    obtain ⟨tx, dueBeacon, dueTally, schedule, gapClock⟩ := stopped standby
    exact ⟨tx, dueBeacon, dueTally, schedule, gapClock⟩

/-- The configuration in force has room for a vehicle with cover count 0. -/
def CoverRoom (s : State) : Prop := ∃ c, s.store.block = some c ∧ 0 < c.suppression

theorem coverRoom_of_block {s : State} {c : ConfigBlock} (sound : ConfigSound s) (hb : s.store.block = some c) :
    CoverRoom s := by
  obtain ⟨-, -, -, -, -, -, -, -, -, -, -, -, -, -, -, -, -, -, -, -, -, -, -, -, -, -, -, -, -, -, -, -,
    suppression, -⟩ := sound.1 c hb
  exact ⟨c, hb, suppression.1⟩

theorem coverRoom_of_running {s : State} (sound : ConfigSound s) (running : s.running = true) : CoverRoom s :=
  have ⟨_, hb⟩ := Option.isSome_iff_exists.mp (sound.2.1 running)
  coverRoom_of_block sound hb

/-! ### The send queue (R93 to R95) -/

section Queue

variable {s : State} {q : List QueueItem} {v : Nat}

theorem itemSound_fresh (room : CoverRoom s) (entry : s.hasEntry v) : ItemSound s ⟨v, 0⟩ := ⟨entry, room⟩

theorem not_mem_vehicles (absent : queued q v = false) : v ∉ q.map (·.vehicle) := by
  intro h
  obtain ⟨x, hx, rfl⟩ := List.mem_map.mp h
  exact Bool.false_ne_true (absent.symm.trans (List.any_eq_true.mpr ⟨x, hx, beq_self_eq_true _⟩))

/-- A new cover count leaves the vehicles of a queue. -/
theorem vehicles_recounted (v : Nat) (count : Nat → Nat) (q : List QueueItem) :
    (q.map fun x => if x.vehicle = v then { x with cover := count x.cover } else x).map (·.vehicle) =
      q.map (·.vehicle) := by
  rw [List.map_map]
  refine List.map_congr_left fun x _ => ?_
  simp only [Function.comp]
  split <;> rfl

/-- A changed vehicle keeps its place with cover count 0, or joins the tail (R94). -/
theorem queueSound_changed (room : CoverRoom s) (entry : s.hasEntry v) (sound : QueueSound s q) :
    QueueSound s (queueChanged v q) := by
  obtain ⟨once, items⟩ := sound
  unfold queueChanged
  split
  · refine ⟨(vehicles_recounted v (fun _ => 0) q).symm ▸ once, fun y hy => ?_⟩
    obtain ⟨x, hx, rfl⟩ := List.mem_map.mp hy
    split
    · exact ⟨(items x hx).1, room⟩
    · exact items x hx
  · next absent =>
    have new := not_mem_vehicles (Bool.eq_false_iff.mpr absent)
    refine ⟨?_, fun x hx => ?_⟩
    · rw [List.map_append, List.nodup_append]
      refine ⟨once, List.nodup_singleton v, fun a ha b hb => ?_⟩
      rw [List.mem_singleton.mp hb]
      rintro rfl
      exact new ha
    · rcases List.mem_append.mp hx with h | h
      · exact items x h
      · rw [List.mem_singleton.mp h]
        exact itemSound_fresh room entry

/-- A covered vehicle counts one more, and leaves at the threshold (R95). -/
theorem queueSound_covered {c : ConfigBlock} (hb : s.store.block = some c) (sound : QueueSound s q) :
    QueueSound s (queueCovered c.suppression v q) := by
  obtain ⟨once, items⟩ := sound
  refine ⟨((vehicles_recounted v (· + 1) q).symm ▸ once).sublist (List.filter_sublist.map _), fun y hy => ?_⟩
  obtain ⟨counted, stays⟩ := List.mem_filter.mp hy
  obtain ⟨x, hx, rfl⟩ := List.mem_map.mp counted
  split at stays
  · next own =>
    rw [if_pos own]
    have below : x.cover + 1 < c.suppression := by simpa [own] using stays
    exact ⟨(items x hx).1, c, hb, below⟩
  · next other =>
    rw [if_neg other]
    exact items x hx

theorem queueSound_tail {x : QueueItem} (sound : QueueSound s (x :: q)) : QueueSound s q :=
  ⟨(List.nodup_cons.mp sound.1).2, fun y hy => sound.2 y (List.mem_cons_of_mem x hy)⟩

end Queue

/-! ### The transmitter -/

section Transmitter

variable {s : State} {r : RadioBlock}

theorem onAirSound_silent {tx : Transmitter} (silent : tx.key = false) : OnAirSound s tx := by
  rintro f rfl
  cases silent

/-- Only the transmitter moves, to no new frame on air, and the contention window within its values. -/
theorem RadioFits.move {r' : RadioBlock} (fits : RadioFits s r) (queue : r'.queue = r.queue)
    (cw : r'.cw = r.cw ∨ r'.cw ∈ [16, 32, 64, 128, 256]) (tx : r'.tx = r.tx ∨ r'.tx.key = false) : RadioFits s r' := by
  refine ⟨queue ▸ fits.queue, ?_, ?_⟩
  · exact cw.elim (fun e => e ▸ fits.cw) id
  · exact tx.elim (fun e => e ▸ fits.onAir) onAirSound_silent

theorem radioFits_nextAttempt (fits : RadioFits s r) : RadioFits s (nextAttempt r) := by
  refine fits.move rfl (.inl rfl) (.inr ?_)
  unfold nextAttempt
  split <;> rfl

theorem radioFits_beginAccess (fits : RadioFits s r) : RadioFits s (beginAccess r) := by
  rw [beginAccess_eq]
  refine fits.move rfl (.inl rfl) ?_
  cases htx : r.tx with
  | idle => exact .inr rfl
  | _ => exact .inl rfl

/-- CW doubles within its values (R90). -/
theorem radioFits_carrierRise (fits : RadioFits s r) : RadioFits s (carrierRise r) := by
  have doubled : min cwHigh (2 * r.cw) ∈ [16, 32, 64, 128, 256] := by
    have values : ∀ n ∈ [16, 32, 64, 128, 256], min cwHigh (2 * n) ∈ [16, 32, 64, 128, 256] := by decide
    exact values _ fits.cw
  unfold carrierRise
  split
  · exact fits.move rfl (.inr doubled) (.inr rfl)
  · exact fits.move rfl (.inl rfl) (.inr rfl)
  · exact fits.move rfl (.inl rfl) (.inl rfl)

theorem radioFits_carrierFall (fits : RadioFits s r) : RadioFits s (carrierFall r) := by
  unfold carrierFall
  split
  · exact fits.move rfl (.inl rfl) (.inr rfl)
  · exact fits.move rfl (.inl rfl) (.inl rfl)

theorem radioFits_abandon (frame : DueFrame) (fits : RadioFits s r) : RadioFits s (afterAbandon (abandon frame r)) := by
  have abandoned : RadioFits s (abandon frame r) := by
    cases frame <;> exact fits.move rfl (.inl rfl) (.inl rfl)
  unfold afterAbandon
  split
  · exact abandoned
  · exact abandoned.move rfl (.inl rfl) (.inr rfl)

/-- A frame goes on air: it fits when its vehicle has an entry (R86). -/
theorem radioFits_putOnAir {kind : OnAirKind} (body : List Byte) (queue : QueueSound s r.queue)
    (entry : ∀ v, kind.vehicle = some v → s.hasEntry v) : RadioFits s (putOnAir kind body r) := by
  refine ⟨queue, List.mem_cons_self, ?_⟩
  rintro f sent v hv
  cases sent
  exact entry v hv

/-- A tally cut off returns to the head of the queue with cover count 0, unless its vehicle is queued (R92). -/
theorem queueSound_putBack {kind : OnAirKind} (room : CoverRoom s) (queue : QueueSound s r.queue)
    (entry : ∀ v, kind.vehicle = some v → s.hasEntry v) : QueueSound s (putBack kind r).queue := by
  cases kind with
  | beacon => exact queue
  | refresh v pointer => exact queue
  | fromQueue v =>
    simp only [putBack]
    split
    · exact queue
    · next absent =>
      refine ⟨List.nodup_cons.mpr ⟨not_mem_vehicles (Bool.eq_false_iff.mpr absent), queue.1⟩, fun x hx => ?_⟩
      rcases List.mem_cons.mp hx with rfl | h
      · exact itemSound_fresh room (entry v rfl)
      · exact queue.2 x h

theorem stopped_stopTransmitter (r : RadioBlock) : Stopped (stopTransmitter r) := ⟨rfl, rfl, rfl, rfl, rfl⟩

theorem radioFits_stopTransmitter (room : CoverRoom s) (fits : RadioFits s r) : RadioFits s (stopTransmitter r) := by
  refine ⟨?_, List.mem_cons_self, onAirSound_silent rfl⟩
  cases tx : r.tx with
  | sending f =>
    rw [(stopTransmitter_sending tx).1]
    exact queueSound_putBack room fits.queue (fits.onAir f tx)
  | _ =>
    rw [(stopTransmitter_no_tally (by simp [tx])).1]
    exact fits.queue

theorem radioFits_tick (fits : RadioFits s r) : RadioFits s r.tick := by
  refine ⟨fits.queue, fits.cw, ?_⟩
  cases tx : r.tx with
  | sending f =>
    rintro g sent v hv
    have ticked : r.tick.tx = .sending { f with elapsed := f.elapsed + 1 } := by
      simp [RadioBlock.tick, tx, Transmitter.tick]
    rw [ticked] at sent
    cases sent
    exact fits.onAir f tx v hv
  | _ => exact onAirSound_silent (by simp [RadioBlock.tick, tx, Transmitter.tick, Transmitter.key])

theorem stopped_tick (stopped : Stopped r) : Stopped r.tick := by
  obtain ⟨tx, dueBeacon, dueTally, schedule, gapClock⟩ := stopped
  constructor <;> simp [RadioBlock.tick, Transmitter.tick, countDown, countUp, *]

end Transmitter

end Sys2Proof.Machine.PitNet
end

section
/-! What the soundness of the radio rests on, and the operations that change a vehicle or take a frame: each leaves the
radio sound (R20, R84, R94, R95). -/

namespace Sys2Proof.Machine.PitNet

open Sys2Proof Sys2Proof.Machine Sys2Proof.Machine.ServiceIntervals Sys2Proof.Machine.ShiftClock
  Sys2Proof.Machine.PeersAndNet

/-! ### What the soundness of the radio rests on -/

/-- What the radio rests on stands: the configuration in force, an entry for each vehicle that had one, and STANDBY is
not entered. -/
structure KeepsGround (s t : State) : Prop where
  block   : t.store.block = s.store.block
  entries : ∀ v, s.hasEntry v → t.hasEntry v
  standby : t.net.state = .standby → s.net.state = .standby

/-- So does the radio itself. -/
structure KeepsRadio (s t : State) : Prop extends KeepsGround s t where
  radio : t.radio = s.radio

theorem KeepsGround.refl (s : State) : KeepsGround s s := ⟨rfl, fun _ => id, id⟩

theorem KeepsRadio.refl (s : State) : KeepsRadio s s := ⟨.refl s, rfl⟩

theorem KeepsRadio.trans {s t u : State} (a : KeepsRadio s t) (b : KeepsRadio t u) : KeepsRadio s u :=
  ⟨⟨b.block.trans a.block, fun v h => b.entries v (a.entries v h), a.standby ∘ b.standby⟩, b.radio.trans a.radio⟩

theorem KeepsRadio.of_frame {s t : State} (h : t.store.block = s.store.block ∧ t.view.entries = s.view.entries ∧
    t.net.state = s.net.state ∧ t.radio = s.radio) : KeepsRadio s t := by
  obtain ⟨block, entries, net, radio⟩ := h
  exact ⟨⟨block, fun v => by rw [State.hasEntry, State.hasEntry, entries]; exact id, net ▸ id⟩, radio⟩

theorem keepsRadio_ite {p : Prop} [Decidable p] {s t u : State} (ht : KeepsRadio s t) (hu : KeepsRadio s u) :
    KeepsRadio s (if p then t else u) := by
  split
  · exact ht
  · exact hu

/-- An operation that leaves every entry but for its origin list leaves every vehicle its entry. -/
theorem hasEntry_of_ranks {s t : State} (ranks : t.view.entries.map unissued = s.view.entries.map unissued) {v : Nat}
    (h : s.hasEntry v) : t.hasEntry v := by
  obtain ⟨e, he, hv⟩ := h
  obtain ⟨x, hx, same⟩ := List.mem_map.mp (ranks ▸ List.mem_map_of_mem he)
  exact ⟨x, hx, (congrArg VehicleEntry.number same).trans hv⟩

/-- Such an operation leaves the radio what it rests on. -/
theorem KeepsRadio.of_quiet {s t : State} (q : Quiet s t) (net : t.net.state = s.net.state)
    (radio : t.radio = s.radio) : KeepsRadio s t :=
  ⟨⟨q.block, fun _ => hasEntry_of_ranks q.ranks, net ▸ id⟩, radio⟩

theorem hasEntry_iff (s : State) (v : Nat) : s.hasEntry v ↔ ∃ e, s.entry v = some e := by
  unfold State.entry findEntry
  constructor
  · rintro ⟨e, he, hv⟩
    exact Option.isSome_iff_exists.mp (List.find?_isSome.mpr ⟨e, he, by simp [hv]⟩)
  · rintro ⟨e, he⟩
    exact ⟨e, List.mem_of_find?_eq_some he, by simpa using List.find?_some he⟩

theorem QueueSound.of_ground {s t : State} {q : List QueueItem} (sound : QueueSound s q) (g : KeepsGround s t) :
    QueueSound t q :=
  ⟨sound.1, fun x hx => ⟨g.entries _ (sound.2 x hx).1, g.block ▸ (sound.2 x hx).2⟩⟩

theorem RadioFits.of_ground {s t : State} {r : RadioBlock} (fits : RadioFits s r) (g : KeepsGround s t) :
    RadioFits t r :=
  ⟨fits.queue.of_ground g, fits.cw, fun f sent v hv => g.entries v (fits.onAir f sent v hv)⟩

theorem CoverRoom.of_ground {s t : State} (room : CoverRoom s) (g : KeepsGround s t) : CoverRoom t := by
  rwa [CoverRoom, g.block]

/-- A radio rewritten over standing ground is sound when it fits, and is stopped where it was. -/
theorem radioSound_of_ground {s t : State} (sound : RadioSound s) (g : KeepsGround s t)
    (fits : RadioFits s s.radio → RadioFits s t.radio) (stopped : Stopped s.radio → Stopped t.radio) :
    RadioSound t := by
  rw [radioSound_iff] at sound ⊢
  exact ⟨(fits sound.1).of_ground g, fun standby => stopped (sound.2 (g.standby standby))⟩

theorem radioSound_of_keeps {s t : State} (sound : RadioSound s) (k : KeepsRadio s t) : RadioSound t :=
  radioSound_of_ground sound k.toKeepsGround (k.radio ▸ id) (k.radio ▸ id)

theorem radioSound_mapRadio {s : State} {f : RadioBlock → RadioBlock} (sound : RadioSound s)
    (fits : RadioFits s s.radio → RadioFits s (f s.radio)) (stopped : Stopped s.radio → Stopped (f s.radio)) :
    RadioSound (s.mapRadio f) :=
  radioSound_of_ground sound ⟨rfl, fun _ => id, id⟩ fits stopped

/-- The send queue alone rewritten, soundly. -/
theorem radioSound_withQueue {s : State} {q : List QueueItem} (sound : RadioSound s)
    (queue : QueueSound s s.radio.queue → QueueSound s q) :
    RadioSound { s with radio := { s.radio with queue := q } } :=
  radioSound_mapRadio (f := fun r => { r with queue := q }) sound (fun fits => ⟨queue fits.queue, fits.cw, fits.onAir⟩)
    fun stopped => ⟨stopped.tx, stopped.dueBeacon, stopped.dueTally, stopped.schedule, stopped.gapClock⟩

/-! ### Changes of a vehicle -/

section Changes

variable {s : State} {c : ConfigBlock} {e : VehicleEntry}

/-- A vehicle keeps its entry when another's is stored, or its own. -/
theorem keepsRadio_storeEntry : KeepsRadio s (storeEntry c e s) := by
  refine ⟨⟨by simp, fun v h => ?_, by simp⟩, by simp⟩
  rw [hasEntry_iff] at h ⊢
  rw [entry_storeEntry]
  split
  · exact ⟨_, rfl⟩
  · exact h

theorem hasEntry_storeEntry : (storeEntry c e s).hasEntry e.number := by
  rw [hasEntry_iff, entry_storeEntry, if_pos rfl]
  exact ⟨_, rfl⟩

theorem radioSound_vehicleChanged {v : Nat} (room : CoverRoom s) (entry : s.hasEntry v) (sound : RadioSound s) :
    RadioSound (vehicleChanged v s) :=
  radioSound_withQueue sound (queueSound_changed room entry)

theorem radioSound_changeEntry (room : CoverRoom s) (sound : RadioSound s) : RadioSound (changeEntry c e s) :=
  have stored := keepsRadio_storeEntry (s := s) (c := c) (e := e)
  radioSound_vehicleChanged (room.of_ground stored.toKeepsGround) hasEntry_storeEntry (radioSound_of_keeps sound stored)

theorem radioSound_charge (v delivered : Nat) (room : CoverRoom s) (sound : RadioSound s) :
    RadioSound (charge c v delivered s) := by
  unfold charge
  split
  · exact sound
  · split
    · exact sound
    · split
      · exact radioSound_changeEntry room sound
      · split
        · exact radioSound_changeEntry room sound
        · exact radioSound_of_keeps sound (.of_frame ⟨rfl, rfl, rfl, rfl⟩)

/-- Of a completion the charge alone touches the radio (R140). -/
theorem radioSound_complete (h : Fin 4) (x : IssueContext) (room : CoverRoom s) (sound : RadioSound s) :
    RadioSound (complete c h x s) := by
  have ended : KeepsRadio s (enterEnded c h x.limit s) := .of_frame (by simp)
  have charged := radioSound_charge (c := c) x.vehicle ((enterEnded c h x.limit s).hose h).meter.delivered
    (room.of_ground ended.toKeepsGround) (radioSound_of_keeps sound ended)
  exact radioSound_of_keeps charged (.of_frame (by simp [complete]))

theorem radioSound_acceptPresentation (h : Fin 4) (p : Presentation) (k : PresentCheck) (room : CoverRoom s)
    (sound : RadioSound s) : RadioSound (acceptPresentation c h p e k s) := by
  have stored : RadioSound (storePresented c p e s) := by
    simp only [storePresented]
    split
    · exact radioSound_changeEntry room sound
    · exact sound
  exact radioSound_of_keeps stored (.of_frame (by simp [acceptPresentation]))

theorem radioSound_setBar (b : Bool) (room : CoverRoom s) (sound : RadioSound s) : RadioSound (setBar c b e s) := by
  have barred := radioSound_changeEntry (c := c) (e := { e with bar := ⟨b, e.bar.version + 1, c.station⟩ }) room sound
  simp only [setBar]
  split
  · exact radioSound_of_keeps barred (.of_frame (by simp))
  · exact barred

/-! ### Frames received -/

theorem radioSound_countDrop (cause : DropCause) (sound : RadioSound s) : RadioSound (countDrop cause s) := by
  have counted : ∀ badCrc malformed,
      RadioSound (s.mapRadio fun r => { r with badCrc := badCrc, malformed := malformed }) := fun _ _ =>
    radioSound_mapRadio sound (·.move rfl (.inl rfl) (.inl rfl))
      (fun stopped => ⟨stopped.tx, stopped.dueBeacon, stopped.dueTally, stopped.schedule, stopped.gapClock⟩)
  cases cause <;> exact counted _ _

theorem keepsRadio_takeBeacon (i : Fin 16) (p : ClockPos) (n : Nat) : KeepsRadio s (takeBeacon c i p n s) := by
  refine ⟨⟨by simp, fun _ => hasEntry_of_ranks (quiet_takeBeacon c i p n s).ranks, ?_⟩, by simp⟩
  unfold takeBeacon
  split
  · exact id
  · unfold beaconAtPeer
    simp only
    split <;> simp

theorem radioSound_mergeReport {v : Nat} {changed covered : Bool} (sound : RadioSound s) (room : CoverRoom s)
    (hb : s.store.block = some c) (entry : changed = true → s.hasEntry v) :
    RadioSound (mergeReport c v changed covered s) := by
  unfold mergeReport
  split
  · next h => exact radioSound_vehicleChanged room (entry h) sound
  · split
    · exact radioSound_withQueue sound (queueSound_covered hb)
    · exact sound

theorem number_mergeTally (shift : Nat) (f : TallyFrame) (created : Bool) (e : VehicleEntry) :
    (mergeTally shift f created e).entry.number = e.number := by
  have merged := congrArg VehicleEntry.number (unissued_mergeOrigins f.origins ⟨e, created, 0⟩)
  simp only [mergeTally]
  split
  · exact merged
  · rfl

/-- A tally merged into the view reports a vehicle that has its entry (R20, R95). -/
theorem radioSound_mergeIntoView {cls : Fin 8} {f : TallyFrame} (sound : RadioSound s) (room : CoverRoom s)
    (hb : s.store.block = some c) : RadioSound (mergeIntoView c cls f s) := by
  have number : (mergeTally s.clock.pos.shift f (s.entry f.vehicle).isNone (s.entryOrNew f.vehicle cls)).entry.number =
      f.vehicle := (number_mergeTally _ _ _ _).trans (number_entryOrNew s f.vehicle cls)
  unfold mergeIntoView
  extract_lets old m stale view s1 s2 s3
  have stored : KeepsRadio s s2 := by
    have counted : KeepsRadio s s1 := .of_frame ⟨rfl, rfl, rfl, rfl⟩
    exact keepsRadio_ite (counted.trans keepsRadio_storeEntry) counted
  have acted : KeepsRadio s2 s3 := keepsRadio_ite (.of_frame (by simp)) (.refl s2)
  have ground := (stored.trans acted).toKeepsGround
  refine radioSound_mergeReport (radioSound_of_keeps sound (stored.trans acted)) (room.of_ground ground)
    (ground.block.trans hb) fun changed => acted.entries _ ?_
  have own : s2 = storeEntry c m.entry s1 := if_pos changed
  rw [own, ← number]
  exact hasEntry_storeEntry

theorem radioSound_takeTally (i : Fin 16) (f : TallyFrame) (sound : RadioSound s) (room : CoverRoom s)
    (hb : s.store.block = some c) : RadioSound (takeTally c i f s) := by
  have examined : KeepsRadio s (tallyAtClock c f.shift s) :=
    .of_quiet (quiet_tallyAtClock c f.shift s) (by simp) (by simp)
  have clocked := radioSound_of_keeps sound examined
  have viewed : RadioSound (tallyAtView c f (tallyAtClock c f.shift s)) := by
    unfold tallyAtView
    split
    · exact radioSound_of_keeps clocked (.of_frame ⟨rfl, rfl, rfl, rfl⟩)
    · split
      · exact radioSound_of_keeps clocked (.of_frame (by simp))
      · exact radioSound_mergeIntoView clocked (room.of_ground examined.toKeepsGround) (examined.block.trans hb)
  simp only [takeTally]
  split
  · exact viewed
  · exact radioSound_of_keeps viewed (.of_frame (by simp))

end Changes

end Sys2Proof.Machine.PitNet
end

section
/-! The radio through every command and every step (R85, R90, R92 to R95, R98). -/

namespace Sys2Proof.Machine.PitNet

open Sys2Proof Sys2Proof.Machine Sys2Proof.Machine.ServiceIntervals Sys2Proof.Machine.ShiftClock
  Sys2Proof.Machine.PeersAndNet

/-! ### Commands that leave the radio -/

theorem KeepsRadio.serve {kind : Nat} {s : State} {request : State → Reply} (k : KeepsRadio s (request s).1) :
    KeepsRadio s (serve kind s request) := by
  rcases Nat.lt_or_ge s.link.responses.length responseRoom with room | full
  · rw [serve_taken _ _ _ room]
    exact k.trans (.of_frame ⟨rfl, rfl, rfl, rfl⟩)
  · rw [serve_discarded _ _ _ full]
    exact .of_frame ⟨rfl, rfl, rfl, rfl⟩

theorem keepsRadio_missAtPeer (i : Fin 16) (s : State) : KeepsRadio s (missAtPeer i s) := by
  refine ⟨⟨by simp, fun v => by simp [State.hasEntry], ?_⟩, by simp⟩
  simp only [missAtPeer]
  split <;> simp

theorem keepsRadio_leaveListenIn (s : State) : KeepsRadio s (leaveListenIn s) := by
  refine ⟨⟨by simp, fun v => by simp [State.hasEntry], fun standby => ?_⟩, by simp⟩
  have left : (leaveListenIn s).net.state ≠ .standby := by
    rw [net_leaveListenIn]
    dsimp only
    split <;> exact NetState.noConfusion
  exact absurd standby left

/-- The commands that may move the radio, the entries of the view or the configuration. -/
def movesRadio : Instr → Bool
  | .powerOn => true
  | .loadConfig _ _ => true
  | .start _ _ => true
  | .standby => true
  | .restart => true
  | .presentVehicle _ _ _ _ _ _ => true
  | .barVehicle _ => true
  | .clearBar _ => true
  | .recordService _ _ _ _ _ => true
  | .tally _ _ => true
  | .beacon _ _ _ => true
  | .radioFrameDrop _ => true
  | .beaconDue => true
  | .tallyDue => true
  | .quietTimePassed => true
  | .backoffSlotEnd => true
  | .carrierDetectRise => true
  | .carrierDetectFall => true
  | .accessLimitExpiry _ => true
  | .transmissionEnd => true
  | .overrunWindowExpiry _ => true
  | _ => false

/-- Every other command leaves them. -/
theorem exec_keepsRadio {i : Instr} {s t : State} (hi : movesRadio i = false) (h : exec i s = .next t) :
    KeepsRadio s t := by
  have still : KeepsRadio s s := .refl s
  cases i with
  | powerOn | loadConfig _ _ | start _ _ | standby | restart | presentVehicle _ _ _ _ _ _ | barVehicle _ | clearBar _
  | recordService _ _ _ _ _ | tally _ _ | beacon _ _ _ | radioFrameDrop _ | beaconDue | tallyDue | quietTimePassed
  | backoffSlotEnd | carrierDetectRise | carrierDetectFall | accessLimitExpiry _ | transmissionEnd
  | overrunWindowExpiry _ => cases hi
  | readStatus | readWatchList | unknownRequestKind _ => rw [← next_inj h]; exact KeepsRadio.serve still
  | readHose _ => rw [← next_inj h]; exact KeepsRadio.serve (by rwa [fst_readHose])
  | readVehicle _ => rw [← next_inj h]; exact KeepsRadio.serve (by rwa [fst_readVehicle])
  | readOldest => rw [← next_inj h]; exact KeepsRadio.serve (by rwa [fst_readOldest])
  | readPeers _ => rw [← next_inj h]; exact KeepsRadio.serve (by rwa [fst_readPeers])
  | readNotices => rw [← next_inj h]; exact KeepsRadio.serve (.of_frame (by simp [readNotices, accept]))
  | stopHose hose =>
    rw [← next_inj h]
    exact KeepsRadio.serve (.of_frame (by rcases stopHose_cases hose s with e | ⟨c, k, e⟩ <;> simp [e]))
  | clearHoseFault hose =>
    rw [← next_inj h]
    exact KeepsRadio.serve (.of_frame (by rcases clearHoseFault_cases hose s with e | ⟨k, e⟩ <;> simp [e]))
  | stageAllowance cls litres =>
    rw [← next_inj h]
    exact KeepsRadio.serve (.of_frame (by rcases stageAllowance_cases cls litres s with e | ⟨k, e⟩ <;> simp [e]))
  | clearStaged cls =>
    rw [← next_inj h]
    exact KeepsRadio.serve (.of_frame (by rcases clearStaged_cases cls s with e | ⟨k, e⟩ <;> simp [e]))
  | releaseRecord n =>
    rw [← next_inj h]
    exact KeepsRadio.serve (.of_frame (by rcases releaseRecord_cases n s with e | ⟨rest, e⟩ <;> simp [e]))
  | ackNotice n =>
    rw [← next_inj h]
    exact KeepsRadio.serve (.of_frame (by rcases ackNotice_cases n s with e | ⟨k, e⟩ <;> simp [e]))
  | setNoticeEnables m =>
    rw [← next_inj h]
    exact KeepsRadio.serve (.of_frame (by rcases setNoticeEnables_cases m s with e | e <;> simp [e]))
  | linkFrameDiscard _ | responseSentWhole => rw [← next_inj h]; exact .of_frame ⟨rfl, rfl, rfl, rfl⟩
  | responseBacklogDiscard => rw [← next_inj h]; exact keepsRadio_ite (.of_frame (by simp)) still
  | shiftClockSecond =>
    rcases execShiftClockSecond_cases h with rfl | ⟨c, -, rfl⟩
    · exact still
    · exact .of_quiet (quiet_countSecond c s) (by simp) (by simp)
  | missTimerExpiry _ =>
    rcases execMissTimerExpiry_cases h with rfl | ⟨k, rfl⟩
    · exact still
    · exact keepsRadio_missAtPeer k s
  | listenTimerExpiry => rw [← next_inj h]; exact keepsRadio_ite (keepsRadio_leaveListenIn s) still
  | nozzleChange _ _ => rcases execNozzleChange_cases h with rfl | ⟨c, k, rfl⟩ <;> exact .of_frame (by simp)
  | stopLineChange _ => rcases execStopLineChange_cases h with rfl | ⟨c, rfl⟩ <;> exact .of_frame (by simp)
  | meterPulse _ _ => rcases execMeterPulse_cases h with rfl | ⟨c, k, rfl⟩ <;> exact .of_frame (by simp)
  | authTimerExpiry _ => rcases execAuthTimerExpiry_cases h with rfl | ⟨k, rfl⟩ <;> exact .of_frame (by simp)
  | primeWaitExpiry _ => rcases execPrimeWaitExpiry_cases h with rfl | ⟨c, k, x, rfl⟩ <;> exact .of_frame (by simp)
  | startTimerExpiry _ => rcases execStartTimerExpiry_cases h with rfl | ⟨c, k, rfl⟩ <;> exact .of_frame (by simp)
  | noFlowTimerExpiry _ => rcases execNoFlowTimerExpiry_cases h with rfl | ⟨c, k, rfl⟩ <;> exact .of_frame (by simp)
  | settleTimerExpiry _ => rcases execSettleTimerExpiry_cases h with rfl | ⟨k, f, rfl⟩ <;> exact .of_frame (by simp)
  | creepQuietTimerExpiry _ =>
    rcases execCreepQuietTimerExpiry_cases h with rfl | ⟨k, f, rfl⟩ <;> exact .of_frame (by simp)

/-! ### Requests -/

section Requests

variable {s : State}

theorem radioSound_serve {kind : Nat} {request : State → Reply} (sound : RadioSound s)
    (h : RadioSound (request s).1) : RadioSound (serve kind s request) := by
  rcases Nat.lt_or_ge s.link.responses.length responseRoom with room | full
  · rw [serve_taken _ _ _ room]
    exact radioSound_of_keeps h (.of_frame ⟨rfl, rfl, rfl, rfl⟩)
  · rw [serve_discarded _ _ _ full]
    exact radioSound_of_keeps sound (.of_frame ⟨rfl, rfl, rfl, rfl⟩)

theorem radioSound_powerOn (s : State) : RadioSound (powerOn s) := by
  rw [radioSound_iff]
  refine ⟨⟨⟨List.nodup_nil, fun _ h => by cases h⟩, List.mem_cons_self, onAirSound_silent rfl⟩,
    fun _ => ⟨rfl, rfl, rfl, rfl, rfl⟩⟩

theorem radio_installConfig (c : ConfigBlock) (s : State) :
    (installConfig c s).radio = { s.radio with queue := [], refresh := 0 } := by
  simp [installConfig, emptyView, eachHose]

/-- LOAD_CONFIG installs a configuration in STANDBY alone, with the queue emptied and nothing on air (R172). -/
theorem radioSound_loadConfig (part : Nat) (bytes : List Byte) (sound : RadioSound s) :
    RadioSound (loadConfig part bytes s).1 := by
  rcases partsTaken_loadConfig part bytes s with ⟨store, block, e⟩ | ⟨p1, p2, stopped, -, e⟩ <;> rw [e]
  · exact radioSound_of_keeps sound (.of_frame ⟨block, rfl, rfl, rfl⟩)
  · rw [radioSound_iff] at sound ⊢
    have standby : s.net.state = .standby := by simpa [State.running] using stopped
    obtain ⟨tx, dueBeacon, dueTally, schedule, gapClock⟩ := sound.2 standby
    rw [radio_installConfig]
    exact ⟨⟨⟨List.nodup_nil, fun _ h => by cases h⟩, sound.1.cw, onAirSound_silent (by simp [tx, Transmitter.key])⟩,
      fun _ => ⟨tx, dueBeacon, dueTally, schedule, gapClock⟩⟩

theorem radioSound_start (shift time : Nat) (sound : RadioSound s) : RadioSound (start shift time s).1 := by
  rcases start_cases shift time s with e | ⟨c, -, -, -, e⟩ <;> rw [e]
  · exact sound
  have running : (startStation c ⟨shift, time⟩ s).net.state ≠ .standby := by
    rw [net_startStation, net_startedStation]
    exact NetState.noConfusion
  have quiet := quiet_startStation c ⟨shift, time⟩ s
  have ground : KeepsGround s (startStation c ⟨shift, time⟩ s) :=
    ⟨quiet.block, fun _ => hasEntry_of_ranks quiet.ranks, fun standby => absurd standby running⟩
  rw [radioSound_iff] at sound ⊢
  refine ⟨.of_ground ?_ ground, fun standby => absurd standby running⟩
  rw [radio_startStation, radio_startedStation]
  exact sound.1.move rfl (.inr List.mem_cons_self) (.inr rfl)

/-- STANDBY stops the transmitter, and a tally cut off returns to the queue (R92, R174). -/
theorem radioSound_standby (config : ConfigSound s) (sound : RadioSound s) : RadioSound (standby s).1 := by
  rcases standby_cases s with e | e <;> rw [e]
  · exact sound
  cases running : s.running with
  | false => simpa [standbyStation, running] using sound
  | true =>
    have ground : ∀ v, s.hasEntry v → (standbyStation s).hasEntry v := fun v => by simp [State.hasEntry]
    have fits := radioFits_stopTransmitter (coverRoom_of_running config running) ((radioSound_iff s).mp sound).1
    have stopped := stopped_stopTransmitter s.radio
    rw [radioSound_iff, radio_standbyStation (by simpa [State.running] using running)]
    refine ⟨⟨⟨fits.queue.1, fun q hq => ?_⟩, fits.cw, onAirSound_silent rfl⟩,
      fun _ => ⟨stopped.tx, stopped.dueBeacon, stopped.dueTally, stopped.schedule, stopped.gapClock⟩⟩
    obtain ⟨entry, room⟩ := fits.queue.2 q hq
    exact ⟨ground _ entry, by simpa using room⟩

/-- RESTART empties the queue and stops the transmitter in a station that listens (R92, R175). -/
theorem radioSound_restart (sound : RadioSound s) : RadioSound (restart s).1 := by
  rcases restart_cases s with e | ⟨c, -, -, e⟩ <;> rw [e]
  · exact sound
  have radio : (restartStation c s).radio.queue = [] ∧ (restartStation c s).radio.cw = 16 ∧
      (restartStation c s).radio.tx = .idle := by
    simp [restartStation, startSchedules, restartRadio, stopTransmitter, cwLow]
  obtain ⟨queue, cw, tx⟩ := radio
  rw [radioSound_iff, net_restartStation]
  refine ⟨⟨?_, ?_, ?_⟩, fun standby => NetState.noConfusion standby⟩
  · rw [queue]
    exact ⟨List.nodup_nil, fun _ h => by cases h⟩
  · rw [cw]
    exact List.mem_cons_self
  · rw [tx]
    exact onAirSound_silent rfl

/-! A request that changes a vehicle asks for a configuration in force. -/

theorem presentVehicle_unconfigured (hb : s.store.block = none) (hose v hours flag total preset : Nat) :
    (presentVehicle hose v hours flag total preset s).1 = s := by
  unfold presentVehicle
  split
  · next running configured => cases hb.symm.trans configured
  · rfl

theorem barRequest_unconfigured (hb : s.store.block = none) (b : Bool) (v : Nat) : (barRequest b v s).1 = s := by
  unfold barRequest
  split
  · next running configured => cases hb.symm.trans configured
  · rfl

theorem recordService_unconfigured (hb : s.store.block = none) (v type hours flag total : Nat) :
    (recordService v type hours flag total s).1 = s := by
  unfold recordService
  split
  · next running configured => cases hb.symm.trans configured
  · rfl

theorem radioSound_presentVehicle (config : ConfigSound s) (sound : RadioSound s)
    (hose v hours flag total preset : Nat) : RadioSound (presentVehicle hose v hours flag total preset s).1 := by
  cases hb : s.store.block with
  | none => rwa [presentVehicle_unconfigured hb]
  | some c =>
    rcases presentVehicle_cases hose v hours flag total preset s with e | ⟨c, h, p, x, k, -, e⟩ <;> rw [e]
    · exact sound
    · exact radioSound_acceptPresentation h p k (coverRoom_of_block config hb) sound

theorem radioSound_barRequest (config : ConfigSound s) (sound : RadioSound s) (b : Bool) (v : Nat) :
    RadioSound (barRequest b v s).1 := by
  cases hb : s.store.block with
  | none => rwa [barRequest_unconfigured hb]
  | some c =>
    rcases barRequest_cases b v s with e | ⟨c, x, e⟩ <;> rw [e]
    · exact sound
    · exact radioSound_setBar b (coverRoom_of_block config hb) sound

theorem radioSound_recordService (config : ConfigSound s) (sound : RadioSound s) (v type hours flag total : Nat) :
    RadioSound (recordService v type hours flag total s).1 := by
  cases hb : s.store.block with
  | none => rwa [recordService_unconfigured hb]
  | some c =>
    rcases recordService_cases v type hours flag total s with e | ⟨c, x, e⟩ <;> rw [e]
    · exact sound
    · exact radioSound_changeEntry (coverRoom_of_block config hb) sound

theorem radioSound_execOverrunWindowExpiry {hose : Nat} {t : State} (config : ConfigSound s) (sound : RadioSound s)
    (h : execOverrunWindowExpiry hose s = .next t) : RadioSound t := by
  unfold execOverrunWindowExpiry at h
  split at h
  · rwa [← next_inj h]
  · next c k found =>
    split at h
    · rw [← next_inj h]
      exact radioSound_complete k _ (coverRoom_of_block config (block_of_fieldHose found)) sound
    · rwa [← next_inj h]

end Requests

/-! ### The send decision (R85, R86, R97) -/

section Sending

variable {s : State}

/-- In a station whose radio is not stopped, an event of the transmitter keeps the radio sound when what it leaves
fits. -/
theorem radioSound_active {f : RadioBlock → RadioBlock} (sound : RadioSound s) (active : ¬ Stopped s.radio)
    (fits : RadioFits s s.radio → RadioFits s (f s.radio)) : RadioSound (s.mapRadio f) :=
  radioSound_mapRadio sound fits fun stopped => absurd stopped active

theorem mem_of_refreshEntry {pointer : Nat} {entries : List VehicleEntry} {e : VehicleEntry}
    (h : refreshEntry pointer entries = some e) : e ∈ entries := by
  rcases Option.or_eq_some_iff.mp h with found | ⟨-, first⟩
  · exact List.mem_of_find?_eq_some found
  · exact List.mem_of_head? first

theorem radioSound_sendTally (c : ConfigBlock) (sound : RadioSound s) (active : ¬ Stopped s.radio) :
    RadioSound (sendTally c s) := by
  unfold sendTally
  split
  · next q rest hq =>
    have rest_sound : RadioFits s s.radio → QueueSound s rest := fun fits => queueSound_tail (hq ▸ fits.queue)
    split
    · next e he =>
      refine radioSound_active sound active fun fits => radioFits_putOnAir _ (rest_sound fits) ?_
      rintro v ⟨⟩
      exact (hasEntry_iff s _).mpr ⟨e, he⟩
    · exact radioSound_active sound active fun fits =>
        radioFits_nextAttempt ⟨rest_sound fits, fits.cw, fits.onAir⟩
  · split
    · next e he =>
      refine radioSound_active sound active fun fits => radioFits_putOnAir _ fits.queue ?_
      rintro v ⟨⟩
      exact ⟨e, mem_of_refreshEntry he, rfl⟩
    · exact radioSound_active sound active fun fits => radioFits_nextAttempt (fits.move rfl (.inl rfl) (.inl rfl))

theorem radioSound_opportunity (c : ConfigBlock) (sound : RadioSound s) (active : ¬ Stopped s.radio) :
    RadioSound (opportunity c s) := by
  unfold opportunity
  split
  · exact radioSound_active sound active fun fits =>
      radioFits_putOnAir _ fits.queue fun _ named => by cases named
  · split
    · exact radioSound_sendTally c sound active
    · exact radioSound_active sound active radioFits_nextAttempt

theorem radioSound_runCountdown (c : ConfigBlock) (slots : Nat) (sound : RadioSound s) (active : ¬ Stopped s.radio) :
    RadioSound (runCountdown c slots s) := by
  unfold runCountdown
  split
  · exact radioSound_opportunity c sound active
  · exact radioSound_active sound active (·.move rfl (.inl rfl) (.inr rfl))

end Sending

/-! ### Events of the radio -/

section Events

variable {s t : State}

theorem radioSound_execBeaconDue (sound : RadioSound s) (h : execBeaconDue s = .next t) : RadioSound t := by
  unfold execBeaconDue at h
  split at h
  · next c n hb schedule =>
    have active : ¬ Stopped s.radio := fun stopped => by cases stopped.schedule.symm.trans schedule
    rw [← next_inj h]
    exact radioSound_of_ground sound ⟨by simp, fun v => by simp [State.hasEntry], by simp⟩
      (fun fits => radioFits_beginAccess (fits.move rfl (.inl rfl) (.inl rfl))) fun stopped => absurd stopped active
  · rwa [← next_inj h]

theorem radioSound_execTallyDue (sound : RadioSound s) (h : execTallyDue s = .next t) : RadioSound t := by
  rw [← next_inj h]
  split
  · next can =>
    have active : ¬ Stopped s.radio := fun stopped => by simp [State.tallyCanFallDue, stopped.gapClock] at can
    exact radioSound_active sound active fun fits => radioFits_beginAccess (fits.move rfl (.inl rfl) (.inl rfl))
  · exact sound

theorem radioSound_execQuietTimePassed (sound : RadioSound s) (h : execQuietTimePassed s = .next t) : RadioSound t := by
  have active : ∀ {left frozen}, s.radio.tx = .quiet left frozen → ¬ Stopped s.radio := fun tx stopped =>
    Transmitter.noConfusion (stopped.tx.symm.trans tx)
  unfold execQuietTimePassed at h
  split at h
  · next c n hb tx =>
    rw [← next_inj h]
    exact radioSound_runCountdown c _ (radioSound_of_keeps sound (.of_frame ⟨rfl, rfl, rfl, rfl⟩)) (active tx)
  · next c n d hb tx =>
    rw [← next_inj h]
    exact radioSound_runCountdown c d sound (active tx)
  · rwa [← next_inj h]

theorem radioSound_execBackoffSlotEnd (sound : RadioSound s) (h : execBackoffSlotEnd s = .next t) : RadioSound t := by
  unfold execBackoffSlotEnd at h
  split at h
  · next c d n hb tx =>
    rw [← next_inj h]
    split
    · exact sound
    · exact radioSound_runCountdown c _ sound fun stopped => Transmitter.noConfusion (stopped.tx.symm.trans tx)
  · rwa [← next_inj h]

theorem radioSound_execCarrierDetectRise (sound : RadioSound s) (h : execCarrierDetectRise s = .next t) :
    RadioSound t := by
  rw [← next_inj h]
  split
  · exact sound
  · refine radioSound_mapRadio sound radioFits_carrierRise fun ⟨tx, dueBeacon, dueTally, schedule, gapClock⟩ => ?_
    simp only [carrierRise, tx]
    exact ⟨rfl, dueBeacon, dueTally, schedule, gapClock⟩

theorem radioSound_execCarrierDetectFall (sound : RadioSound s) (h : execCarrierDetectFall s = .next t) :
    RadioSound t := by
  rw [← next_inj h]
  split
  · refine radioSound_mapRadio sound radioFits_carrierFall fun ⟨tx, dueBeacon, dueTally, schedule, gapClock⟩ => ?_
    simp only [carrierFall, tx]
    exact ⟨rfl, dueBeacon, dueTally, schedule, gapClock⟩
  · exact sound

theorem radioSound_execAccessLimitExpiry {frame : DueFrame} (sound : RadioSound s)
    (h : execAccessLimitExpiry frame s = .next t) : RadioSound t := by
  rw [← next_inj h]
  split
  · next due =>
    have active : ¬ Stopped s.radio := fun stopped => by
      cases frame <;> simp [RadioBlock.isDue, stopped.dueBeacon, stopped.dueTally] at due
    exact radioSound_active sound active (radioFits_abandon frame)
  · exact sound

theorem radioSound_execTransmissionEnd (sound : RadioSound s) (h : execTransmissionEnd s = .next t) : RadioSound t := by
  rw [← next_inj h]
  split
  · next key =>
    have active : ¬ Stopped s.radio := fun stopped => by simp [stopped.tx, Transmitter.key] at key
    exact radioSound_active sound active fun fits => radioFits_nextAttempt (fits.move rfl (.inl rfl) (.inl rfl))
  · exact sound

theorem radioSound_tick (sound : RadioSound s) : RadioSound (tick s) := by
  have ground : KeepsGround s (tick s) :=
    ⟨by simp, fun _ => hasEntry_of_ranks (quiet_tick s).ranks, by rw [tick_net]; exact id⟩
  refine radioSound_of_ground sound ground (fun fits => ?_) fun stopped => ?_ <;> rw [tick_radio]
  · exact (radioFits_tick fits).move rfl (.inl rfl) (.inl rfl)
  · obtain ⟨tx, dueBeacon, dueTally, schedule, gapClock⟩ := stopped_tick stopped
    exact ⟨tx, dueBeacon, dueTally, schedule, gapClock⟩

end Events

/-! ### Every step -/

/-- Every command keeps the radio sound, the configuration being sound. -/
theorem exec_radioSound {i : Instr} {s t : State} (config : ConfigSound s) (sound : RadioSound s)
    (h : exec i s = .next t) : RadioSound t := by
  cases moves : movesRadio i with
  | false => exact radioSound_of_keeps sound (exec_keepsRadio moves h)
  | true =>
    cases i with
    | powerOn => rw [← next_inj h]; exact radioSound_powerOn s
    | loadConfig part bytes => rw [← next_inj h]; exact radioSound_serve sound (radioSound_loadConfig part bytes sound)
    | start shift time => rw [← next_inj h]; exact radioSound_serve sound (radioSound_start shift time sound)
    | standby => rw [← next_inj h]; exact radioSound_serve sound (radioSound_standby config sound)
    | restart => rw [← next_inj h]; exact radioSound_serve sound (radioSound_restart sound)
    | presentVehicle hose v hours flag total preset =>
      rw [← next_inj h]
      exact radioSound_serve sound (radioSound_presentVehicle config sound hose v hours flag total preset)
    | barVehicle v => rw [← next_inj h]; exact radioSound_serve sound (radioSound_barRequest config sound true v)
    | clearBar v => rw [← next_inj h]; exact radioSound_serve sound (radioSound_barRequest config sound false v)
    | recordService v type hours flag total =>
      rw [← next_inj h]
      exact radioSound_serve sound (radioSound_recordService config sound v type hours flag total)
    | beacon n p k =>
      rcases execBeacon_cases h with rfl | ⟨cause, rfl⟩ | ⟨c, j, -, -, -, rfl⟩
      · exact sound
      · exact radioSound_countDrop cause sound
      · exact radioSound_of_keeps sound (keepsRadio_takeBeacon j p k)
    | tally n f =>
      rcases execTally_cases h with rfl | ⟨cause, rfl⟩ | ⟨c, j, -, hb, -, rfl⟩
      · exact sound
      · exact radioSound_countDrop cause sound
      · exact radioSound_takeTally j f sound (coverRoom_of_block config hb) hb
    | radioFrameDrop cause =>
      rw [← next_inj h]
      split
      · exact radioSound_countDrop cause sound
      · exact sound
    | beaconDue => exact radioSound_execBeaconDue sound h
    | tallyDue => exact radioSound_execTallyDue sound h
    | quietTimePassed => exact radioSound_execQuietTimePassed sound h
    | backoffSlotEnd => exact radioSound_execBackoffSlotEnd sound h
    | carrierDetectRise => exact radioSound_execCarrierDetectRise sound h
    | carrierDetectFall => exact radioSound_execCarrierDetectFall sound h
    | accessLimitExpiry frame => exact radioSound_execAccessLimitExpiry sound h
    | transmissionEnd => exact radioSound_execTransmissionEnd sound h
    | overrunWindowExpiry hose => exact radioSound_execOverrunWindowExpiry config sound h
    | _ => cases moves

/-- Settles O55: a step is a command or a tick; a command leaves the radio and what it rests on, reports a change of one
vehicle to the send queue, or moves the transmitter of a radio that is not stopped. -/
theorem stepKeepsRadio : Obligations.StepKeepsRadio := by
  intro s t config sound he
  rcases step_cases s with ⟨i, rest, -, e⟩ | ⟨-, i, m, e⟩ | ⟨-, e⟩
  · exact exec_radioSound (s := { s with pending := rest }) config sound (e.symm.trans he)
  · exact exec_radioSound (s := { s with model := m }) config sound (e.symm.trans he)
  · rw [← next_inj (e.symm.trans he)]
    exact radioSound_tick sound

end Sys2Proof.Machine.PitNet
end

section
/-! Channel access (R76, R86, R89 to R91): the backoff and its countdown, carrier detect, abandonment, and the end of a
transmission. -/

namespace Sys2Proof.Machine.PitNet

open Sys2Proof Sys2Proof.Machine Sys2Proof.Machine.ServiceIntervals Sys2Proof.Machine.ShiftClock
  Sys2Proof.Machine.PeersAndNet

/-! ### Events of the transmitter that have come about -/

theorem ofHose_of_ofTransmitter {i : Instr} (transmitter : ofTransmitter i = true) : ofHose i = false := by
  cases i with
  | quietTimePassed | backoffSlotEnd | transmissionEnd => rfl
  | _ => cases transmitter

section Due

variable {s : State} {c : ConfigBlock}

/-- No part of the machine but the transmitter brings its events. -/
theorem comesAbout_transmitter {i : Instr} (hb : s.store.block = some c) (transmitter : ofTransmitter i = true) :
    ComesAbout i s ↔ i ∈ transmitterDue c s.radio := by
  have no_hose : ∀ h, i ∉ hoseDue c s h := fun h hi => by
    cases (ofHose_of_ofTransmitter transmitter).symm.trans (ofHose_of_mem_hoseDue hi)
  have no_response : i ∉ responseDue s := fun hi => by
    rw [mem_responseDue hi] at transmitter
    cases transmitter
  have no_station : i ∉ stationDue c s := fun hi => by
    simp only [stationDue, List.mem_append, mem_dueWhen, List.mem_flatMap, or_assoc] at hi
    rcases hi with ⟨-, rfl⟩ | ⟨-, rfl⟩ | ⟨x, -, -, rfl⟩ | ⟨-, rfl⟩ <;> cases transmitter
  have no_schedule : i ∉ schedulesDue c s := fun hi => by
    simp only [schedulesDue, List.mem_append, mem_dueWhen, or_assoc] at hi
    rcases hi with ⟨-, rfl⟩ | ⟨-, rfl⟩ | ⟨-, rfl⟩ | ⟨-, rfl⟩ <;> cases transmitter
  rw [comesAbout_iff]
  simp [ownDue, hb, radioDue_eq, no_hose, no_response, no_station, no_schedule]

theorem quietTimePassed_comesAbout (hb : s.store.block = some c) :
    ComesAbout .quietTimePassed s ↔ ∃ frozen, s.radio.tx = .quiet (some 0) frozen := by
  rw [comesAbout_transmitter hb rfl]
  unfold transmitterDue
  split <;> simp_all [runOut]

theorem backoffSlotEnd_comesAbout (hb : s.store.block = some c) :
    ComesAbout .backoffSlotEnd s ↔ s.radio.cd = false ∧ ∃ d, s.radio.tx = .countdown d 0 := by
  rw [comesAbout_transmitter hb rfl]
  unfold transmitterDue
  split <;> simp_all [and_comm]

/-- A frame has had its time on air exactly when the key-up delay has passed and each byte its eight bits (R76). -/
theorem airTime_le_iff (c : ConfigBlock) (bytes : List Byte) (elapsed : Nat) : airTime c bytes ≤ elapsed ↔
    c.keyUpDelay * 100 ≤ elapsed ∧ bytes.length * 8 * 100000 ≤ 19200 * (elapsed - c.keyUpDelay * 100) := by
  simp only [airTime, ceilDiv, millisecond, second]
  omega

theorem transmissionEnd_comesAbout (hb : s.store.block = some c) :
    ComesAbout .transmissionEnd s ↔ ∃ f, s.radio.tx = .sending f ∧ c.keyUpDelay * 100 ≤ f.elapsed ∧
      f.bytes.length * 8 * 100000 ≤ 19200 * (f.elapsed - c.keyUpDelay * 100) := by
  simp only [comesAbout_transmitter hb (i := .transmissionEnd) rfl, ← airTime_le_iff]
  unfold transmitterDue
  split <;> simp_all

theorem accessLimitExpiry_comesAbout (hb : s.store.block = some c) :
    (ComesAbout (.accessLimitExpiry .beacon) s ↔ s.radio.dueBeacon = some 0) ∧
    (ComesAbout (.accessLimitExpiry .tally) s ↔ s.radio.dueTally = some 0) := by
  constructor <;> rw [comesAbout_station_or_schedule hb rfl rfl Instr.noConfusion, ← runOut_iff] <;>
    simp [stationDue, schedulesDue]

/-- A tick moves the transmitter's own time (R76, R89, R90). -/
theorem tx_tick (s : State) : (tick s).radio.tx = s.radio.tx.tick := by
  rw [tick_radio]
  rfl

end Due

/-! ### The backoff and its countdown (R89, R90) -/

section Backoff

variable {s : State} {c : ConfigBlock}

theorem runCountdown_slots {d : Nat} (slots : 0 < d) :
    runCountdown c d s = { s with radio := { s.radio with tx := .countdown d 500 } } :=
  if_neg (Nat.ne_of_gt slots)

/-- With no slot left the opportunity has come. -/
theorem runCountdown_sent {d : Nat} (none_left : d = 0) (send : CanSend s)
    (ascending : s.view.entries.Pairwise (fun a b => a.number < b.number)) :
    SentAtOpportunity c s (runCountdown c d s) := by
  rw [runCountdown, if_pos none_left]
  exact opportunity_sent c s send ascending

theorem exec_quietTimePassed_drawn {n : Nat} (hb : s.store.block = some c) (tx : s.radio.tx = .quiet (some n) none) :
    exec .quietTimePassed s = .next (runCountdown c (s.drawBelow s.radio.cw).1 (s.drawBelow s.radio.cw).2) := by
  simp only [exec, execQuietTimePassed, hb, tx]

theorem exec_quietTimePassed_resumed {n d : Nat} (hb : s.store.block = some c)
    (tx : s.radio.tx = .quiet (some n) (some d)) : exec .quietTimePassed s = .next (runCountdown c d s) := by
  simp only [exec, execQuietTimePassed, hb, tx]

theorem exec_backoffSlotEnd {d n : Nat} (hb : s.store.block = some c) (tx : s.radio.tx = .countdown d n)
    (clear : s.radio.cd = false) : exec .backoffSlotEnd s = .next (runCountdown c (d - 1) s) := by
  simp [exec, execBackoffSlotEnd, hb, tx, clear]

end Backoff

/-- Settles O34: what a tick leaves of a wait and a slot, when each ends, and the countdown to the send decision, which
`opportunity_sent` describes. -/
theorem backoffAndSend : Obligations.BackoffAndSend := by
  intro s c hb window ascending
  refine ⟨fun rest => ⟨_, step_atRest rest, fun left frozen tx => ?_, fun d n tx => ?_⟩, quietTimePassed_comesAbout hb,
    backoffSlotEnd_comesAbout hb, fun n tx send => ?_, fun n d tx slots => ?_, fun n tx send => ?_,
    fun d n tx clear slots => ?_, fun d n tx clear last send => ?_⟩
  · rw [tx_tick, tx]
    rfl
  · rw [tx_tick, tx]
    rfl
  · exact ⟨_, _, _, Nat.mod_lt _ window, rfl, exec_quietTimePassed_drawn hb tx, runCountdown_slots,
      fun zero => runCountdown_sent zero send ascending⟩
  · rw [exec_quietTimePassed_resumed hb tx, runCountdown_slots slots]
  · exact ⟨_, exec_quietTimePassed_resumed hb tx, runCountdown_sent rfl send ascending⟩
  · rw [exec_backoffSlotEnd hb tx clear, runCountdown_slots (by omega)]
  · exact ⟨_, exec_backoffSlotEnd hb tx clear, runCountdown_sent (by omega) send ascending⟩

/-! ### Carrier detect (R89, R90) -/

theorem exec_carrierDetectRise {s : State} (clear : s.radio.cd = false) :
    exec .carrierDetectRise s = .next (s.mapRadio carrierRise) :=
  congrArg Host.Outcome.next (if_neg (by simp [clear]))

theorem exec_carrierDetectFall {s : State} (asserted : s.radio.cd = true) :
    exec .carrierDetectFall s = .next (s.mapRadio carrierFall) :=
  congrArg Host.Outcome.next (if_pos asserted)

section Carrier

variable {r : RadioBlock}

/-- A countdown freezes with its slots left, and CW doubles up to 256 (R90). -/
theorem carrierRise_countdown {d n : Nat} (tx : r.tx = .countdown d n) :
    carrierRise r = { r with cd := true, tx := .quiet none (some d), cw := min 256 (2 * r.cw) } := by
  unfold carrierRise
  rw [tx]
  rfl

/-- A quiet wait stops with the count it will resume, and CW stands (R89). -/
theorem carrierRise_quiet {n d : Option Nat} (tx : r.tx = .quiet n d) :
    carrierRise r = { r with cd := true, tx := .quiet none d } := by
  unfold carrierRise
  rw [tx]

theorem carrierRise_idle (tx : r.tx = .idle) : carrierRise r = { r with cd := true } := by
  unfold carrierRise
  rw [tx]

/-- A quiet wait counts its 10 ms from the fall of CD (R89). -/
theorem carrierFall_quiet {n d : Option Nat} (tx : r.tx = .quiet n d) :
    carrierFall r = { r with cd := false, tx := .quiet (some 1000) d } := by
  unfold carrierFall
  rw [tx]
  rfl

theorem carrierFall_idle (tx : r.tx = .idle) : carrierFall r = { r with cd := false } := by
  unfold carrierFall
  rw [tx]

end Carrier

/-- Settles O35: the edge of CD at a countdown, a quiet wait and an idle transmitter. -/
theorem carrierDetect : Obligations.CarrierDetect := by
  intro s
  refine ⟨fun d n clear tx => ?_, fun n d clear tx => ?_, fun n d asserted tx => ?_, fun clear tx => ?_,
    fun asserted tx => ?_⟩
  · rw [exec_carrierDetectRise clear, State.mapRadio, carrierRise_countdown tx]
  · rw [exec_carrierDetectRise clear, State.mapRadio, carrierRise_quiet tx]
  · rw [exec_carrierDetectFall asserted, State.mapRadio, carrierFall_quiet tx]
  · rw [exec_carrierDetectRise clear, State.mapRadio, carrierRise_idle tx]
  · rw [exec_carrierDetectFall asserted, State.mapRadio, carrierFall_idle tx]

/-! ### The ends of an attempt and of a transmission (R86, R91) -/

theorem exec_accessLimitExpiry {s : State} {frame : DueFrame} (due : s.radio.isDue frame = true) :
    exec (.accessLimitExpiry frame) s = .next (s.mapRadio fun r => afterAbandon (abandon frame r)) :=
  congrArg Host.Outcome.next (if_pos due)

/-- After an abandonment the transmitter goes on with a frame on air or the other frame due, and is idle otherwise. -/
theorem afterAbandon_eq (r : RadioBlock) :
    afterAbandon r = { r with tx := if r.someDue = true ∨ r.tx.key = true then r.tx else .idle } := by
  unfold afterAbandon
  cases r.tx.key <;> cases r.someDue <;> rfl

theorem exec_transmissionEnd {s : State} (key : s.radio.tx.key = true) :
    exec .transmissionEnd s = .next (s.mapRadio fun r => nextAttempt { r with gapClock := some 0 }) :=
  congrArg Host.Outcome.next (if_pos key)

theorem nextAttempt_eq (r : RadioBlock) : nextAttempt r = { r with
    tx := if r.dueBeacon = none ∧ r.dueTally = none then .idle
      else if r.cd = true then .quiet none none else .quiet (some 1000) none } := by
  unfold nextAttempt RadioBlock.someDue quietFrom
  cases r.dueBeacon <;> cases r.dueTally <;> cases r.cd <;> rfl

/-- Settles O36: the limits and the frame on air at rest, when each ends, and what an abandonment and an end leave, by
`afterAbandon` and `nextAttempt`. -/
theorem accessEnds : Obligations.AccessEnds := by
  refine ⟨fun s rest => ⟨_, step_atRest rest, ?_, ?_, fun f tx => ?_⟩, fun s c hb => ?_, fun s =>
    ⟨fun n due => ?_, fun n due => ?_, fun f tx => ?_⟩⟩
  · rw [tick_radio]
    rfl
  · rw [tick_radio]
    rfl
  · rw [tx_tick, tx]
    rfl
  · obtain ⟨beacon, tally⟩ := accessLimitExpiry_comesAbout hb
    exact ⟨beacon, tally, transmissionEnd_comesAbout hb⟩
  · rw [exec_accessLimitExpiry (by simp [RadioBlock.isDue, due]), State.mapRadio, afterAbandon_eq]
    rfl
  · rw [exec_accessLimitExpiry (by simp [RadioBlock.isDue, due]), State.mapRadio, afterAbandon_eq]
    simp only [abandon, RadioBlock.someDue, Option.isSome_none, Bool.or_false]
    rfl
  · rw [exec_transmissionEnd (by rw [tx]; rfl), State.mapRadio, nextAttempt_eq]

end Sys2Proof.Machine.PitNet
end

section
/-! Bytes and fields (R75, R77, R80): a number written high byte first reads back, and so does each field group of a
TALLY from its place in the payload. -/

namespace Sys2Proof.Machine.PitNet

open Sys2Proof Sys2Proof.Machine Sys2Proof.Machine.ServiceIntervals

/-! ### Numbers in bytes, high byte first -/

@[simp] theorem length_beBytes (w n : Nat) : (beBytes w n).length = w := by
  induction w with
  | zero => rfl
  | succ w ih => simp [beBytes, ih]

theorem ofBytes_cons (b : Byte) (bs : List Byte) : ofBytes (b :: bs) = b.toNat * 256 ^ bs.length + ofBytes bs := by
  have shifted : ∀ (bs : List Byte) (acc : Nat),
      bs.foldl (fun acc b => acc * 256 + b.toNat) acc = acc * 256 ^ bs.length + ofBytes bs := by
    intro bs
    induction bs with
    | nil => simp [ofBytes]
    | cons b bs ih =>
      intro acc
      have tail : ofBytes (b :: bs) = b.toNat * 256 ^ bs.length + ofBytes bs := by
        rw [← ih b.toNat]
        simp [ofBytes]
      rw [List.foldl_cons, ih, tail, List.length_cons, Nat.pow_succ]
      ring
  rw [← shifted bs b.toNat]
  simp [ofBytes]

theorem ofBytes_lt (bs : List Byte) : ofBytes bs < 256 ^ bs.length := by
  induction bs with
  | nil => exact Nat.one_pos
  | cons b bs ih =>
    have byte : b.toNat < 256 := b.isLt
    calc ofBytes (b :: bs) = b.toNat * 256 ^ bs.length + ofBytes bs := ofBytes_cons b bs
      _ < (b.toNat + 1) * 256 ^ bs.length := by rw [Nat.succ_mul]; omega
      _ ≤ 256 * 256 ^ bs.length := Nat.mul_le_mul_right _ byte
      _ = 256 ^ (b :: bs).length := by rw [List.length_cons, Nat.pow_succ, Nat.mul_comm]

theorem ofBytes_beBytes (w n : Nat) : ofBytes (beBytes w n) = n % 256 ^ w := by
  induction w with
  | zero => simp [beBytes, ofBytes, Nat.mod_one]
  | succ w ih =>
    have split : n % 256 ^ (w + 1) = n % 256 ^ w + 256 ^ w * (n / 256 ^ w % 256) := by rw [Nat.pow_succ, Nat.mod_mul]
    rw [beBytes, ofBytes_cons, ih, length_beBytes, BitVec.toNat_ofNat, split, Nat.add_comm, Nat.mul_comm]

/-! ### Fields in bytes -/

theorem fieldAt_lt (off w : Nat) (p : List Byte) : fieldAt off w p < 256 ^ w :=
  Nat.lt_of_lt_of_le (ofBytes_lt _) (Nat.pow_le_pow_right (by omega) (List.length_take_le w _))

/-- A field is read from the rest of the bytes as from the whole. -/
theorem fieldAt_drop (off k w : Nat) (p : List Byte) : fieldAt k w (p.drop off) = fieldAt (off + k) w p := by
  simp [fieldAt]

/-- What comes before a place is passed over. -/
theorem drop_skip {off : Nat} {l : List Byte} (x : List Byte) (before : l.length ≤ off) :
    (l ++ x).drop off = x.drop (off - l.length) := by
  rw [List.drop_append, List.drop_eq_nil_of_le before, List.nil_append]

/-- The field at a place reads back the number written there, when it fits its width. -/
theorem fieldAt_fieldBytes {fs : List (Nat × Nat)} {k w n off : Nat} (x : List Byte) (field : fs[k]? = some (w, n))
    (place : ((fs.take k).map (·.1)).sum = off) (fits : n < 256 ^ w) : fieldAt off w (fieldBytes fs ++ x) = n := by
  subst place
  induction fs generalizing k with
  | nil => cases field
  | cons g fs ih =>
    obtain ⟨v, m⟩ := g
    rw [fieldBytes_cons, List.append_assoc]
    cases k with
    | zero =>
      cases field
      simp [fieldAt, ofBytes_beBytes, Nat.mod_eq_of_lt fits]
    | succ k =>
      have rest := ih (k := k) (by simpa using field)
      simp only [List.take_succ_cons, List.map_cons, List.sum_cons]
      rw [← fieldAt_drop, drop_skip _ (by simp), length_beBytes, Nat.sub_self, List.drop_zero]
      exact rest

/-! ### The field groups of a TALLY (Table 5-3) -/

theorem barField_eq (b : Bar) : barField b = fieldBytes [(1, b.barred.toNat), (2, b.version), (1, b.origin)] := by
  simp [barField, flagByte]

theorem registerField_eq (w : Nat) (o : Option Reading) : registerField w o = fieldBytes
    [(1, o.isSome.toNat), (w, (o.map (·.value)).getD 0), (3, (o.map (·.stamp.shift)).getD 0),
     (3, (o.map (·.stamp.time)).getD 0)] := by
  cases o <;> simp [registerField]

theorem serviceField_eq (e : ServiceEntry) : serviceField e = fieldBytes
    [(2, e.epoch), (1, e.origin), (3, e.hours), (1, e.totaliser.isSome.toNat), (4, e.totaliser.getD 0)] := by
  simp [serviceField, optionField_eq]

theorem originField_eq (o : OriginEntry) : originField o = fieldBytes [(1, o.station), (2, o.tag), (4, o.amount)] := by
  simp [originField]

@[simp] theorem length_barField (b : Bar) : (barField b).length = 4 := by simp [barField_eq]

@[simp] theorem length_registerField (w : Nat) (o : Option Reading) : (registerField w o).length = w + 7 := by
  simp only [registerField_eq, fieldBytes_cons, fieldBytes_nil, List.length_append, length_beBytes, List.length_nil]
  omega

@[simp] theorem length_serviceField (e : ServiceEntry) : (serviceField e).length = 11 := by simp [serviceField_eq]

@[simp] theorem length_originField (o : OriginEntry) : (originField o).length = 7 := by simp [originField_eq]

theorem toNat_lt (b : Bool) : b.toNat < 256 ^ 1 := by cases b <;> decide

/-- The flag of a register is 00h or 01h, and tells whether the register is present. -/
theorem flag_registerField (w : Nat) (o : Option Reading) (x : List Byte) :
    fieldAt 0 1 (registerField w o ++ x) = o.isSome.toNat := by
  rw [registerField_eq]
  exact fieldAt_fieldBytes (k := 0) x rfl rfl (toNat_lt _)

theorem flag_serviceField (e : ServiceEntry) (x : List Byte) :
    fieldAt 6 1 (serviceField e ++ x) = e.totaliser.isSome.toNat := by
  rw [serviceField_eq]
  exact fieldAt_fieldBytes (k := 3) x rfl rfl (toNat_lt _)

theorem readRegister_registerField {w top : Nat} {o : Option Reading} (x : List Byte) (wf : optReadingWf top o = true)
    (width : top < 256 ^ w) : readRegister 0 w (registerField w o ++ x) = o := by
  unfold readRegister
  rw [flag_registerField, registerField_eq]
  cases o with
  | none => rfl
  | some r =>
    simp only [optReadingWf, Reading.wf, ClockPos.wf, u24Max, Bool.and_eq_true, decide_eq_true_eq] at wf
    obtain ⟨value, shift, time⟩ := wf
    have read {k off v n : Nat} := fieldAt_fieldBytes (k := k) (off := off) (w := v) (n := n) x
      (fs := [(1, 1), (w, r.value), (3, r.stamp.shift), (3, r.stamp.time)])
    have read_value := read (k := 1) (off := 1) rfl rfl (by omega)
    have read_shift := read (k := 2) (off := 1 + w) rfl (by simp) (by omega)
    have read_time := read (k := 3) (off := 4 + w) rfl (by simp; omega) (by omega)
    simp [-fieldBytes_cons, read_value, read_shift, read_time]

theorem readService_serviceField {e : ServiceEntry} (x : List Byte) (wf : e.wf = true) :
    readService 0 (serviceField e ++ x) = e := by
  have flag := flag_serviceField e x
  obtain ⟨epoch, origin, hours, totaliser⟩ := e
  simp only [ServiceEntry.wf, u16Max, Bool.and_eq_true, decide_eq_true_eq] at wf
  obtain ⟨⟨⟨⟨epoch_le, origin_le⟩, -⟩, hours_le⟩, totaliser_le⟩ := wf
  have total_lt : totaliser.getD 0 < 256 ^ 4 := by
    cases totaliser with
    | none => decide
    | some t =>
      have := of_decide_eq_true totaliser_le
      simp only [Option.getD_some]
      omega
  rw [serviceField_eq] at flag ⊢
  have read {k off v n : Nat} := fieldAt_fieldBytes (k := k) (off := off) (w := v) (n := n) x
    (fs := [(2, epoch), (1, origin), (3, hours), (1, totaliser.isSome.toNat), (4, totaliser.getD 0)])
  have read_epoch := read (k := 0) (off := 0) rfl rfl (by omega)
  have read_origin := read (k := 1) (off := 2) rfl rfl (by omega)
  have read_hours := read (k := 2) (off := 3) rfl rfl (by omega)
  have read_totaliser := read (k := 4) (off := 7) rfl rfl total_lt
  cases totaliser <;> simp_all [readService]

theorem readOrigins_originField {l : List OriginEntry} (wf : l.all OriginEntry.wf = true) :
    readOrigins l.length (l.flatMap originField) = l := by
  induction l with
  | nil => rfl
  | cons o l ih =>
    obtain ⟨own, rest⟩ := Bool.and_eq_true_iff.mp wf
    simp only [OriginEntry.wf, u16Max, u32Max, Bool.and_eq_true, decide_eq_true_eq] at own
    obtain ⟨⟨⟨⟨-, station⟩, -⟩, tag⟩, amount⟩ := own
    rw [List.flatMap_cons, List.length_cons, readOrigins, drop_skip _ (by simp), length_originField, Nat.sub_self,
      List.drop_zero, ih rest, originField_eq]
    have read {k off v n : Nat} := fieldAt_fieldBytes (k := k) (off := off) (w := v) (n := n) (l.flatMap originField)
      (fs := [(1, o.station), (2, o.tag), (4, o.amount)])
    rw [read (k := 0) (off := 0) rfl rfl (by omega), read (k := 1) (off := 1) rfl rfl (by omega),
      read (k := 2) (off := 3) rfl rfl (by omega)]

/-! ### A TALLY payload -/

/-- The payload of a TALLY, field group after field group. -/
theorem tallyPayload_eq (f : TallyFrame) : tallyPayload f =
    beBytes 2 f.vehicle ++ (beBytes 3 f.shift ++ (barField f.bar ++ (registerField 3 f.hours ++
      (registerField 4 f.totaliser ++ (serviceField f.services[0] ++ (serviceField f.services[1] ++
        (serviceField f.services[2] ++ (serviceField f.services[3] ++
          (beBytes 1 f.origins.length ++ f.origins.flatMap originField))))))))) := by
  have four : f.services.toList = [f.services[0], f.services[1], f.services[2], f.services[3]] := by
    apply List.ext_getElem
    · simp
    · intro i hi _
      simp only [Vector.length_toList] at hi
      interval_cases i <;> simp
  simp [tallyPayload, four]

theorem length_tallyPayload (f : TallyFrame) : (tallyPayload f).length = 75 + 7 * f.origins.length := by
  have origins : (f.origins.flatMap originField).length = 7 * f.origins.length := by
    simp [List.length_flatMap, Nat.mul_comm]
  simp only [tallyPayload_eq, List.length_append, length_beBytes, length_barField, length_registerField,
    length_serviceField, origins]
  omega

/-- The places of the field groups in the payload (Table 5-3). -/
theorem places_tallyPayload (f : TallyFrame) :
    beBytes 3 f.shift <+: (tallyPayload f).drop 2 ∧ barField f.bar <+: (tallyPayload f).drop 5 ∧
    registerField 3 f.hours <+: (tallyPayload f).drop 9 ∧ registerField 4 f.totaliser <+: (tallyPayload f).drop 19 ∧
    (∀ i : Fin 4, serviceField f.services[i] <+: (tallyPayload f).drop (30 + 11 * i.val)) ∧
    beBytes 1 f.origins.length <+: (tallyPayload f).drop 74 ∧
    (tallyPayload f).drop 75 = f.origins.flatMap originField := by
  simp [tallyPayload_eq, drop_skip, Fin.forall_fin_succ]

end Sys2Proof.Machine.PitNet
end

section
/-! The bodies of the two frames (R77 to R80) against the checks of a received body (R82, R83). -/

namespace Sys2Proof.Machine.PitNet

open Sys2Proof Sys2Proof.Machine Sys2Proof.Machine.ServiceIntervals

/-! ### A TALLY payload read back -/

section Read

variable {off : Nat} {p : List Byte}

theorem readRegister_drop (off w : Nat) (p : List Byte) : readRegister off w p = readRegister 0 w (p.drop off) := by
  simp [readRegister, fieldAt_drop, Nat.add_assoc]

theorem readService_drop (off : Nat) (p : List Byte) : readService off p = readService 0 (p.drop off) := by
  simp [readService, fieldAt_drop]

theorem readRegister_at {w top : Nat} {o : Option Reading} (place : registerField w o <+: p.drop off)
    (wf : optReadingWf top o = true) (width : top < 256 ^ w) : readRegister off w p = o := by
  obtain ⟨x, at_off⟩ := place
  rw [readRegister_drop, ← at_off]
  exact readRegister_registerField x wf width

theorem readService_at {e : ServiceEntry} (place : serviceField e <+: p.drop off) (wf : e.wf = true) :
    readService off p = e := by
  obtain ⟨x, at_off⟩ := place
  rw [readService_drop, ← at_off]
  exact readService_serviceField x wf

/-- A field of a group reads back at its place in the whole. -/
theorem fieldAt_at {fs : List (Nat × Nat)} {k w n place : Nat} (group : fieldBytes fs <+: p.drop off)
    (field : fs[k]? = some (w, n)) (at_field : off + ((fs.take k).map (·.1)).sum = place) (fits : n < 256 ^ w) :
    fieldAt place w p = n := by
  obtain ⟨x, at_off⟩ := group
  rw [← at_field, ← fieldAt_drop, ← at_off]
  exact fieldAt_fieldBytes x field rfl fits

end Read

section Tally

variable {f : TallyFrame}

/-- The parts of a well-formed TALLY content. -/
theorem wf_parts (wf : f.wf = true) : f.vehicle < 256 ^ 2 ∧ f.shift < 256 ^ 3 ∧ f.bar.version < 256 ^ 2 ∧
    f.bar.origin < 256 ^ 1 ∧ optReadingWf 9999999 f.hours = true ∧ optReadingWf 99999999 f.totaliser = true ∧
    (∀ i : Fin 4, f.services[i].wf = true) ∧ f.origins.length ≤ 16 ∧ f.origins.all OriginEntry.wf = true := by
  simp only [TallyFrame.wf, Bar.wf, u16Max, u24Max, Bool.and_eq_true, decide_eq_true_eq, List.all_eq_true] at wf
  obtain ⟨⟨⟨⟨⟨⟨⟨vehicle, shift⟩, version, origin⟩, hours⟩, totaliser⟩, services⟩, room⟩, origins⟩ := wf
  exact ⟨by omega, by omega, by omega, by omega, hours, totaliser, fun i => services _ (by simp), room,
    List.all_eq_true.mpr origins⟩

theorem count_tallyPayload (room : f.origins.length ≤ 16) : fieldAt 74 1 (tallyPayload f) = f.origins.length := by
  obtain ⟨-, -, -, -, -, place, -⟩ := places_tallyPayload f
  exact fieldAt_at (k := 0) (fs := [(1, f.origins.length)]) (by simpa using place) rfl rfl (by omega)

theorem flag_bar_tallyPayload (f : TallyFrame) : fieldAt 5 1 (tallyPayload f) = f.bar.barred.toNat := by
  obtain ⟨-, place, -⟩ := places_tallyPayload f
  rw [barField_eq] at place
  exact fieldAt_at (k := 0) place rfl rfl (toNat_lt _)

/-- Every flag byte that is sent is 00h or 01h (R80). -/
theorem tallyFlagsOk_tallyPayload (f : TallyFrame) : tallyFlagsOk (tallyPayload f) = true := by
  obtain ⟨-, -, hours, totaliser, services, -, -⟩ := places_tallyPayload f
  have flag_le : ∀ b : Bool, b.toNat ≤ 1 := by decide
  have bar_flag : fieldAt 5 1 (tallyPayload f) ≤ 1 := flag_bar_tallyPayload f ▸ flag_le _
  have register_flag {off w : Nat} {o : Option Reading} (place : registerField w o <+: (tallyPayload f).drop off) :
      fieldAt off 1 (tallyPayload f) ≤ 1 := by
    rw [registerField_eq] at place
    exact fieldAt_at (k := 0) place rfl rfl (toNat_lt _) ▸ flag_le _
  have service_flag (i : Fin 4) : fieldAt (36 + 11 * i.val) 1 (tallyPayload f) ≤ 1 := by
    have place := services i
    rw [serviceField_eq] at place
    have read := fieldAt_at (k := 3) (place := 36 + 11 * i.val) place rfl (by simp; omega) (toNat_lt _)
    exact read ▸ flag_le _
  simp only [tallyFlagsOk, List.all_cons, List.all_nil, Bool.and_true, Bool.and_eq_true, decide_eq_true_eq]
  exact ⟨bar_flag, register_flag hours, register_flag totaliser, service_flag 0, service_flag 1, service_flag 2,
    service_flag 3⟩

/-- What is sent in a TALLY payload is read from it (R80, R83). -/
theorem readTally_tallyPayload (wf : f.wf = true) : readTally (tallyPayload f) = f := by
  obtain ⟨vehicle, shift, version, origin, hours, totaliser, services, room, origins⟩ := wf_parts wf
  obtain ⟨at_shift, at_bar, at_hours, at_totaliser, at_services, -, at_origins⟩ := places_tallyPayload f
  rw [barField_eq] at at_bar
  have read_vehicle : fieldAt 0 2 (tallyPayload f) = f.vehicle :=
    fieldAt_at (off := 0) (k := 0) (fs := [(2, f.vehicle)]) (by simp [tallyPayload_eq]) rfl rfl vehicle
  have read_shift : fieldAt 2 3 (tallyPayload f) = f.shift :=
    fieldAt_at (k := 0) (fs := [(3, f.shift)]) (by simpa using at_shift) rfl rfl shift
  have read_barred : (fieldAt 5 1 (tallyPayload f) != 0) = f.bar.barred := by
    rw [flag_bar_tallyPayload]
    cases f.bar.barred <;> rfl
  have read_version : fieldAt 6 2 (tallyPayload f) = f.bar.version := fieldAt_at (k := 1) at_bar rfl rfl version
  have read_origin : fieldAt 8 1 (tallyPayload f) = f.bar.origin := fieldAt_at (k := 2) at_bar rfl rfl origin
  have read_services : #v[readService 30 (tallyPayload f), readService 41 (tallyPayload f),
      readService 52 (tallyPayload f), readService 63 (tallyPayload f)] = f.services := by
    have read i := readService_at (at_services i) (services i)
    ext i hi
    interval_cases i
    exacts [read 0, read 1, read 2, read 3]
  have read_origins : readOrigins (fieldAt 74 1 (tallyPayload f)) ((tallyPayload f).drop 75) = f.origins := by
    rw [count_tallyPayload room, at_origins, readOrigins_originField origins]
  simp only [readTally, read_vehicle, read_shift, read_barred, read_version, read_origin,
    readRegister_at at_hours hours (by decide), readRegister_at at_totaliser totaliser (by decide), read_services,
    read_origins]

/-- A TALLY payload in range passes checks 5 and 6 (R82, R83). -/
theorem checkTally_tallyPayload {shiftLength : Nat} (station : Nat) (range : f.inRange shiftLength = true) :
    checkTally shiftLength station (tallyPayload f) = .tally station f := by
  have wf : f.wf = true := by
    simp only [TallyFrame.inRange, Bool.and_eq_true] at range
    exact range.1.1
  obtain ⟨-, -, -, -, -, -, -, room, -⟩ := wf_parts wf
  have length := length_tallyPayload f
  simp only [checkTally, count_tallyPayload room, readTally_tallyPayload wf, tallyFlagsOk_tallyPayload, range]
  rw [if_neg (by omega)]
  rfl

end Tally

/-! ### A BEACON payload read back -/

/-- A BEACON payload in range passes checks 5 and 6 (R82, R83). -/
theorem checkBeacon_beaconPayload {shiftLength interval : Nat} {pos : ClockPos} (station : Nat)
    (longest : shiftLength ≤ 86400) (range : beaconInRange shiftLength pos interval = true) :
    checkBeacon shiftLength station (beaconPayload pos interval) = .beacon station pos interval := by
  have parts := range
  simp only [beaconInRange, u24Max, Bool.and_eq_true, decide_eq_true_eq] at parts
  obtain ⟨⟨⟨shift, time⟩, -⟩, top⟩ := parts
  have payload : beaconPayload pos interval = fieldBytes [(3, pos.shift), (3, pos.time), (1, interval)] ++ [] := by
    simp [beaconPayload]
  have length : (beaconPayload pos interval).length = 7 := by simp [beaconPayload]
  have read {k off v n : Nat} := fieldAt_fieldBytes (k := k) (off := off) (w := v) (n := n) []
    (fs := [(3, pos.shift), (3, pos.time), (1, interval)])
  have read_shift := read (k := 0) (off := 0) rfl rfl (by omega)
  have read_time := read (k := 1) (off := 3) rfl rfl (by omega)
  have read_interval := read (k := 2) (off := 6) rfl rfl (by omega)
  rw [← payload] at read_shift read_time read_interval
  simp only [checkBeacon, read_shift, read_time, read_interval, range]
  rw [if_neg (by simp [length]), if_pos trivial]

/-! ### The checks of a body, in order (R82) -/

/-- A body of a right length is checked for its CRC, and then for its content. -/
theorem checkBody_eq {len station kind : Byte} {payload check : List Byte} (shiftLength : Nat) (low : 3 ≤ len.toNat)
    (high : len.toNat ≤ 198) (length : payload.length + 2 = len.toNat) :
    checkBody shiftLength (len :: station :: kind :: payload ++ check) =
      if check = crcField (len :: station :: kind :: payload) then checkContent shiftLength station kind payload
      else .drop .crc := by
  have payload_length : len.toNat - 2 = payload.length := by omega
  simp only [checkBody, List.cons_append, payload_length, List.take_left, List.drop_left, ne_eq, ite_not]
  rw [if_neg (by omega)]

theorem toNat_ofNat {n : Nat} (byte : n < 256) : (BitVec.ofNat 8 n).toNat = n := by
  rw [BitVec.toNat_ofNat, Nat.mod_eq_of_lt byte]

/-- A body as it is sent passes the checks of its length and its CRC (R77, R78). -/
theorem checkBody_frameBody {payload : List Byte} (shiftLength station : Nat) (kind : Byte)
    (some_payload : 0 < payload.length) (room : payload.length ≤ 196) :
    checkBody shiftLength (frameBody station kind payload) =
      checkContent shiftLength (BitVec.ofNat 8 station) kind payload := by
  have length : (BitVec.ofNat 8 (payload.length + 2)).toNat = payload.length + 2 := toNat_ofNat (by omega)
  have body : frameBody station kind payload = BitVec.ofNat 8 (payload.length + 2) :: BitVec.ofNat 8 station :: kind ::
      payload ++ crcField (BitVec.ofNat 8 (payload.length + 2) :: BitVec.ofNat 8 station :: kind :: payload) := by
    simp [frameBody, beBytes]
  rw [body, checkBody_eq shiftLength (by omega) (by omega) length.symm, if_pos rfl]

/-- With a known kind and a station in 1..16 the content is checked as its kind asks (R82). -/
theorem checkContent_known {station : Byte} (shiftLength : Nat) (payload : List Byte) (low : 1 ≤ station.toNat)
    (high : station.toNat ≤ 16) :
    checkContent shiftLength station beaconKind payload = checkBeacon shiftLength station.toNat payload ∧
    checkContent shiftLength station tallyKind payload = checkTally shiftLength station.toNat payload := by
  have known : ¬ (station.toNat < 1 ∨ 16 < station.toNat) := by omega
  constructor
  · rw [checkContent, if_neg (by simp), if_neg known, if_pos rfl]
  · rw [checkContent, if_neg (by simp), if_neg known, if_neg (by decide)]

section Bodies

variable {shiftLength n : Nat} (low : 1 ≤ n) (high : n ≤ 16)

include low high

theorem checkBody_tallyBody {f : TallyFrame} (range : f.inRange shiftLength = true) :
    checkBody shiftLength (tallyBody n f) = .tally n f := by
  have room : f.origins.length ≤ 16 := by
    simp only [TallyFrame.inRange, TallyFrame.wf, Bool.and_eq_true, decide_eq_true_eq] at range
    obtain ⟨⟨⟨⟨-, room⟩, -⟩, -⟩, -⟩ := range
    exact room
  have length := length_tallyPayload f
  have station : (BitVec.ofNat 8 n).toNat = n := toNat_ofNat (by omega)
  rw [tallyBody, checkBody_frameBody _ _ _ (by omega) (by omega),
    (checkContent_known _ _ (by omega) (by omega)).2, station, checkTally_tallyPayload n range]

theorem checkBody_beaconBody {pos : ClockPos} {interval : Nat} (longest : shiftLength ≤ 86400)
    (range : beaconInRange shiftLength pos interval = true) :
    checkBody shiftLength (beaconBody n pos interval) = .beacon n pos interval := by
  have length : (beaconPayload pos interval).length = 7 := by simp [beaconPayload]
  have station : (BitVec.ofNat 8 n).toNat = n := toNat_ofNat (by omega)
  rw [beaconBody, checkBody_frameBody _ _ _ (by omega) (by omega),
    (checkContent_known _ _ (by omega) (by omega)).1, station, checkBeacon_beaconPayload n longest range]

end Bodies

end Sys2Proof.Machine.PitNet
end

section
/-! A received body dropped by its first failing check (R82, R83, Table 5-4). -/

namespace Sys2Proof.Machine.PitNet

open Sys2Proof Sys2Proof.Machine

/-! ### The field groups of a TALLY as received -/

section Groups

variable {shiftLength : Nat} {p : List Byte}

/-- A register as received is in range exactly when no check of Table 5-4 fails at it. -/
theorem not_registerBad_iff (longest : shiftLength ≤ 86400) (off w top : Nat) :
    ¬ RegisterBad shiftLength off w top p ↔ fieldAt off 1 p ≤ 1 ∧ optReadingWf top (readRegister off w p) = true ∧
      stampBelow shiftLength (readRegister off w p) = true := by
  have shift : fieldAt (off + 1 + w) 3 p < 256 ^ 3 := fieldAt_lt _ _ _
  unfold RegisterBad readRegister
  by_cases absent : fieldAt off 1 p = 0
  · simp [absent, optReadingWf, stampBelow]
  · rw [if_neg absent]
    simp only [optReadingWf, Reading.wf, ClockPos.wf, stampBelow, u24Max, Bool.and_eq_true, decide_eq_true_eq]
    omega

theorem not_serviceBad_iff (off : Nat) :
    ¬ ServiceBad off p ↔ fieldAt (off + 6) 1 p ≤ 1 ∧ (readService off p).wf = true := by
  have epoch : fieldAt off 2 p < 256 ^ 2 := fieldAt_lt _ _ _
  unfold ServiceBad readService
  by_cases absent : fieldAt (off + 6) 1 p = 0 <;>
    simp only [ServiceEntry.wf, absent, if_true, if_false, u16Max, Bool.and_eq_true, Bool.or_eq_true, decide_eq_true_eq,
      bne_iff_ne, beq_iff_eq, and_true] <;>
    omega

/-- The origin entries as received are in range exactly when each names a station and a start tag. -/
theorem readOrigins_wf_iff (n off : Nat) : (readOrigins n (p.drop off)).all OriginEntry.wf = true ↔
    ∀ j < n, ¬ (fieldAt (off + 7 * j) 1 p = 0 ∨ 16 < fieldAt (off + 7 * j) 1 p ∨
      fieldAt (off + 1 + 7 * j) 2 p = 0) := by
  induction n generalizing off with
  | zero => simp [readOrigins]
  | succ n ih =>
    have tag : fieldAt (off + 1) 2 p < 256 ^ 2 := fieldAt_lt _ _ _
    have amount : fieldAt (off + 3) 4 p < 256 ^ 4 := fieldAt_lt _ _ _
    have own : OriginEntry.wf ⟨fieldAt off 1 p, fieldAt (off + 1) 2 p, fieldAt (off + 3) 4 p⟩ = true ↔
        ¬ (fieldAt off 1 p = 0 ∨ 16 < fieldAt off 1 p ∨ fieldAt (off + 1) 2 p = 0) := by
      simp only [OriginEntry.wf, u16Max, u32Max, Bool.and_eq_true, decide_eq_true_eq]
      omega
    have next (j : Nat) : off + 7 + 7 * j = off + 7 * (j + 1) ∧ off + 7 + 1 + 7 * j = off + 1 + 7 * (j + 1) := by omega
    rw [readOrigins, List.all_cons, List.drop_drop, Bool.and_eq_true, ih, fieldAt_drop, fieldAt_drop, fieldAt_drop,
      Nat.add_zero, own, Nat.forall_lt_succ_left]
    simp only [next, Nat.mul_zero, Nat.add_zero]

theorem length_readOrigins (n : Nat) (p : List Byte) : (readOrigins n p).length = n := by
  induction n generalizing p with
  | zero => rfl
  | succ n ih => rw [readOrigins, List.length_cons, ih]

theorem services_wf_iff (a b c d : ServiceEntry) : (#v[a, b, c, d]).toList.all ServiceEntry.wf = true ↔
    a.wf = true ∧ b.wf = true ∧ c.wf = true ∧ d.wf = true := by
  simp

/-- A TALLY payload of a right length passes the field checks exactly when none of Table 5-4 fails. -/
theorem tally_inRange_iff (longest : shiftLength ≤ 86400) (room : fieldAt 74 1 p ≤ 16) :
    (tallyFlagsOk p && (readTally p).inRange shiftLength) = true ↔ ¬ TallyBad shiftLength p := by
  have vehicle : fieldAt 0 2 p ≤ u16Max := Nat.le_of_lt_succ (fieldAt_lt 0 2 p)
  have shift : fieldAt 2 3 p ≤ u24Max := Nat.le_of_lt_succ (fieldAt_lt 2 3 p)
  have version : fieldAt 6 2 p ≤ u16Max := Nat.le_of_lt_succ (fieldAt_lt 6 2 p)
  have services : (∀ i : Fin 4, ¬ ServiceBad (30 + 11 * i.val) p) ↔
      (fieldAt 36 1 p ≤ 1 ∧ (readService 30 p).wf = true) ∧ (fieldAt 47 1 p ≤ 1 ∧ (readService 41 p).wf = true) ∧
      (fieldAt 58 1 p ≤ 1 ∧ (readService 52 p).wf = true) ∧ (fieldAt 69 1 p ≤ 1 ∧ (readService 63 p).wf = true) := by
    simp only [Fin.forall_fin_succ, not_serviceBad_iff]
    simp
  have origins := readOrigins_wf_iff (p := p) (fieldAt 74 1 p) 75
  have content : (readTally p).wf = true ↔ fieldAt 8 1 p ≤ 16 ∧ optReadingWf 9999999 (readRegister 9 3 p) = true ∧
      optReadingWf 99999999 (readRegister 19 4 p) = true ∧ (readService 30 p).wf = true ∧
      (readService 41 p).wf = true ∧ (readService 52 p).wf = true ∧ (readService 63 p).wf = true ∧
      (readOrigins (fieldAt 74 1 p) (p.drop 75)).all OriginEntry.wf = true := by
    simp only [TallyFrame.wf, Bar.wf, Bool.and_eq_true, decide_eq_true_eq, and_assoc]
    simp only [readTally, vehicle, shift, version, room, length_readOrigins, true_and, services_wf_iff, and_assoc]
  have flags : tallyFlagsOk p = true ↔ fieldAt 5 1 p ≤ 1 ∧ fieldAt 9 1 p ≤ 1 ∧ fieldAt 19 1 p ≤ 1 ∧
      fieldAt 36 1 p ≤ 1 ∧ fieldAt 47 1 p ≤ 1 ∧ fieldAt 58 1 p ≤ 1 ∧ fieldAt 69 1 p ≤ 1 := by
    simp [tallyFlagsOk]
  have read : (readTally p).hours = readRegister 9 3 p ∧ (readTally p).totaliser = readRegister 19 4 p := ⟨rfl, rfl⟩
  unfold TallyBad
  simp only [TallyFrame.inRange, Bool.and_eq_true, flags, content, read, not_or, not_exists, not_and, services,
    not_registerBad_iff longest]
  simp only [not_or] at origins
  rw [origins]
  simp only [not_lt]
  constructor
  · rintro ⟨⟨b, h, t, s0, s1, s2, s3⟩, ⟨⟨bar, hours, totaliser, e0, e1, e2, e3, all⟩, below⟩, below'⟩
    exact ⟨b, bar, ⟨h, hours, below⟩, ⟨t, totaliser, below'⟩, ⟨⟨s0, e0⟩, ⟨s1, e1⟩, ⟨s2, e2⟩, s3, e3⟩, all⟩
  · rintro ⟨b, bar, ⟨h, hours, below⟩, ⟨t, totaliser, below'⟩, ⟨⟨s0, e0⟩, ⟨s1, e1⟩, ⟨s2, e2⟩, s3, e3⟩, all⟩
    exact ⟨⟨b, h, t, s0, s1, s2, s3⟩, ⟨⟨bar, hours, totaliser, e0, e1, e2, e3, all⟩, below⟩, below'⟩

end Groups

/-! ### The first failing check (R82) -/

section FirstFailing

variable {shiftLength n : Nat} {station kind : Byte} {payload : List Byte}

theorem checkContent_kind (no_beacon : kind ≠ beaconKind) (no_tally : kind ≠ tallyKind) :
    checkContent shiftLength station kind payload = .drop .kind :=
  if_pos ⟨no_beacon, no_tally⟩

theorem checkContent_station (known : kind = beaconKind ∨ kind = tallyKind)
    (outside : station.toNat = 0 ∨ 16 < station.toNat) :
    checkContent shiftLength station kind payload = .drop .station := by
  rw [checkContent, if_neg (by tauto), if_pos (by omega)]

theorem checkBeacon_length (length : payload.length ≠ 7) :
    checkBeacon shiftLength n payload = .drop .lengthForKind :=
  if_pos length

theorem beaconInRange_iff : beaconInRange shiftLength ⟨fieldAt 0 3 payload, fieldAt 3 3 payload⟩
    (fieldAt 6 1 payload) = true ↔
      fieldAt 3 3 payload < shiftLength ∧ 5 ≤ fieldAt 6 1 payload ∧ fieldAt 6 1 payload ≤ 60 := by
  have shift : fieldAt 0 3 payload < 256 ^ 3 := fieldAt_lt _ _ _
  simp only [beaconInRange, u24Max, Bool.and_eq_true, decide_eq_true_eq]
  omega

theorem checkBeacon_range (length : payload.length = 7)
    (bad : shiftLength ≤ fieldAt 3 3 payload ∨ fieldAt 6 1 payload < 5 ∨ 60 < fieldAt 6 1 payload) :
    checkBeacon shiftLength n payload = .drop .fieldRange := by
  simp only [checkBeacon]
  rw [if_neg (not_not_intro length), if_neg (by rw [beaconInRange_iff]; omega)]

theorem checkBeacon_passed (length : payload.length = 7) (time : fieldAt 3 3 payload < shiftLength)
    (low : 5 ≤ fieldAt 6 1 payload) (high : fieldAt 6 1 payload ≤ 60) : checkBeacon shiftLength n payload =
      .beacon n ⟨fieldAt 0 3 payload, fieldAt 3 3 payload⟩ (fieldAt 6 1 payload) := by
  simp only [checkBeacon]
  rw [if_neg (not_not_intro length), if_pos (beaconInRange_iff.mpr ⟨time, low, high⟩)]

theorem checkTally_length
    (bad : payload.length < 75 ∨ 16 < fieldAt 74 1 payload ∨ payload.length ≠ 75 + 7 * fieldAt 74 1 payload) :
    checkTally shiftLength n payload = .drop .lengthForKind :=
  if_pos bad

theorem checkTally_of_length (room : fieldAt 74 1 payload ≤ 16)
    (length : payload.length = 75 + 7 * fieldAt 74 1 payload) : checkTally shiftLength n payload =
      if (tallyFlagsOk payload && (readTally payload).inRange shiftLength) = true then .tally n (readTally payload)
      else .drop .fieldRange :=
  if_neg (by omega)

end FirstFailing

end Sys2Proof.Machine.PitNet
end

section
/-! The radio receiver bit by bit (R75, R81), and the frames of the pit net from the encoder to the receiver. -/

namespace Sys2Proof.Machine.PitNet

open Sys2Proof Sys2Proof.Machine Sys2Proof.Machine.ServiceIntervals

/-! ### Bits and bytes -/

theorem takeBits_append (shiftLength : Nat) (r : RadioReceiver) (xs ys : List Bool) :
    takeBits shiftLength r (xs ++ ys) =
      ((takeBits shiftLength (takeBits shiftLength r xs).1 ys).1,
        (takeBits shiftLength r xs).2 ++ (takeBits shiftLength (takeBits shiftLength r xs).1 ys).2) := by
  have from_checks : ∀ (bits : List Bool) (r : RadioReceiver) (done : List BodyCheck),
      bits.foldl (fun a b => ((a.1.takeBit shiftLength b).1, a.2 ++ (a.1.takeBit shiftLength b).2)) (r, done) =
        ((takeBits shiftLength r bits).1, done ++ (takeBits shiftLength r bits).2) := by
    intro bits
    induction bits with
    | nil => intro r done; simp [takeBits]
    | cons b bits ih =>
      intro r done
      simp only [takeBits, List.foldl_cons, List.nil_append]
      rw [ih, ih _ (r.takeBit shiftLength b).2, List.append_assoc]
  rw [takeBits, List.foldl_append, ← takeBits, from_checks]

/-- Eight bits, most significant first, are the byte. -/
theorem ofNat_bits (b : Byte) :
    BitVec.ofNat 8 ((bitsOf b).foldl (fun acc bit => 2 * acc + bit.toNat) 0) = b := by
  revert b
  decide

/-- The bits of a byte make the next byte of a body (R75, R81). -/
theorem takeBits_byte (shiftLength : Nat) (bytes : List Byte) (b : Byte) :
    takeBits shiftLength (.taking 0 0 bytes) (bitsOf b) = bodyByte shiftLength bytes b := by
  have taken : takeBits shiftLength (.taking 0 0 bytes) (bitsOf b) =
      bodyByte shiftLength bytes (BitVec.ofNat 8 ((bitsOf b).foldl (fun acc bit => 2 * acc + bit.toNat) 0)) := rfl
  rw [taken, ofNat_bits]

/-- A body whose length byte is taken is taken to its end and checked (R81, R82). -/
theorem takeBits_body (shiftLength : Nat) (len : Byte) (got rest : List Byte) (more : rest ≠ [])
    (length : got.length + rest.length = len.toNat + 2) :
    takeBits shiftLength (.taking 0 0 (len :: got)) (rest.flatMap bitsOf) =
      (.hunt 0, [checkBody shiftLength (len :: got ++ rest)]) := by
  induction rest generalizing got with
  | nil => exact absurd rfl more
  | cons b rest ih =>
    rw [List.length_cons] at length
    rw [List.flatMap_cons, takeBits_append, takeBits_byte]
    simp only [bodyByte, List.length_append, List.length_cons, List.length_nil]
    cases rest with
    | nil =>
      rw [if_pos (by simp at length; omega)]
      simp [takeBits]
    | cons b' rest =>
      rw [if_neg (by simp at length; omega)]
      have whole := ih (got ++ [b]) (List.cons_ne_nil _ _) (by simp at length ⊢; omega)
      rw [List.cons_append, whole]
      simp

/-- The preamble and the sync word bring the receiver from an empty hunt to a body (R81). -/
theorem takeBits_airHeader (shiftLength : Nat) :
    takeBits shiftLength (.hunt 0) (airHeader.flatMap bitsOf) = (.taking 0 0 [], []) := by
  have first : takeBits shiftLength (.hunt 0) (bitsOf 0x55#8) = (.hunt 0x55, []) := rfl
  have second : takeBits shiftLength (.hunt 0x55) (bitsOf 0x55#8) = (.hunt 0x5555, []) := rfl
  have later : takeBits shiftLength (.hunt 0x5555) (bitsOf 0x55#8) = (.hunt 0x5555, []) := rfl
  have sync_high : takeBits shiftLength (.hunt 0x5555) (bitsOf 0xB3#8) = (.hunt 0x55B3, []) := rfl
  have sync_low : takeBits shiftLength (.hunt 0x55B3) (bitsOf 0x4E#8) = (.taking 0 0 [], []) := rfl
  simp only [airHeader, List.flatMap_cons, List.flatMap_nil, List.append_nil, takeBits_append, first, second, later,
    sync_high, sync_low]

/-- A frame on air reaches the checks: preamble, sync word and a body of the length that its first byte gives (R81). -/
theorem takeBits_frame (shiftLength : Nat) {len : Byte} {rest : List Byte} (low : 3 ≤ len.toNat)
    (high : len.toNat ≤ 198) (length : rest.length = len.toNat + 2) :
    takeBits shiftLength (.hunt 0) ((airHeader ++ len :: rest).flatMap bitsOf) =
      (.hunt 0, [checkBody shiftLength (len :: rest)]) := by
  have begun : bodyByte shiftLength [] len = (.taking 0 0 [len], []) := if_neg (by omega)
  have more : rest ≠ [] := fun none => by simp [none] at length
  have body := takeBits_body shiftLength len [] rest more (by simpa using length)
  rw [List.flatMap_append, List.flatMap_cons, takeBits_append, takeBits_airHeader, takeBits_append, takeBits_byte,
    begun, body]
  rfl

/-- A length outside 3..198 is dropped, and the hunt resumes (R81, R82). -/
theorem takeBits_badLength (shiftLength : Nat) {len : Byte} (bad : len.toNat < 3 ∨ 198 < len.toNat) :
    takeBits shiftLength (.taking 0 0 []) (bitsOf len) = (.hunt 0, [.drop .length]) := by
  rw [takeBits_byte]
  exact if_pos bad

/-! ### The bit clock (R75, R81) -/

section BitClock

variable {s : State} {c : ConfigBlock} {b : Bool} {rest : List Bool}

/-- At rest nothing taken whole waits to be dealt with. -/
theorem arrived_atRest (h : AtRest s) : s.model.arrived = [] := by
  obtain ⟨-, none_waits⟩ := h
  have waits : ∀ line, oldestFrom line s = [] → s.model.arrived.find? line = none := fun line empty => by
    unfold oldestFrom at empty
    split at empty
    · assumption
    · cases empty
  simp only [candidates, List.append_eq_nil_iff] at none_waits
  obtain ⟨⟨radio, link⟩, -⟩ := none_waits
  refine List.eq_nil_iff_forall_not_mem.mpr fun i hi => ?_
  have no_radio := List.find?_eq_none.mp (waits _ radio) i hi
  have no_link := List.find?_eq_none.mp (waits _ link) i hi
  simp_all

/-- A tick as far as the timers and the field inputs go, before the two receive lines move. -/
def timersTicked (s : State) : State :=
  let newMs := s.field.samplePhase == 0
  { s with
    clock := s.clock.tick
    net := { s.net with listen := countDown s.net.listen, peers := mapTable Peer.tick s.net.peers }
    radio := s.radio.tick
    field := s.field.tick s.store.block newMs
    hoses := Vector.ofFn fun h => s.hoses[h].tick s.store.block h newMs
    link := s.link.tickSending }

theorem tick_eq (s : State) : tick s =
    linkByte (if second ≤ s.radio.bitPhase + 19200 then radioBit (timersTicked s) else timersTicked s) := by
  simp only [tick, timersTicked, decide_eq_true_eq]

theorem receiving_iff : s.receiving = true ↔ s.net.state ≠ .standby ∧ s.radio.tx.key = false := by
  simp [State.receiving, State.running]

theorem key_tick (tx : Transmitter) : tx.tick.key = tx.key := by cases tx <;> rfl

theorem receiving_timersTicked (s : State) : (timersTicked s).receiving = s.receiving := by
  simp [State.receiving, State.running, timersTicked, RadioBlock.tick, key_tick]

theorem radio_linkByte (s : State) : (linkByte s).radio = s.radio := by rw [linkByte_frame]

/-- The link adds to what has been taken whole. -/
theorem arrived_linkByte (s : State) : s.model.arrived <+: (linkByte s).model.arrived := by
  unfold linkByte
  split
  · exact List.prefix_rfl
  · split
    · exact List.prefix_append _ _
    · exact List.prefix_rfl

/-- Between two bits the line and the receiver stand. -/
theorem tick_between_bits (between : s.radio.bitPhase + 19200 < second) :
    (tick s).radio.rxd = s.radio.rxd ∧ (tick s).radio.receiver = s.radio.receiver := by
  rw [tick_eq, if_neg (Nat.not_le.mpr between), radio_linkByte]
  exact ⟨rfl, rfl⟩

/-- A bit that comes round while the port takes frames goes to the receiver, and what it completes is handed on. -/
theorem tick_bit_taken (hb : s.store.block = some c) (line : s.radio.rxd = b :: rest)
    (comes : second ≤ s.radio.bitPhase + 19200) (receiving : s.receiving = true) :
    (tick s).radio.rxd = rest ∧ (tick s).radio.receiver = (s.radio.receiver.takeBit c.shiftLength b).1 ∧
    (s.model.arrived ++ (s.radio.receiver.takeBit c.shiftLength b).2.map BodyCheck.command) <+:
      (tick s).model.arrived := by
  have taken : radioBit (timersTicked s) = { timersTicked s with
      radio := { (timersTicked s).radio with
        rxd := rest, receiver := (s.radio.receiver.takeBit c.shiftLength b).1 }
      model := { s.model with
        arrived := s.model.arrived ++ (s.radio.receiver.takeBit c.shiftLength b).2.map BodyCheck.command } } := by
    have port : (timersTicked s).receiving = true := (receiving_timersTicked s).trans receiving
    have line' : (timersTicked s).radio.rxd = b :: rest := line
    have block : (timersTicked s).store.block = some c := hb
    simp only [radioBit, line', block, port]
    rfl
  have handed := arrived_linkByte (radioBit (timersTicked s))
  rw [tick_eq, if_pos comes, radio_linkByte]
  rw [taken] at handed ⊢
  exact ⟨rfl, rfl, handed⟩

/-- A bit that comes round in STANDBY or with KEY asserted is lost, and a body being taken with it. -/
theorem tick_bit_lost (hb : s.store.block = some c) (line : s.radio.rxd = b :: rest)
    (comes : second ≤ s.radio.bitPhase + 19200) (closed : s.receiving = false) :
    (tick s).radio.rxd = rest ∧ (tick s).radio.receiver = .hunt 0 := by
  have lost : (radioBit (timersTicked s)).radio = { (timersTicked s).radio with rxd := rest, receiver := .hunt 0 } := by
    have port : (timersTicked s).receiving = false := (receiving_timersTicked s).trans closed
    have line' : (timersTicked s).radio.rxd = b :: rest := line
    have block : (timersTicked s).store.block = some c := hb
    simp only [radioBit, line', block, port]
    rfl
  rw [tick_eq, if_pos comes, radio_linkByte, lost]
  exact ⟨rfl, rfl⟩

end BitClock

/-- The check value of the CRC, over the nine ASCII digits, byte after byte (R78). -/
theorem crc_check_value :
    crc [0x31#8, 0x32#8, 0x33#8, 0x34#8, 0x35#8, 0x36#8, 0x37#8, 0x38#8, 0x39#8] = 0x29B1#16 := by
  have digit1 : crcByte 0xFFFF#16 0x31#8 = 0xC782#16 := by decide
  have digit2 : crcByte 0xC782#16 0x32#8 = 0x3DBA#16 := by decide
  have digit3 : crcByte 0x3DBA#16 0x33#8 = 0x5BCE#16 := by decide
  have digit4 : crcByte 0x5BCE#16 0x34#8 = 0x5349#16 := by decide
  have digit5 : crcByte 0x5349#16 0x35#8 = 0x4560#16 := by decide
  have digit6 : crcByte 0x4560#16 0x36#8 = 0x2EF4#16 := by decide
  have digit7 : crcByte 0x2EF4#16 0x37#8 = 0x7718#16 := by decide
  have digit8 : crcByte 0x7718#16 0x38#8 = 0xA12B#16 := by decide
  have digit9 : crcByte 0xA12B#16 0x39#8 = 0x29B1#16 := by decide
  simp only [crc, List.foldl_cons, List.foldl_nil, digit1, digit2, digit3, digit4, digit5, digit6, digit7, digit8,
    digit9]

/-- Settles O60: the two frames read back through `checkBody_tallyBody` and `checkBody_beaconBody`, a body is dropped by
its first failing check, and the receiver takes bits, a whole frame, and the bits of the line at rest. -/
theorem framesReadBack : Obligations.FramesReadBack := by
  refine ⟨fun shiftLength station f low high range => checkBody_tallyBody low high range,
    fun shiftLength station pos interval low high longest range => checkBody_beaconBody low high longest range,
    by rw [crcField, crc_check_value]; rfl, ?_, fun shiftLength window b => rfl,
    fun shiftLength len rest low high length => takeBits_frame shiftLength low high length,
    fun shiftLength len bad => takeBits_badLength shiftLength bad, ?_⟩
  · rintro shiftLength len station kind payload check result low high length check_length longest rfl
    rw [checkBody_eq shiftLength low high length]
    refine ⟨fun wrong => if_neg wrong, fun right => ?_⟩
    rw [if_pos right]
    refine ⟨checkContent_kind, checkContent_station, ?_, ?_⟩
    · rintro rfl station_low station_high
      rw [show (0x61#8 : Byte) = beaconKind from rfl, (checkContent_known _ _ station_low station_high).1]
      exact ⟨fun other => checkBeacon_length (by omega), fun nine => ⟨checkBeacon_range (by omega),
        checkBeacon_passed (by omega)⟩⟩
    · rintro rfl station_low station_high
      rw [show (0x74#8 : Byte) = tallyKind from rfl, (checkContent_known _ _ station_low station_high).2]
      refine ⟨fun bad => checkTally_length (by omega), fun room exact_length => ?_⟩
      have passes := tally_inRange_iff longest room
      rw [checkTally_of_length room (by omega)]
      exact ⟨fun bad => if_neg fun ok => passes.mp ok bad, fun sound => ⟨_, if_pos (passes.mpr sound)⟩⟩
  · intro s c b rest at_rest hb line
    refine ⟨_, step_atRest at_rest, tick_between_bits, fun comes => ?_⟩
    cases port : s.receiving with
    | true =>
      obtain ⟨running, released⟩ := receiving_iff.mp port
      obtain ⟨moved, received, handed⟩ := tick_bit_taken hb line comes port
      rw [arrived_atRest at_rest] at handed
      exact ⟨moved, fun _ _ => ⟨received, handed⟩, fun closed => (closed.elim running (by simp [released])).elim⟩
    | false =>
      obtain ⟨moved, lost⟩ := tick_bit_lost hb line comes port
      exact ⟨moved, fun running released => by simp [receiving_iff.mpr ⟨running, released⟩] at port, fun _ => lost⟩

end Sys2Proof.Machine.PitNet
end

-- Proofs of the family 06_field_inputs_and_outputs: the outputs and the nozzle guard through every step, the nozzles, the
-- stop line, and the meter inputs with the volume that their pulses deliver.

section
/-! Proofs of the family 06_field_inputs_and_outputs. The valves, the pump and the nozzle guard rest on a few field lines and
on the states of the hoses: which operations leave those, and that every other operation of a hose is made of entries to
hose states, which drive the outputs and evaluate the guard (R105, R108, R109). -/

namespace Sys2Proof.Machine.FieldLines

open Sys2Proof Sys2Proof.Machine Sys2Proof.Machine.ServiceIntervals Sys2Proof.Machine.ShiftClock

/-! ### The outputs -/

/-- The two valves of a hose stand as its state and the stop line ask (R108). -/
def ValvesFollow (k : Fin 4) (s : State) : Prop :=
  (s.hose k).ctl.mainValve = mainValveOf s.field.stop.active (s.hose k).ctl.state ∧
  (s.hose k).ctl.slowValve = slowValveOf s.field.stop.active (s.hose k).ctl.state

theorem mainValveOf_iff (stop : Bool) (st : HoseState) : mainValveOf stop st = true ↔ st = .flowing ∧ stop = false := by
  simp [mainValveOf, and_comm]

theorem slowValveOf_iff (stop : Bool) (st : HoseState) :
    slowValveOf stop st = true ↔ (st = .flowing ∨ st = .slowing) ∧ stop = false := by
  simp [slowValveOf, and_comm]

theorem pumpDemand_iff (s : State) : s.pumpDemand = true ↔ ∃ k : Fin 4, (s.hose k).ctl.state = .starting ∨
    (s.hose k).ctl.state = .flowing ∨ (s.hose k).ctl.state = .slowing := by
  rw [State.pumpDemand, anyTable_hoses]
  refine exists_congr fun k => ?_
  cases (s.hose k).ctl.state <;> simp [HoseState.pumpDemand]

/-- The outputs in the model's operations: the valves hose by hose, and the pump as the demand asks. -/
theorem outputsFollow_iff (s : State) :
    OutputsFollow s ↔ (∀ k, ValvesFollow k s) ∧ s.field.pumpRun = s.pumpDemand := by
  simp only [OutputsFollow, ValvesFollow, ← mainValveOf_iff, ← slowValveOf_iff, ← pumpDemand_iff, ← Bool.eq_iff_iff]

/-! ### What the outputs and the guard rest on -/

/-- The outputs stand, with the stop line and the hose states that they follow. -/
structure KeepsOutputs (s t : State) : Prop where
  stop  : t.field.stop.active = s.field.stop.active
  pump  : t.field.pumpRun = s.field.pumpRun
  hoses : ∀ k, (t.hose k).ctl.state = (s.hose k).ctl.state ∧ (t.hose k).ctl.mainValve = (s.hose k).ctl.mainValve ∧
    (t.hose k).ctl.slowValve = (s.hose k).ctl.slowValve

/-- The guard stands as well, with the nozzles and the fitted mask that it is evaluated on. -/
structure KeepsLines (s t : State) : Prop extends KeepsOutputs s t where
  block   : t.store.block = s.store.block
  running : t.running = s.running
  matched : t.field.matched = s.field.matched
  nozzles : ∀ k, (t.hose k).nozzle.active = (s.hose k).nozzle.active

theorem KeepsLines.refl (s : State) : KeepsLines s s :=
  ⟨⟨rfl, rfl, fun _ => ⟨rfl, rfl, rfl⟩⟩, rfl, rfl, rfl, fun _ => rfl⟩

/-- An operation that touches neither the hoses nor the field lines, and leaves the station running or at rest. -/
theorem KeepsLines.of_running {s t : State} (running : t.running = s.running)
    (h : t.store.block = s.store.block ∧ t.field = s.field ∧ t.hoses = s.hoses) : KeepsLines s t := by
  obtain ⟨block, field, hoses⟩ := h
  have hose := hose_congr hoses
  exact ⟨⟨by rw [field], by rw [field], fun k => by rw [hose]; exact ⟨rfl, rfl, rfl⟩⟩, block, running, by rw [field],
    fun k => by rw [hose]⟩

theorem KeepsLines.of_frame {s t : State} (h : t.net = s.net ∧ t.store.block = s.store.block ∧ t.field = s.field ∧
    t.hoses = s.hoses) : KeepsLines s t :=
  .of_running (by rw [State.running, h.1]; rfl) h.2

/-- A hose rewritten with its state, its valves and its nozzle kept. -/
theorem keepsLines_mapHose (s : State) (h : Fin 4) (f : Hose → Hose)
    (hf : ∀ x, (f x).ctl.state = x.ctl.state ∧ (f x).ctl.mainValve = x.ctl.mainValve ∧
      (f x).ctl.slowValve = x.ctl.slowValve ∧ (f x).nozzle.active = x.nozzle.active) : KeepsLines s (s.mapHose h f) := by
  have kept : ∀ k, ((s.mapHose h f).hose k).ctl.state = (s.hose k).ctl.state ∧
      ((s.mapHose h f).hose k).ctl.mainValve = (s.hose k).ctl.mainValve ∧
      ((s.mapHose h f).hose k).ctl.slowValve = (s.hose k).ctl.slowValve ∧
      ((s.mapHose h f).hose k).nozzle.active = (s.hose k).nozzle.active := fun k => by
    rw [hose_mapHose]
    split
    · exact hf _
    · exact ⟨rfl, rfl, rfl, rfl⟩
  exact ⟨⟨rfl, rfl, fun k => ⟨(kept k).1, (kept k).2.1, (kept k).2.2.1⟩⟩, rfl, rfl, rfl, fun k => (kept k).2.2.2⟩

theorem pumpDemand_congr {s t : State} (h : ∀ k, (t.hose k).ctl.state = (s.hose k).ctl.state) :
    t.pumpDemand = s.pumpDemand := by
  rw [Bool.eq_iff_iff, pumpDemand_iff, pumpDemand_iff]
  simp only [h]

theorem ValvesFollow.of_keeps {k : Fin 4} {s t : State} (v : ValvesFollow k s) (q : KeepsOutputs s t) :
    ValvesFollow k t := by
  obtain ⟨state, main, slow⟩ := q.hoses k
  simpa only [ValvesFollow, q.stop, state, main, slow] using v

theorem outputsFollow_of_keeps {s t : State} (o : OutputsFollow s) (q : KeepsOutputs s t) : OutputsFollow t := by
  rw [outputsFollow_iff] at o ⊢
  exact ⟨fun k => (o.1 k).of_keeps q, by rw [q.pump, o.2, pumpDemand_congr fun k => (q.hoses k).1]⟩

theorem guardSound_of_keeps {s t : State} (g : GuardSound s) (q : KeepsLines s t) : GuardSound t := by
  have state := fun k => (q.hoses k).1
  simpa only [GuardSound, State.fitted, q.running, q.matched, q.block, q.nozzles, state] using g

/-! ### Entries to hose states -/

/-- An entry to a state drives the valves of its hose and leaves the others' (R108). -/
theorem valvesFollow_enterState {h k : Fin 4} {st : HoseState} {s : State} (v : k = h ∨ ValvesFollow k s) :
    ValvesFollow k (enterState h st s) := by
  unfold ValvesFollow
  rw [ctl_enterState, stop_enterState]
  split
  · exact ⟨rfl, rfl⟩
  · next other => exact v.resolve_left other

theorem pumpRun_drivePump (s : State) : (drivePump s).field.pumpRun = s.pumpDemand := by
  unfold drivePump
  cases s.pumpDemand with
  | false => rfl
  | true => cases on : s.field.pumpRun <;> simp [on]

/-- An entry to a state drives the pump as the demand then asks (R109). -/
theorem pumpRun_enterState (h : Fin 4) (st : HoseState) (s : State) :
    (enterState h st s).field.pumpRun = (enterState h st s).pumpDemand := by
  have driven : ∀ u, (guardEval (drivePump u)).field.pumpRun = (guardEval (drivePump u)).pumpDemand := fun u => by
    rw [(field_guardEval _).2.1, pumpRun_drivePump]
    exact (pumpDemand_congr fun k => by rw [(parts_guardEval k _).1, hose_drivePump]).symm
  exact driven _

theorem outputsFollow_enterState (h : Fin 4) (st : HoseState) {s : State} (o : OutputsFollow s) :
    OutputsFollow (enterState h st s) := by
  rw [outputsFollow_iff] at o ⊢
  exact ⟨fun k => valvesFollow_enterState (.inr (o.1 k)), pumpRun_enterState h st s⟩

/-- What the operations of the hoses are made of: entries to hose states, and updates that leave the lines. -/
inductive HoseMoves : State → State → Prop
  | kept {s t : State} (q : KeepsLines s t) : HoseMoves s t
  | entered (h : Fin 4) (st : HoseState) (s : State) : HoseMoves s (enterState h st s)
  | trans {s t u : State} (a : HoseMoves s t) (b : HoseMoves t u) : HoseMoves s u

theorem outputsFollow_of_moves {s t : State} (m : HoseMoves s t) (o : OutputsFollow s) : OutputsFollow t := by
  induction m with
  | kept q => exact outputsFollow_of_keeps o q.toKeepsOutputs
  | entered h st s => exact outputsFollow_enterState h st o
  | trans _ _ first second => exact second (first o)

theorem guardSound_of_moves {s t : State} (m : HoseMoves s t) (g : GuardSound s) : GuardSound t := by
  induction m with
  | kept q => exact guardSound_of_keeps g q
  | entered h st s => exact guardSound_enterState h st s
  | trans _ _ first second => exact second (first g)

theorem HoseMoves.refl (s : State) : HoseMoves s s := .kept (.refl s)

theorem HoseMoves.of_frame {s t : State} (h : t.net = s.net ∧ t.store.block = s.store.block ∧ t.field = s.field ∧
    t.hoses = s.hoses) : HoseMoves s t := .kept (.of_frame h)

theorem moves_ite {p : Prop} [Decidable p] {s t u : State} (ht : HoseMoves s t) (hu : HoseMoves s u) :
    HoseMoves s (if p then t else u) := by
  split
  · exact ht
  · exact hu

theorem moves_eachHose {f : Fin 4 → State → State} (hf : ∀ k s, HoseMoves s (f k s)) (s : State) :
    HoseMoves s (eachHose f s) :=
  eachHose_inv (HoseMoves s) f (fun k t q => q.trans (hf k t)) s (.refl s)

/-- A controller rewritten with its state and its valves kept. -/
theorem moves_mapCtl (s : State) (h : Fin 4) (f : HoseControl → HoseControl)
    (hf : ∀ x, (f x).state = x.state ∧ (f x).mainValve = x.mainValve ∧ (f x).slowValve = x.slowValve) :
    HoseMoves s (s.mapCtl h f) :=
  .kept (keepsLines_mapHose s h _ fun x => ⟨(hf x.ctl).1, (hf x.ctl).2.1, (hf x.ctl).2.2, rfl⟩)

theorem moves_mapContext (s : State) (h : Fin 4) (f : IssueContext → IssueContext) : HoseMoves s (s.mapContext h f) :=
  moves_mapCtl s h _ fun _ => ⟨rfl, rfl, rfl⟩

theorem moves_mapMeter (s : State) (h : Fin 4) (f : Meter → Meter) : HoseMoves s (s.mapMeter h f) :=
  .kept (keepsLines_mapHose s h _ fun _ => ⟨rfl, rfl, rfl, rfl⟩)

theorem moves_mapHealth (s : State) (h : Fin 4) (f : Health → Health) : HoseMoves s (s.mapHealth h f) :=
  .kept (keepsLines_mapHose s h _ fun _ => ⟨rfl, rfl, rfl, rfl⟩)

/-! ### The course of an issue -/

section Course

variable (c : ConfigBlock) (h : Fin 4) (s : State)

theorem moves_markIssue : HoseMoves s (markIssue h s) := moves_mapContext s h _

theorem moves_cancel : HoseMoves s (cancel h s) := by
  have released : HoseMoves s (releaseReservation s) := .of_frame (by simp)
  refine (released.trans (moves_mapCtl _ h _ ?_)).trans (.entered h _ _)
  exact fun _ => ⟨rfl, rfl, rfl⟩

theorem moves_close (r : EndReason) : HoseMoves s (close c h r s) := by
  refine (((moves_mapContext s h _).trans (moves_mapCtl _ h _ ?_)).trans (moves_mapMeter _ h _)).trans
    (.entered h .closing _)
  exact fun _ => ⟨rfl, rfl, rfl⟩

theorem moves_endIssue (r : EndReason) : HoseMoves s (endIssue c h r s) :=
  moves_ite (moves_cancel h s) (moves_ite (moves_close c h s r) (.refl s))

theorem moves_reportHoseOut : HoseMoves s (reportHoseOut s) := .of_frame (by simp)

theorem moves_freezeAction : HoseMoves s (freezeAction c h s) := by
  have closed := (moves_markIssue h s).trans (moves_close c h _ .fault)
  unfold freezeAction
  split
  case h_1 => exact .entered h _ s
  case h_2 => exact moves_cancel h s
  case h_3 | h_4 | h_5 => exact closed
  case h_6 | h_7 | h_8 => exact .refl s

theorem moves_freeze : HoseMoves s (freeze c h s) :=
  ((moves_mapHealth s h _).trans (moves_freezeAction c h _)).trans (moves_reportHoseOut _)

theorem moves_healthEvent : HoseMoves s (healthEvent c h s) := by
  have counted := fun n => moves_mapHealth s h fun x => { x with count := n }
  exact moves_ite (.refl s) (moves_ite ((counted _).trans (moves_freeze c h _)) (counted _))

theorem moves_issueHealthEvent : HoseMoves s (issueHealthEvent c h s) :=
  (moves_markIssue h s).trans (moves_healthEvent c h _)

theorem moves_drip (n : Nat) (b : Bool) : HoseMoves s (drip c h n b s) :=
  moves_ite (.refl s) (moves_mapHealth s h _)

theorem moves_leaveEnded : HoseMoves s (leaveEnded h s) := by
  refine (moves_mapCtl s h _ ?_).trans (.entered h _ _)
  exact fun _ => ⟨rfl, rfl, rfl⟩

theorem moves_examineNozzle : HoseMoves s (examineNozzle h s) := moves_ite (moves_leaveEnded h s) (.refl s)

theorem moves_enterEnded (n : Nat) : HoseMoves s (enterEnded c h n s) := by
  refine ((moves_mapMeter s h _).trans (moves_mapCtl _ h _ ?_)).trans (.entered h .ended _)
  exact fun _ => ⟨rfl, rfl, rfl⟩

theorem moves_completionHealth (a b : Bool) (n : Nat) : HoseMoves s (completionHealth c h a b n s) := by
  have event : ∀ (b : Bool) s, HoseMoves s (if b then issueHealthEvent c h s else s) := fun b s =>
    moves_ite (moves_issueHealthEvent c h s) (.refl s)
  have both := (event a s).trans (event b _)
  simp only [completionHealth]
  split
  · exact both
  · exact both.trans (moves_drip c h _ n _)

theorem moves_complete (x : IssueContext) : HoseMoves s (complete c h x s) := by
  have recorded : ∀ v n y u, HoseMoves u (raise .issueEnded (commitRecord h y (charge c v n u))) :=
    fun v n y u => .of_frame (by simp)
  exact (((moves_enterEnded c h s x.limit).trans (recorded _ _ _ _)).trans
    (moves_completionHealth c h _ _ _ _)).trans (moves_examineNozzle h _)

theorem moves_enterSlowing : HoseMoves s (enterSlowing c h s) := (moves_mapMeter s h _).trans (.entered h _ _)

theorem moves_enterFlowing (x : IssueContext) : HoseMoves s (enterFlowing c h x s) := by
  have flowing := ((moves_mapMeter s h Meter.enterFlowing).trans (moves_mapCtl _ h
    (fun k => { k with primeTimer := none, startTimer := some (c.startTime * second) }) fun _ => ⟨rfl, rfl, rfl⟩)).trans
    (.entered h .flowing _)
  exact moves_ite (flowing.trans (moves_enterSlowing c h _)) flowing

theorem moves_enterStarting (x : IssueContext) : HoseMoves s (enterStarting c h x s) := by
  have starting := ((moves_mapMeter s h Meter.startIssue).trans (moves_mapCtl _ h
    (fun k => { k with authTimer := none }) fun _ => ⟨rfl, rfl, rfl⟩)).trans (.entered h .starting _)
  exact moves_ite (starting.trans (moves_enterFlowing c h _ x))
    (starting.trans (moves_mapCtl _ h _ fun _ => ⟨rfl, rfl, rfl⟩))

theorem moves_endPrimeWait (x : IssueContext) : HoseMoves s (endPrimeWait c h x s) := by
  unfold endPrimeWait
  refine HoseMoves.trans ?_ (moves_enterFlowing c h _ x)
  exact .kept ⟨⟨rfl, rfl, fun _ => ⟨rfl, rfl, rfl⟩⟩, rfl, rfl, rfl, fun _ => rfl⟩

/-! ### Pulses, nozzles and bars -/

theorem moves_actOnFindings (f : PulseFindings) : HoseMoves s (actOnFindings c h f s) := by
  unfold actOnFindings
  exact moves_ite (((moves_markIssue h s).trans (moves_close c h _ .fault)).trans (moves_healthEvent c h _))
    (moves_ite (moves_close c h s .limit) (moves_ite (moves_enterSlowing c h s) (.refl s)))

theorem moves_issuePulse (x : IssueContext) (ticks : Nat) : HoseMoves s (issuePulse c h x ticks s) := by
  have timers : ∀ st x, (pulseTimers c st x).state = x.state ∧ (pulseTimers c st x).mainValve = x.mainValve ∧
      (pulseTimers c st x).slowValve = x.slowValve := fun st x => by
    unfold pulseTimers
    split <;> exact ⟨rfl, rfl, rfl⟩
  exact ((moves_mapMeter s h _).trans (moves_mapCtl _ h _ (timers _))).trans (moves_actOnFindings c h _ _)

theorem moves_creepPulse : HoseMoves s (creepPulse c h s) := by
  simp only [creepPulse]
  exact moves_ite ((moves_mapMeter s h _).trans (moves_healthEvent c h _)) (moves_mapMeter s h _)

theorem moves_takePulse (ticks : Nat) : HoseMoves s (takePulse c h ticks s) := by
  unfold takePulse
  split
  · exact moves_issuePulse c h s _ ticks
  · exact moves_creepPulse c h s

theorem moves_setMeterInput : HoseMoves s (setMeterInput c h s) := by
  unfold setMeterInput
  exact .kept (keepsLines_mapHose s h _ fun _ => ⟨rfl, rfl, rfl, rfl⟩)

theorem moves_liftAt : HoseMoves s (liftAt c h s) := by
  unfold liftAt
  split
  · exact moves_enterStarting c h s _
  · exact .refl s

theorem moves_hangAt : HoseMoves s (hangAt c h s) :=
  moves_ite (moves_close c h s .hung) (moves_ite (moves_leaveEnded h s) (.refl s))

theorem moves_barEndsIssue (v : Nat) : HoseMoves s (barEndsIssue c v s) :=
  moves_eachHose (fun h s => by
    unfold barHose
    split
    · exact .refl s
    · exact moves_ite (moves_endIssue c h s .barred) (.refl s)) s

theorem moves_thaw : HoseMoves s (thaw h s) :=
  ((moves_mapHealth s h _).trans (moves_reportHoseOut _)).trans (moves_ite (.entered h .idle _) (.refl _))

/-! ### RESTART, presentations and tallies -/

theorem moves_restartHose : HoseMoves s (restartHose c h s) := by
  unfold restartHose
  refine moves_ite (moves_cancel h s) (moves_ite ?_ (.refl s))
  split
  · exact .refl s
  · exact (moves_mapContext s h _).trans (moves_complete c h _ _)

theorem moves_acceptPresentation (p : Presentation) (e : VehicleEntry) (x : PresentCheck) :
    HoseMoves s (acceptPresentation c h p e x s) := by
  have stored : HoseMoves s (takeReservation (storePresented c p e s)) := .of_frame (by simp)
  refine (stored.trans (moves_mapCtl _ h _ ?_)).trans (.entered h .authorized _)
  exact fun _ => ⟨rfl, rfl, rfl⟩

theorem moves_mergeIntoView (cls : Fin 8) (f : TallyFrame) : HoseMoves s (mergeIntoView c cls f s) := by
  have stored : ∀ (b : Bool) e v, HoseMoves s
      (if b then storeEntry c e { s with view := v } else { s with view := v }) := fun b e v =>
    moves_ite (.of_frame (by simp)) (.of_frame ⟨rfl, rfl, rfl, rfl⟩)
  have ended : ∀ (b : Bool) u, HoseMoves u (if b then barEndsIssue c f.vehicle u else u) := fun b u =>
    moves_ite (moves_barEndsIssue c u f.vehicle) (.refl u)
  have reported : ∀ a b u, HoseMoves u (mergeReport c f.vehicle a b u) := fun a b u => .of_frame (by simp)
  unfold mergeIntoView
  exact ((stored _ _ _).trans (ended _ _)).trans (reported _ _ _)

theorem moves_takeTally (i : Fin 16) (f : TallyFrame) : HoseMoves s (takeTally c i f s) := by
  have viewed : ∀ u, HoseMoves u (tallyAtView c f u) := fun u => by
    unfold tallyAtView
    split
    · exact .of_frame ⟨rfl, rfl, rfl, rfl⟩
    · exact moves_ite (.of_frame (by simp)) (moves_mergeIntoView c u _ f)
  have clock : HoseMoves s (tallyAtClock c f.shift s) := .of_frame (by simp)
  have heard : ∀ u, HoseMoves u (u.mapPeer i Peer.heard) := fun u => .kept (.of_running rfl (by simp))
  exact moves_ite (clock.trans (viewed _)) ((clock.trans (viewed _)).trans (heard _))

end Course

end Sys2Proof.Machine.FieldLines
end

section
/-! The outputs and the nozzle guard through every command and every step (R104 to R106, R108, R109). -/

namespace Sys2Proof.Machine.FieldLines

open Sys2Proof Sys2Proof.Machine Sys2Proof.Machine.ServiceIntervals Sys2Proof.Machine.ShiftClock
  Sys2Proof.Machine.PeersAndNet

/-! ### Commands made of entries to hose states -/

/-- A request served moves the hoses as its request does. -/
theorem keepsLines_serve (kind : Nat) (s : State) (request : State → Reply) :
    KeepsLines s (serve kind s request) ∨ KeepsLines (request s).1 (serve kind s request) := by
  rcases Nat.lt_or_ge s.link.responses.length responseRoom with room | full
  · rw [serve_taken _ _ _ room]
    exact .inr (.of_frame ⟨rfl, rfl, rfl, rfl⟩)
  · rw [serve_discarded _ _ _ full]
    exact .inl (.of_frame (by simp))

theorem HoseMoves.serve {kind : Nat} {s : State} {request : State → Reply} (m : HoseMoves s (request s).1) :
    HoseMoves s (serve kind s request) :=
  (keepsLines_serve kind s request).elim .kept fun q => m.trans (.kept q)

/-- A station that goes from one running net state to another goes on running. -/
theorem moves_of_running {s t : State} (before : s.net.state ≠ .standby) (after : t.net.state ≠ .standby)
    (h : t.store.block = s.store.block ∧ t.field = s.field ∧ t.hoses = s.hoses) : HoseMoves s t :=
  .kept (.of_running ((running_true after).trans (running_true before).symm) h)

theorem running_setNetState {st : NetState} {s : State} (running : st ≠ .standby) :
    (setNetState st s).net.state ≠ .standby := by
  rw [net_setNetState]
  exact running

theorem moves_beaconAtPeer (c : ConfigBlock) (i : Fin 16) (n : Nat) (s : State) : HoseMoves s (beaconAtPeer c i n s) := by
  simp only [beaconAtPeer]
  split
  · next rejoins =>
    exact moves_of_running (by rw [rejoins.1]; decide) (running_setNetState (by decide)) (by simp)
  · exact .kept (.of_running rfl (by simp))

theorem moves_takeBeacon (c : ConfigBlock) (i : Fin 16) (p : ClockPos) (n : Nat) (s : State) :
    HoseMoves s (takeBeacon c i p n s) := by
  have clock : HoseMoves s (beaconAtClock c p s) := .of_frame (by simp)
  exact moves_ite (.kept (.of_running rfl (by simp))) (clock.trans (moves_beaconAtPeer c i n _))

theorem moves_missAtPeer (i : Fin 16) (s : State) : HoseMoves s (missAtPeer i s) := by
  simp only [missAtPeer]
  split
  · next isolates => exact moves_of_running (by rw [isolates.1]; decide) (running_setNetState (by decide)) (by simp)
  · exact .kept (.of_running rfl (by simp))

theorem moves_leaveListenIn {s : State} (listening : s.net.state = .listenIn) : HoseMoves s (leaveListenIn s) :=
  moves_of_running (by rw [listening]; decide)
    (running_setNetState (by cases somePresent s.net.peers <;> decide)) (by simp)

theorem moves_barRequest (b : Bool) (v : Nat) (s : State) : HoseMoves s (barRequest b v s).1 := by
  rcases barRequest_cases b v s with e | ⟨c, x, e⟩ <;> rw [e]
  · exact .refl s
  · have changed : ∀ y, HoseMoves s (changeEntry c y s) := fun y => .of_frame (by simp)
    exact moves_ite ((changed _).trans (moves_barEndsIssue c _ x.number)) (changed _)

/-- RESTART is accepted in a running station, which then listens in (R71, R175). -/
theorem moves_restartStation (c : ConfigBlock) {s : State} (running : s.running = true) :
    HoseMoves s (restartStation c s) := by
  have noted : HoseMoves s (s.mapNotices restartEntry) := .of_frame (by simp)
  have listens : ∀ u : State, u.running = true →
      HoseMoves u (startSchedules (enterListenIn c (u.mapRadio restartRadio))) := fun u hu => by
    refine .kept (.of_running ?_ (by simp))
    rw [hu, State.running, (startSchedules_frame _).2.2.2.2.2.1, net_enterListenIn]
    rfl
  have runs : (eachHose (restartHose c) (s.mapNotices restartEntry)).running = true := by
    rw [State.running, eachHose_keeps (fun s : State => s.net) _ (by intro h s; simp)]
    exact running
  unfold restartStation
  exact (noted.trans (moves_eachHose (moves_restartHose c) _)).trans (listens _ runs)

/-- The commands that do more to the lines than enter hose states: they change the configuration, start or stop the
station, or report a nozzle or the stop line. -/
def beyondHoseMoves : Instr → Bool
  | .powerOn => true
  | .loadConfig _ _ => true
  | .start _ _ => true
  | .standby => true
  | .nozzleChange _ _ => true
  | .stopLineChange _ => true
  | _ => false

/-- Every other command is made of entries to hose states. -/
theorem exec_moves {i : Instr} {s t : State} (hi : beyondHoseMoves i = false) (h : exec i s = .next t) :
    HoseMoves s t := by
  have still : HoseMoves s s := .refl s
  cases i with
  | powerOn | loadConfig _ _ | start _ _ | standby | nozzleChange _ _ | stopLineChange _ => cases hi
  | readStatus | readWatchList | unknownRequestKind _ => rw [← next_inj h]; exact HoseMoves.serve still
  | readHose _ => rw [← next_inj h]; exact HoseMoves.serve (by rwa [fst_readHose])
  | readVehicle _ => rw [← next_inj h]; exact HoseMoves.serve (by rwa [fst_readVehicle])
  | readOldest => rw [← next_inj h]; exact HoseMoves.serve (by rwa [fst_readOldest])
  | readPeers _ => rw [← next_inj h]; exact HoseMoves.serve (by rwa [fst_readPeers])
  | readNotices => rw [← next_inj h]; exact HoseMoves.serve (.of_frame (by simp [readNotices, accept]))
  | restart =>
    rw [← next_inj h]
    refine HoseMoves.serve ?_
    rcases restart_cases s with e | ⟨c, running, -, e⟩ <;> rw [e]
    · exact still
    · exact moves_restartStation c running
  | presentVehicle hose v hours flag total preset =>
    rw [← next_inj h]
    refine HoseMoves.serve ?_
    rcases presentVehicle_cases hose v hours flag total preset s with e | ⟨c, k, p, x, f, -, e⟩ <;> rw [e]
    · exact still
    · exact moves_acceptPresentation c k s p x f
  | stopHose hose =>
    rw [← next_inj h]
    refine HoseMoves.serve ?_
    rcases stopHose_cases hose s with e | ⟨c, k, e⟩ <;> rw [e]
    · exact still
    · exact moves_endIssue c k s .stop
  | clearHoseFault hose =>
    rw [← next_inj h]
    refine HoseMoves.serve ?_
    rcases clearHoseFault_cases hose s with e | ⟨k, e⟩ <;> rw [e]
    · exact still
    · exact moves_thaw k s
  | barVehicle v => rw [← next_inj h]; exact HoseMoves.serve (moves_barRequest true v s)
  | clearBar v => rw [← next_inj h]; exact HoseMoves.serve (moves_barRequest false v s)
  | recordService v type hours flag total =>
    rw [← next_inj h]
    exact HoseMoves.serve (.of_frame (by
      rcases recordService_cases v type hours flag total s with e | ⟨c, x, e⟩ <;> simp [e]))
  | stageAllowance cls litres =>
    rw [← next_inj h]
    exact HoseMoves.serve (.of_frame (by rcases stageAllowance_cases cls litres s with e | ⟨k, e⟩ <;> simp [e]))
  | clearStaged cls =>
    rw [← next_inj h]
    exact HoseMoves.serve (.of_frame (by rcases clearStaged_cases cls s with e | ⟨k, e⟩ <;> simp [e]))
  | releaseRecord n =>
    rw [← next_inj h]
    exact HoseMoves.serve (.of_frame (by rcases releaseRecord_cases n s with e | ⟨rest, e⟩ <;> simp [e]))
  | ackNotice n =>
    rw [← next_inj h]
    exact HoseMoves.serve (.of_frame (by rcases ackNotice_cases n s with e | ⟨k, e⟩ <;> simp [e]))
  | setNoticeEnables m =>
    rw [← next_inj h]
    exact HoseMoves.serve (.of_frame (by rcases setNoticeEnables_cases m s with e | e <;> simp [e]))
  | linkFrameDiscard _ | responseSentWhole => rw [← next_inj h]; exact .of_frame ⟨rfl, rfl, rfl, rfl⟩
  | beacon n p k =>
    rcases execBeacon_cases h with rfl | ⟨cause, rfl⟩ | ⟨c, i, -, -, -, rfl⟩
    · exact still
    · exact .of_frame (by simp)
    · exact moves_takeBeacon c i p k s
  | tally n f =>
    rcases execTally_cases h with rfl | ⟨cause, rfl⟩ | ⟨c, i, -, -, -, rfl⟩
    · exact still
    · exact .of_frame (by simp)
    · exact moves_takeTally c s i f
  | responseBacklogDiscard | radioFrameDrop _ | tallyDue | accessLimitExpiry _ | transmissionEnd | carrierDetectFall =>
    rw [← next_inj h]; exact moves_ite (.of_frame (by simp)) still
  | carrierDetectRise => rw [← next_inj h]; exact moves_ite still (.of_frame (by simp))
  | shiftClockSecond =>
    rcases execShiftClockSecond_cases h with rfl | ⟨c, -, rfl⟩
    · exact still
    · exact .of_frame (by simp)
  | missTimerExpiry n =>
    rcases execMissTimerExpiry_cases h with rfl | ⟨i, rfl⟩
    · exact still
    · exact moves_missAtPeer i s
  | listenTimerExpiry =>
    rw [← next_inj h]
    split
    · next listening => exact moves_leaveListenIn listening.1
    · exact still
  | beaconDue =>
    rcases execBeaconDue_cases h with rfl | ⟨c, f, rfl⟩
    · exact still
    · exact .of_frame (by simp)
  | quietTimePassed =>
    rcases execQuietTimePassed_cases h with rfl | ⟨c, n, m, rfl⟩ | ⟨c, n, rfl⟩
    · exact still
    · exact .of_frame (by simp)
    · exact .of_frame (by simp)
  | backoffSlotEnd =>
    rcases execBackoffSlotEnd_cases h with rfl | ⟨c, n, rfl⟩
    · exact still
    · exact .of_frame (by simp)
  | meterPulse hose ticks =>
    rcases execMeterPulse_cases h with rfl | ⟨c, k, rfl⟩
    · exact still
    · exact (moves_setMeterInput c k s).trans (moves_takePulse c k _ ticks)
  | authTimerExpiry hose =>
    rcases execAuthTimerExpiry_cases h with rfl | ⟨k, rfl⟩
    · exact still
    · exact (moves_cancel k s).trans (.of_frame (by simp))
  | primeWaitExpiry hose =>
    rcases execPrimeWaitExpiry_cases h with rfl | ⟨c, k, x, rfl⟩
    · exact still
    · exact moves_endPrimeWait c k s x
  | startTimerExpiry hose =>
    rcases execStartTimerExpiry_cases h with rfl | ⟨c, k, rfl⟩
    · exact still
    · exact moves_close c k s .noStart
  | noFlowTimerExpiry hose =>
    rcases execNoFlowTimerExpiry_cases h with rfl | ⟨c, k, rfl⟩
    · exact still
    · exact moves_close c k s .noFlow
  | settleTimerExpiry hose =>
    rcases execSettleTimerExpiry_cases h with rfl | ⟨k, f, rfl⟩
    · exact still
    · exact moves_mapMeter s k f
  | creepQuietTimerExpiry hose =>
    rcases execCreepQuietTimerExpiry_cases h with rfl | ⟨k, f, rfl⟩
    · exact still
    · exact moves_mapMeter s k f
  | overrunWindowExpiry hose =>
    rcases execOverrunWindowExpiry_cases h with rfl | ⟨c, k, x, -, rfl⟩
    · exact still
    · exact moves_complete c k s x

/-! ### The stop line, nozzles, START and STANDBY -/

/-- An operation that does to each hose something of its own: what it establishes at its hose and leaves at the others
holds of all of them in the end. -/
theorem eachHose_each {P : Fin 4 → State → Prop} {f : Fin 4 → State → State}
    (hf : ∀ h k s, k = h ∨ P k s → P k (f h s)) (k : Fin 4) (s : State) : P k (eachHose f s) := by
  have later : ∀ h u, P k u → P k (f h u) := fun h u hu => hf h k u (.inr hu)
  have own : ∀ u, P k (f k u) := fun u => hf k k u (.inl rfl)
  unfold eachHose
  match k with
  | 0 => exact later 3 _ (later 2 _ (later 1 _ (own _)))
  | 1 => exact later 3 _ (later 2 _ (own _))
  | 2 => exact later 3 _ (own _)
  | 3 => exact own _

/-- What an operation establishes at any hose holds after it is made on every hose. -/
theorem eachHose_last {P : State → Prop} {f : Fin 4 → State → State} (hf : ∀ h s, P (f h s)) (s : State) :
    P (eachHose f s) := hf 3 _

theorem valvesFollow_driveValves {h k : Fin 4} {s : State} (v : k = h ∨ ValvesFollow k s) :
    ValvesFollow k (driveValves h s) := by
  unfold ValvesFollow driveValves
  rw [hose_mapCtl]
  split
  · exact ⟨rfl, rfl⟩
  · next other => exact v.resolve_left other

theorem state_driveValves (h k : Fin 4) (s : State) :
    ((driveValves h s).hose k).ctl.state = (s.hose k).ctl.state := by
  unfold driveValves
  rw [hose_mapCtl]
  split <;> rfl

/-- Every valve driven after a change of the stop line, which moves no hose state, leaves the outputs in order (R107, R108). -/
theorem outputsFollow_driven {s u : State} (o : OutputsFollow s) (pump : u.field.pumpRun = s.field.pumpRun)
    (hoses : u.hoses = s.hoses) : OutputsFollow (eachHose driveValves u) := by
  have state : ∀ k, ((eachHose driveValves u).hose k).ctl.state = (s.hose k).ctl.state := fun k => by
    rw [eachHose_keeps (fun s : State => (s.hose k).ctl.state) driveValves fun h s => state_driveValves h k s,
      hose_congr hoses]
  have driven : (eachHose driveValves u).field = u.field :=
    eachHose_keeps (fun s : State => s.field) driveValves (by intro h s; simp) u
  rw [outputsFollow_iff] at o ⊢
  refine ⟨fun k => eachHose_each (fun h k s => valvesFollow_driveValves) k u, ?_⟩
  rw [driven, pump, o.2, pumpDemand_congr state]

theorem outputsFollow_changeStop (c : ConfigBlock) (b : Bool) {s : State} (o : OutputsFollow s) :
    OutputsFollow (changeStop c b s) := by
  have driven : OutputsFollow (eachHose driveValves (setStop c b s)) := outputsFollow_driven o rfl rfl
  have ended := outputsFollow_of_moves (moves_eachHose (fun k s => moves_endIssue c k s .estop) _) driven
  simp only [changeStop]
  split
  · exact ended
  · exact driven

/-- The guard rests on neither the stop line nor the valves. -/
theorem guardSound_changeStop (c : ConfigBlock) (b : Bool) {s : State} (g : GuardSound s) :
    GuardSound (changeStop c b s) := by
  have set : GuardSound (setStop c b s) := g
  have driven := eachHose_inv GuardSound driveValves (fun h u hu => by
    refine (guardSound_congr (s := u) (t := driveValves h u) rfl rfl rfl fun k => ⟨?_, state_driveValves h k u⟩).mpr hu
    unfold driveValves
    rw [hose_mapCtl]
    split <;> rfl) _ set
  have ended := guardSound_of_moves (moves_eachHose (fun k s => moves_endIssue c k s .estop) _) driven
  simp only [changeStop]
  split
  · exact ended
  · exact driven

theorem keepsOutputs_guardEval (s : State) : KeepsOutputs s (guardEval s) := by
  obtain ⟨stop, pump, -, -⟩ := field_guardEval s
  exact ⟨by rw [stop], pump, fun k => by rw [(parts_guardEval k s).1]; exact ⟨rfl, rfl, rfl⟩⟩

theorem keepsOutputs_setNozzle (c : ConfigBlock) (h : Fin 4) (lifted : Bool) (s : State) :
    KeepsOutputs s (setNozzle c h lifted s) :=
  ⟨rfl, rfl, fun k => by rw [setNozzle, hose_mapHose]; split <;> exact ⟨rfl, rfl, rfl⟩⟩

/-- A change of a nozzle evaluates the guard, and then its hose moves (R102, R105). -/
theorem moves_changeNozzle (c : ConfigBlock) (h : Fin 4) (lifted : Bool) (s : State) :
    HoseMoves (guardEval (setNozzle c h lifted s)) (changeNozzle c h lifted s) :=
  moves_ite (moves_liftAt c h _) (moves_hangAt c h _)

theorem outputsFollow_changeNozzle (c : ConfigBlock) (h : Fin 4) (lifted : Bool) {s : State} (o : OutputsFollow s) :
    OutputsFollow (changeNozzle c h lifted s) := by
  have set := outputsFollow_of_keeps o (keepsOutputs_setNozzle c h lifted s)
  exact outputsFollow_of_moves (moves_changeNozzle c h lifted s) (outputsFollow_of_keeps set (keepsOutputs_guardEval _))

theorem guardSound_changeNozzle (c : ConfigBlock) (h : Fin 4) (lifted : Bool) (s : State) :
    GuardSound (changeNozzle c h lifted s) :=
  guardSound_of_moves (moves_changeNozzle c h lifted s) (guardSound_guardEval _)

theorem outputsFollow_of_frame {s t : State} (o : OutputsFollow s) (h : t.field = s.field ∧ t.hoses = s.hoses) :
    OutputsFollow t := by
  have hose := hose_congr h.2
  exact outputsFollow_of_keeps o ⟨by rw [h.1], by rw [h.1], fun k => by rw [hose]; exact ⟨rfl, rfl, rfl⟩⟩

theorem outputsFollow_startStation (c : ConfigBlock) (p : ClockPos) {s : State} (o : OutputsFollow s) :
    OutputsFollow (startStation c p s) := by
  have started : KeepsOutputs s (startedStation c p s) :=
    ⟨by simp [startedStation, withMatched], by simp [startedStation, withMatched], fun k => by
      rw [hose_congr (hoses_startedStation c p s)]; exact ⟨rfl, rfl, rfl⟩⟩
  exact outputsFollow_of_keeps (outputsFollow_of_keeps o started) (keepsOutputs_guardEval _)

theorem guardSound_of_standby {s : State} (standby : s.running = false) : GuardSound s := fun running => by
  rw [standby] at running
  cases running

/-- STANDBY stops a running station (R174). -/
theorem guardSound_standbyStation (s : State) : GuardSound (standbyStation s) := by
  refine guardSound_of_standby ?_
  cases running : s.running with
  | true => simp [State.running, net_standbyStation running]
  | false => simp [standbyStation, running]

/-! ### POWER_ON and LOAD_CONFIG -/

/-- At power-on every hose is out of service, its valves and the pump off (R177). -/
theorem outputsFollow_powerOn (s : State) : OutputsFollow (powerOn s) := by
  simp [OutputsFollow, powerOn, State.powerOn, State.hose, Hose.powerOn, HoseControl.powerOn]

/-- A hose under a new configuration enters a state, which drives its valves and the pump (R148). -/
theorem valvesFollow_hoseUnderConfig (c : ConfigBlock) (h k : Fin 4) (s : State) (v : k = h ∨ ValvesFollow k s) :
    ValvesFollow k (hoseUnderConfig c h s) := by
  have kept : ∀ f, KeepsOutputs s (s.mapHealth h f) := fun f =>
    (keepsLines_mapHose s h (fun x => { x with health := f x.health }) fun _ => ⟨rfl, rfl, rfl, rfl⟩).toKeepsOutputs
  unfold hoseUnderConfig
  exact valvesFollow_enterState (v.imp_right fun follow => follow.of_keeps (kept _))

theorem pumpRun_hoseUnderConfig (c : ConfigBlock) (h : Fin 4) (s : State) :
    (hoseUnderConfig c h s).field.pumpRun = (hoseUnderConfig c h s).pumpDemand := by
  unfold hoseUnderConfig
  exact pumpRun_enterState h _ _

/-- An installed configuration enters every hose to a state, whatever stood before (R148, R172). -/
theorem outputsFollow_installConfig (c : ConfigBlock) (s : State) : OutputsFollow (installConfig c s) := by
  have pump : ∀ u, (eachHose (hoseUnderConfig c) u).field.pumpRun = (eachHose (hoseUnderConfig c) u).pumpDemand :=
    eachHose_last (P := fun u => u.field.pumpRun = u.pumpDemand) (pumpRun_hoseUnderConfig c)
  have hoses : ∀ u, OutputsFollow (eachHose (hoseUnderConfig c) u) := fun u =>
    (outputsFollow_iff _).mpr ⟨fun k => eachHose_each (valvesFollow_hoseUnderConfig c) k u, pump u⟩
  exact outputsFollow_of_moves (moves_reportHoseOut _) (hoses _)

theorem outputsFollow_loadConfig (part : Nat) (bytes : List Byte) {s : State} (o : OutputsFollow s) :
    OutputsFollow (loadConfig part bytes s).1 := by
  rcases partsTaken_loadConfig part bytes s with ⟨store, -, e⟩ | ⟨p1, p2, -, -, e⟩ <;> rw [e]
  · exact outputsFollow_of_frame o ⟨rfl, rfl⟩
  · exact outputsFollow_installConfig _ s

/-- A configuration is installed in STANDBY, where the guard is not evaluated (R105, R171). -/
theorem guardSound_loadConfig (part : Nat) (bytes : List Byte) {s : State} (g : GuardSound s) :
    GuardSound (loadConfig part bytes s).1 := by
  rcases partsTaken_loadConfig part bytes s with ⟨store, block, e⟩ | ⟨p1, p2, standby, -, e⟩ <;> rw [e]
  · exact guardSound_of_keeps g (.of_frame ⟨rfl, block, rfl, rfl⟩)
  · exact guardSound_of_standby (by simpa [State.running] using standby)

/-! ### Every command -/

theorem outputsFollow_serve {kind : Nat} {s : State} {request : State → Reply} (o : OutputsFollow s)
    (h : OutputsFollow (request s).1) : OutputsFollow (serve kind s request) :=
  (keepsLines_serve kind s request).elim (fun q => outputsFollow_of_keeps o q.toKeepsOutputs)
    fun q => outputsFollow_of_keeps h q.toKeepsOutputs

theorem guardSound_serve {kind : Nat} {s : State} {request : State → Reply} (g : GuardSound s)
    (h : GuardSound (request s).1) : GuardSound (serve kind s request) :=
  (keepsLines_serve kind s request).elim (guardSound_of_keeps g) (guardSound_of_keeps h)

theorem exec_outputsFollow {i : Instr} {s t : State} (o : OutputsFollow s) (h : exec i s = .next t) :
    OutputsFollow t := by
  cases hi : beyondHoseMoves i with
  | false => exact outputsFollow_of_moves (exec_moves hi h) o
  | true =>
    cases i with
    | powerOn => rw [← next_inj h]; exact outputsFollow_powerOn s
    | loadConfig part bytes => rw [← next_inj h]; exact outputsFollow_serve o (outputsFollow_loadConfig part bytes o)
    | start shift time =>
      rw [← next_inj h]
      refine outputsFollow_serve o ?_
      rcases start_cases shift time s with e | ⟨c, -, -, -, e⟩ <;> rw [e]
      · exact o
      · exact outputsFollow_startStation c _ o
    | standby =>
      rw [← next_inj h]
      refine outputsFollow_serve o ?_
      rcases standby_cases s with e | e <;> rw [e]
      · exact o
      · exact outputsFollow_of_frame o (by simp)
    | nozzleChange hose b =>
      rcases execNozzleChange_cases h with rfl | ⟨c, k, rfl⟩
      · exact o
      · exact outputsFollow_changeNozzle c k b o
    | stopLineChange b =>
      rcases execStopLineChange_cases h with rfl | ⟨c, rfl⟩
      · exact o
      · exact outputsFollow_changeStop c b o
    | _ => cases hi

theorem exec_guardSound {i : Instr} {s t : State} (g : GuardSound s) (h : exec i s = .next t) : GuardSound t := by
  cases hi : beyondHoseMoves i with
  | false => exact guardSound_of_moves (exec_moves hi h) g
  | true =>
    cases i with
    | powerOn => rw [← next_inj h]; exact guardSound_of_standby rfl
    | loadConfig part bytes => rw [← next_inj h]; exact guardSound_serve g (guardSound_loadConfig part bytes g)
    | start shift time =>
      rw [← next_inj h]
      refine guardSound_serve g ?_
      rcases start_cases shift time s with e | ⟨c, -, -, -, e⟩ <;> rw [e]
      · exact g
      · exact guardSound_guardEval _
    | standby =>
      rw [← next_inj h]
      refine guardSound_serve g ?_
      rcases standby_cases s with e | e <;> rw [e]
      · exact g
      · exact guardSound_standbyStation s
    | nozzleChange hose b =>
      rcases execNozzleChange_cases h with rfl | ⟨c, k, rfl⟩
      · exact g
      · exact guardSound_changeNozzle c k b s
    | stopLineChange b =>
      rcases execStopLineChange_cases h with rfl | ⟨c, rfl⟩
      · exact g
      · exact guardSound_changeStop c b g
    | _ => cases hi

/-- A tick moves timers and run counts, and no filtered state, output or hose state (R99, R127). -/
theorem keepsLines_tick (s : State) : KeepsLines s (tick s) := by
  have hose : ∀ (x : Hose) c h ms, (x.tick c h ms).ctl = x.ctl.tick ∧ (x.tick c h ms).nozzle.active = x.nozzle.active :=
    fun x c h ms => by
      unfold Hose.tick
      split
      · exact ⟨rfl, rfl⟩
      · split
        · split <;> exact ⟨rfl, rfl⟩
        · exact ⟨rfl, rfl⟩
  have field : ∀ (f : FieldBlock) c ms, (f.tick c ms).pumpRun = f.pumpRun ∧ (f.tick c ms).matched = f.matched :=
    fun f c ms => by
      unfold FieldBlock.tick
      split
      · exact ⟨rfl, rfl⟩
      · split <;> exact ⟨rfl, rfl⟩
  refine ⟨⟨?_, ?_, fun k => ?_⟩, by simp, ?_, ?_, fun k => ?_⟩
  · rw [tick_field]; exact stop_active_tick _ _ _
  · rw [tick_field]; exact (field _ _ _).1
  · rw [tick_hose, (hose _ _ _ _).1]; exact ⟨rfl, rfl, rfl⟩
  · simp [State.running]
  · rw [tick_field]; exact (field _ _ _).2
  · rw [tick_hose]; exact (hose _ _ _ _).2

/-- Settles O48: a step is a command or a tick; a command leaves what the outputs and the guard rest on, enters hose states
one after another, or drives the valves and evaluates the guard itself. -/
theorem stepKeepsOutputs : Obligations.StepKeepsOutputs := by
  refine ⟨fun s t o he => ?_, fun s t g he => ?_⟩
  · rcases step_cases s with ⟨i, rest, -, e⟩ | ⟨-, i, m, e⟩ | ⟨-, e⟩
    · exact exec_outputsFollow (s := { s with pending := rest }) o (e.symm.trans he)
    · exact exec_outputsFollow (s := { s with model := m }) o (e.symm.trans he)
    · rw [← next_inj (e.symm.trans he)]
      exact outputsFollow_of_keeps o (keepsLines_tick s).toKeepsOutputs
  · rcases step_cases s with ⟨i, rest, -, e⟩ | ⟨-, i, m, e⟩ | ⟨-, e⟩
    · exact exec_guardSound (s := { s with pending := rest }) g (e.symm.trans he)
    · exact exec_guardSound (s := { s with model := m }) g (e.symm.trans he)
    · rw [← next_inj (e.symm.trans he)]
      exact guardSound_of_keeps g (keepsLines_tick s)

end Sys2Proof.Machine.FieldLines
end

section
/-! What a tick does to the field inputs (R99, R100, R103), and which of the events of the inputs have come about. -/

namespace Sys2Proof.Machine.FieldLines

open Sys2Proof Sys2Proof.Machine Sys2Proof.Machine.ServiceIntervals Sys2Proof.Machine.ShiftClock
  Sys2Proof.Machine.PeersAndNet Sys2Proof.Machine.PitNet

section Inputs

variable {s : State} {c : ConfigBlock} {h : Fin 4}

/-! ### Samples -/

theorem sampled_line (activeHigh : Bool) (x : LineInput) :
    x.sampled activeHigh = { x with run := runAfter (x.level == activeHigh) x.active x.run } := rfl

/-- A nozzle input is sampled at the tick at which a millisecond begins. -/
theorem nozzle_tick (hb : s.store.block = some c) (fitted : c.fitted[h] = true) : ((tick s).hose h).nozzle =
    if s.field.samplePhase = 0 then { (s.hose h).nozzle with
      run := runAfter ((s.hose h).nozzle.level == c.nozzleHigh[h]) (s.hose h).nozzle.active (s.hose h).nozzle.run }
    else (s.hose h).nozzle := by
  rw [tick_hose, hb]
  simp [Hose.tick, fitted, sampled_line]

/-- So is the stop line. -/
theorem stop_tick (hb : s.store.block = some c) : (tick s).field.stop =
    if s.field.samplePhase = 0 then { s.field.stop with
      run := runAfter (s.field.stop.level == c.stopHigh) s.field.stop.active s.field.stop.run }
    else s.field.stop := by
  rw [tick_field, hb]
  by_cases begins : s.field.samplePhase = 0 <;> simp [FieldBlock.tick, begins, sampled_line]

theorem clocks_tick (s : State) : (tick s).field.samplePhase = (s.field.samplePhase + 1) % 100 ∧
    (tick s).field.sincePumpOn = s.field.sincePumpOn + 1 := by
  rw [tick_field]
  unfold FieldBlock.tick
  split
  · exact ⟨rfl, rfl⟩
  · split <;> exact ⟨rfl, rfl⟩

/-- A meter input is sampled at every tick. -/
theorem meterInput_tick (hb : s.store.block = some c) (fitted : c.fitted[h] = true) : ((tick s).hose h).meterInput =
    (s.hose h).meterInput.sampled c.meterFilter c.edgeMode[h] c.meterHigh[h] := by
  rw [tick_hose, hb]
  simp [Hose.tick, fitted]

theorem meter_tick (s : State) (h : Fin 4) : ((tick s).hose h).meter = (s.hose h).meter.tick := by
  rw [tick_hose]
  unfold Hose.tick
  split
  · rfl
  · split <;> rfl

/-! ### Events that have come about -/

/-- Only a hose brings the events of a hose. -/
theorem comesAbout_hose {i : Instr} (hb : s.store.block = some c) (hose : ofHose i = true) :
    ComesAbout i s ↔ ∃ k, i ∈ hoseDue c s k := by
  have no_response : i ∉ responseDue s := fun hi => by
    rw [mem_responseDue hi] at hose
    cases hose
  have no_station : i ∉ stationDue c s := fun hi => by
    simp only [stationDue, List.mem_append, mem_dueWhen, List.mem_flatMap, or_assoc] at hi
    rcases hi with ⟨-, rfl⟩ | ⟨-, rfl⟩ | ⟨x, -, -, rfl⟩ | ⟨-, rfl⟩ <;> cases hose
  have no_schedule : i ∉ schedulesDue c s := fun hi => by
    simp only [schedulesDue, List.mem_append, mem_dueWhen, or_assoc] at hi
    rcases hi with ⟨-, rfl⟩ | ⟨-, rfl⟩ | ⟨-, rfl⟩ | ⟨-, rfl⟩ <;> cases hose
  have no_transmitter : i ∉ transmitterDue c s.radio := fun hi => by
    cases hose.symm.trans (ofHose_of_ofTransmitter (ofTransmitter_of_mem_transmitterDue hi))
  rw [comesAbout_iff]
  simp [ownDue, hb, radioDue_eq, no_response, no_station, no_schedule, no_transmitter, hoseIndices, Fin.exists_fin_succ]

theorem nozzleChange_mem_hoseDue {n : Nat} {lifted : Bool} (k : Fin 4) : .nozzleChange n lifted ∈ hoseDue c s k ↔
    c.fitted[k] = true ∧ c.nozzleFilter ≤ (s.hose k).nozzle.run ∧ n = k.val + 1 ∧
      lifted = !(s.hose k).nozzle.active := by
  by_cases fitted : c.fitted[k] = true <;> simp [hoseDue, fitted]

theorem meterPulse_mem_hoseDue {n ticks : Nat} (k : Fin 4) : .meterPulse n ticks ∈ hoseDue c s k ↔
    c.fitted[k] = true ∧ c.meterFilter ≤ (s.hose k).meterInput.run ∧ n = k.val + 1 ∧ ticks = 0 := by
  by_cases fitted : c.fitted[k] = true <;> simp [hoseDue, fitted]

/-- A nozzle change has come about when the run count has reached the filter length (R100). -/
theorem nozzleChange_comesAbout (hb : s.store.block = some c) (fitted : c.fitted[h] = true) :
    ComesAbout (.nozzleChange (h.val + 1) (!(s.hose h).nozzle.active)) s ↔ c.nozzleFilter ≤ (s.hose h).nozzle.run := by
  rw [comesAbout_hose hb rfl]
  simp only [nozzleChange_mem_hoseDue]
  constructor
  · rintro ⟨k, -, reached, number, -⟩
    obtain rfl : h = k := by omega
    exact reached
  · exact fun reached => ⟨h, fitted, reached, rfl, rfl⟩

/-- So has a pulse (R100, R103). -/
theorem meterPulse_comesAbout (hb : s.store.block = some c) (fitted : c.fitted[h] = true) :
    ComesAbout (.meterPulse (h.val + 1) 0) s ↔ c.meterFilter ≤ (s.hose h).meterInput.run := by
  rw [comesAbout_hose hb rfl]
  simp only [meterPulse_mem_hoseDue]
  constructor
  · rintro ⟨k, -, reached, number, -⟩
    obtain rfl : h = k := by omega
    exact reached
  · exact fun reached => ⟨h, fitted, reached, rfl, trivial⟩

/-- And a change of the stop line. -/
theorem stopLineChange_comesAbout (hb : s.store.block = some c) :
    ComesAbout (.stopLineChange (!s.field.stop.active)) s ↔ c.stopFilter ≤ s.field.stop.run := by
  rw [comesAbout_station_or_schedule hb rfl rfl Instr.noConfusion]
  simp [stationDue, schedulesDue]

end Inputs

end Sys2Proof.Machine.FieldLines
end

section
/-! A change of a nozzle (R102, R105, R133 to R135, R138, R141). -/

namespace Sys2Proof.Machine.FieldLines

open Sys2Proof Sys2Proof.Machine Sys2Proof.Machine.ServiceIntervals Sys2Proof.Machine.ShiftClock

/-! ### The guard where it counts nothing -/

/-- An evaluation that finds the guard unmatched already, or no offence, moves the match state alone (R105). -/
theorem guardEval_uncounted {s : State} (running : s.running = true)
    (uncounted : s.field.matched = true → hoseIndices.any s.offends = false) :
    guardEval s = withMatched (!hoseIndices.any s.offends) s := by
  cases matched : s.field.matched with
  | true =>
    rw [guardEval_no_offence running matched (uncounted matched), uncounted matched, Bool.not_false, ← matched]
    rfl
  | false => simp [guardEval, running, matched, withMatched]

/-! ### The nozzle seen and the guard evaluated -/

/-- The state in which a change of a nozzle finds its hose: the nozzle set and the guard evaluated. -/
def nozzleSeen (c : ConfigBlock) (h : Fin 4) (lifted : Bool) (s : State) : State := guardEval (setNozzle c h lifted s)

section Nozzle

variable (c : ConfigBlock) (h : Fin 4) (lifted : Bool) (s : State)

theorem changeNozzle_lift : changeNozzle c h true s = liftAt c h (nozzleSeen c h true s) := rfl

theorem changeNozzle_hang : changeNozzle c h false s = hangAt c h (nozzleSeen c h false s) := rfl

theorem parts_nozzleSeen (k : Fin 4) : ((nozzleSeen c h lifted s).hose k).ctl = (s.hose k).ctl ∧
    ((nozzleSeen c h lifted s).hose k).meter = (s.hose k).meter ∧
    ((nozzleSeen c h lifted s).hose k).health = (s.hose k).health := by
  simp only [nozzleSeen, parts_guardEval, setNozzle, hose_mapHose]
  split <;> exact ⟨rfl, rfl, rfl⟩

theorem hose_setNozzle : (setNozzle c h lifted s).hose h =
    { s.hose h with nozzle := ⟨lifted, 0, lifted == c.nozzleHigh[h]⟩ } := by simp [setNozzle]

theorem nozzle_nozzleSeen :
    ((nozzleSeen c h lifted s).hose h).nozzle = ⟨lifted, 0, lifted == c.nozzleHigh[h]⟩ := by
  simp [nozzleSeen, parts_guardEval, hose_setNozzle]

theorem context_nozzleSeen (k : Fin 4) : (nozzleSeen c h lifted s).context k = s.context k :=
  congrArg HoseControl.context (parts_nozzleSeen c h lifted s k).1

theorem field_nozzleSeen : (nozzleSeen c h lifted s).field.stop = s.field.stop ∧
    (nozzleSeen c h lifted s).field.pumpRun = s.field.pumpRun ∧
    (nozzleSeen c h lifted s).field.sincePumpOn = s.field.sincePumpOn := by
  obtain ⟨stop, pump, since, -⟩ := field_guardEval (setNozzle c h lifted s)
  exact ⟨stop, pump, since⟩

/-- The nozzle of a hose is no other hose's offence. -/
theorem offends_setNozzle {k : Fin 4} (other : k ≠ h) : (setNozzle c h lifted s).offends k = s.offends k := by
  simp [State.offends, State.fitted, setNozzle, hose_mapHose, other]

theorem guardCount_setNozzle (k : Fin 4) :
    ((setNozzle c h lifted s).hose k).guardCount = (s.hose k).guardCount := by
  rw [setNozzle, hose_mapHose]
  split <;> rfl

/-- A change that comes to the state `t` is what the command does, and leaves the other hoses, the station and the records. -/
theorem exec_nozzleChange {c : ConfigBlock} {h : Fin 4} {lifted : Bool} {s t : State} (hb : s.store.block = some c)
    (fitted : c.fitted[h] = true) (e : changeNozzle c h lifted s = t) (change : (s.hose h).nozzle.active = !lifted) :
    exec (.nozzleChange (h.val + 1) lifted) s = .next t ∧ (∀ j : Fin 4, j ≠ h → (t.hose j).same (s.hose j)) ∧
    KeepsStation s t ∧ t.records = s.records := by
  subst e
  have taken : execNozzleChange (h.val + 1) lifted s = .next (changeNozzle c h lifted s) := by
    simp [execNozzleChange, fieldHose_fitted hb fitted, change]
  exact ⟨taken, fun j other => Hose.same_of (changeNozzle_others c lifted h j s other), by simp [KeepsStation], by simp⟩

end Nozzle

/-! ### What the hose does then -/

section Hose

variable {c : ConfigBlock} {h : Fin 4} {s : State}

theorem liftAt_authorized {x : IssueContext} (authorized : (s.hose h).ctl.state = .authorized)
    (context : s.context h = some x) : liftAt c h s = enterStarting c h x s := by
  simp [liftAt, authorized, context]

theorem liftAt_other (other : (s.hose h).ctl.state ≠ .authorized) : liftAt c h s = s := by
  simp [liftAt, beq_false_of_ne other]

theorem hangAt_issuing (issuing : (s.hose h).ctl.state.issuing = true) : hangAt c h s = close c h .hung s := by
  simp [hangAt, issuing]

theorem hangAt_ended (ended : (s.hose h).ctl.state = .ended) : hangAt c h s = leaveEnded h s := by
  simp [hangAt, ended, HoseState.issuing]

theorem hangAt_other (still : (s.hose h).ctl.state = .closing ∨ (s.hose h).ctl.state = .idle ∨
    (s.hose h).ctl.state = .outOfService) : hangAt c h s = s := by
  rcases still with state | state | state <;> simp [hangAt, state, HoseState.issuing]

/-- The hose leaves ENDED with its context discarded, its meter and its health kept (R141). -/
theorem leaveEnded_own (h : Fin 4) (s : State) : (leaveEnded h s).context h = none ∧
    ((leaveEnded h s).hose h).ctl.state = (if (s.hose h).health.frozen = true then .outOfService else .idle) ∧
    ((leaveEnded h s).hose h).meter = (s.hose h).meter := by
  simp [leaveEnded, State.context, ctl_enterState, parts_enterState, restingState]

/-- What a new issue finds whether it waits for the pump or not (R113, R133). -/
theorem enterStarting_always (c : ConfigBlock) (h : Fin 4) (x : IssueContext) (s : State) :
    (enterStarting c h x s).context h = s.context h ∧ (enterStarting c h x s).field.pumpRun = true ∧
    ((enterStarting c h x s).hose h).ctl.authTimer = none ∧
    ((enterStarting c h x s).hose h).meter.fraction = 512 ∧ ((enterStarting c h x s).hose h).meter.delivered = 0 ∧
    ((enterStarting c h x s).hose h).meter.overrun = 0 := by
  obtain ⟨ctl, meter, -, -, -, pump⟩ := enterStarting_own c h x s _ rfl
  rw [State.context, ctl, meter]
  generalize (if s.field.pumpRun = true then s.field.sincePumpOn else 0) = run
  split
  · refine ⟨rfl, pump, rfl, ?_⟩
    split <;> exact ⟨rfl, rfl, rfl⟩
  · exact ⟨rfl, pump, rfl, rfl, rfl, rfl⟩

/-- With the prime time not run out, the hose waits in STARTING for the rest of it (R134). -/
theorem enterStarting_waits (c : ConfigBlock) (h : Fin 4) (x : IssueContext) (s : State)
    (wait : (s.field.pumpRun = false ∧ 0 < c.primeTime) ∨
      (s.field.pumpRun = true ∧ s.field.sincePumpOn < c.primeTime * 100000)) :
    ((enterStarting c h x s).hose h).ctl.state = .starting ∧ ((enterStarting c h x s).hose h).ctl.mainValve = false ∧
    ((enterStarting c h x s).hose h).ctl.slowValve = false ∧
    ((enterStarting c h x s).hose h).ctl.primeTimer = some (c.primeTime * 100000 -
      if s.field.pumpRun = true then s.field.sincePumpOn else 0) := by
  have short : ¬ c.primeTime * second ≤ if s.field.pumpRun = true then s.field.sincePumpOn else 0 := by
    unfold second
    rcases wait with ⟨off, some_time⟩ | ⟨on, short⟩
    · simp [off]; omega
    · simp [on]; omega
  rw [(enterStarting_own c h x s _ rfl).1, if_neg short]
  exact ⟨rfl, rfl, rfl, rfl⟩

/-- With the prime time run out, the hose is in FLOWING at once, or with a slow point of 0 in SLOWING (R134, R135). -/
theorem enterStarting_flows (c : ConfigBlock) (h : Fin 4) (x : IssueContext) (s : State)
    (clear : s.field.stop.active = false)
    (primed : (s.field.pumpRun = true ∧ c.primeTime * 100000 ≤ s.field.sincePumpOn) ∨ c.primeTime = 0) :
    ((enterStarting c h x s).hose h).ctl.state = (if x.slowPoint = 0 then .slowing else .flowing) ∧
    ((enterStarting c h x s).hose h).ctl.mainValve = decide (x.slowPoint ≠ 0) ∧
    ((enterStarting c h x s).hose h).ctl.slowValve = true ∧
    ((enterStarting c h x s).hose h).meter.firstPulse = true ∧
    ((enterStarting c h x s).hose h).ctl.startTimer = some (c.startTime * 100000) ∧
    (x.slowPoint = 0 → ((enterStarting c h x s).hose h).meter.settle = some (c.settleTime * 100000)) := by
  have run_out : c.primeTime * second ≤ if s.field.pumpRun = true then s.field.sincePumpOn else 0 := by
    unfold second
    rcases primed with ⟨on, long⟩ | none_needed
    · simpa [on] using long
    · simp [none_needed]
  obtain ⟨ctl, meter, -⟩ := enterStarting_own c h x s _ rfl
  rw [ctl, meter, if_pos run_out, if_pos run_out, clear]
  refine ⟨rfl, by simp, rfl, ?_, rfl, fun zero => by rw [if_pos zero]; rfl⟩
  split <;> rfl

end Hose

/-! ### The guard at a lift and at a hang -/

section Guard

variable {c : ConfigBlock} {h : Fin 4} {s : State}

/-- A nozzle lifted at a hose in IDLE or OUT_OF_SERVICE offends (R104). -/
theorem offends_lifted (hb : s.store.block = some c) (fitted : c.fitted[h] = true)
    (rests : (s.hose h).ctl.state = .idle ∨ (s.hose h).ctl.state = .outOfService) :
    (setNozzle c h true s).offends h = true := by
  rw [offends_eq_true, fitted_eq (s := setNozzle c h true s) hb]
  simp [setNozzle, fitted, rests]

/-- A hung nozzle, and one of a hose in CLOSING, offends not (R104). -/
theorem not_offends_of_still {lifted : Bool} (still : (s.hose h).ctl.state = .closing ∨ lifted = false) :
    (setNozzle c h lifted s).offends h = false := by
  rw [offends_eq_false]
  intro _ active
  simp only [setNozzle, hose_mapHose_self] at active ⊢
  simp [still.resolve_right (by simp [active])]

theorem any_offends {u : State} (offence : u.offends h = true) : hoseIndices.any u.offends = true := by
  rw [← Bool.not_eq_false, no_offence_iff]
  exact fun none_offends => by simp [none_offends h] at offence

/-- A lift where a hung nozzle is expected unmatches a matched guard, counts once and raises NOZZLE_GUARD (R105). -/
theorem nozzleSeen_offence (hb : s.store.block = some c) (fitted : c.fitted[h] = true)
    (rests : (s.hose h).ctl.state = .idle ∨ (s.hose h).ctl.state = .outOfService) (running : s.net.state ≠ .standby)
    (matched : s.field.matched = true) :
    (nozzleSeen c h true s).field.matched = false ∧
    ((nozzleSeen c h true s).hose h).guardCount = min 65535 ((s.hose h).guardCount + 1) ∧
    Raised .nozzleGuard s (nozzleSeen c h true s) ∧
    (GuardSound s → ∀ j : Fin 4, j ≠ h →
      ((nozzleSeen c h true s).hose j).guardCount = (s.hose j).guardCount) := by
  have offence := offends_lifted hb fitted rests
  have run : (setNozzle c h true s).running = true := running_true running
  obtain ⟨-, counts, raised, -⟩ := guardEval_matched run (s := setNozzle c h true s) matched
  have unmatched : (nozzleSeen c h true s).field.matched = false := by
    rw [nozzleSeen, matched_guardEval _ run, any_offends offence]
    rfl
  refine ⟨unmatched, ?_, congrArg NoticeEntry.pending (raised unmatched), fun sound j other => ?_⟩
  · rw [nozzleSeen, counts h, if_pos offence, guardCount_setNozzle]
    rfl
  · have clear : s.offends j = false := ((guardSound_iff s).mp sound (running_true running)).mp matched j
    rw [nozzleSeen, counts j, offends_setNozzle c h true s other, clear, guardCount_setNozzle]
    rfl

/-- An unmatched guard counts a lift where a hung nozzle is expected no more (R105). -/
theorem nozzleSeen_unmatched (hb : s.store.block = some c) (fitted : c.fitted[h] = true)
    (rests : (s.hose h).ctl.state = .idle ∨ (s.hose h).ctl.state = .outOfService) (running : s.net.state ≠ .standby)
    (unmatched : s.field.matched = false) : nozzleSeen c h true s = setNozzle c h true s := by
  have run : (setNozzle c h true s).running = true := running_true running
  have still : (setNozzle c h true s).field.matched = false := unmatched
  have uncounted := guardEval_uncounted run fun matched => Bool.noConfusion (still.symm.trans matched)
  rw [nozzleSeen, uncounted, any_offends (offends_lifted hb fitted rests), Bool.not_true, ← still]
  rfl

/-- A change at a hose that does not offend moves the match state of a sound guard alone (R105, R138). -/
theorem nozzleSeen_still {lifted : Bool} (sound : GuardSound s) (running : s.net.state ≠ .standby)
    (still : (s.hose h).ctl.state = .closing ∨ lifted = false) :
    ∃ b, nozzleSeen c h lifted s = withMatched b (setNozzle c h lifted s) := by
  refine ⟨_, guardEval_uncounted (running_true running) fun matched => (no_offence_iff _).mpr fun k => ?_⟩
  by_cases own : k = h
  · rw [own]
    exact not_offends_of_still still
  · rw [offends_setNozzle c h lifted s own]
    exact ((guardSound_iff s).mp sound (running_true running)).mp matched k

end Guard

/-! ### The obligation -/

section Obligation

variable {c : ConfigBlock} {h : Fin 4} {s : State}

/-- At a hose that a lift does not start and a hang does not close or free, the change is the nozzle's alone. -/
theorem changeNozzle_seen {lifted : Bool} (still : (s.hose h).ctl.state = .closing ∨ (s.hose h).ctl.state = .idle ∨
    (s.hose h).ctl.state = .outOfService) : changeNozzle c h lifted s = nozzleSeen c h lifted s := by
  have state := congrArg HoseControl.state (parts_nozzleSeen c h lifted s h).1
  cases lifted with
  | true =>
    rw [changeNozzle_lift, liftAt_other]
    rw [state]
    rcases still with e | e | e <;> rw [e] <;> exact HoseState.noConfusion
  | false => rw [changeNozzle_hang, hangAt_other (by rwa [state])]

/-- A lift in AUTHORIZED starts the issue with the nozzle seen (R133). -/
theorem changeNozzle_starts {x : IssueContext} (authorized : (s.hose h).ctl.state = .authorized)
    (context : s.context h = some x) : changeNozzle c h true s = enterStarting c h x (nozzleSeen c h true s) :=
  liftAt_authorized ((congrArg HoseControl.state (parts_nozzleSeen c h true s h).1).trans authorized)
    ((context_nozzleSeen c h true s h).trans context)

/-- A hang in STARTING, FLOWING or SLOWING closes the issue (R138). -/
theorem changeNozzle_closes (issuing : (s.hose h).ctl.state.issuing = true) :
    changeNozzle c h false s = close c h .hung (nozzleSeen c h false s) :=
  hangAt_issuing (by rw [← nozzleSeen, (parts_nozzleSeen c h false s h).1]; exact issuing)

/-- A hang in ENDED frees the hose (R141). -/
theorem changeNozzle_leaves (ended : (s.hose h).ctl.state = .ended) :
    changeNozzle c h false s = leaveEnded h (nozzleSeen c h false s) :=
  hangAt_ended (by rw [← nozzleSeen, (parts_nozzleSeen c h false s h).1]; exact ended)

/-- Settles O37: the samples and the run count at rest; then the change sets the nozzle and evaluates the guard, and the
hose starts, closes, leaves ENDED or stands. -/
theorem nozzleChange : Obligations.NozzleChange := by
  intro s c h hb fitted _
  refine ⟨fun rest => ⟨_, step_atRest rest, (clocks_tick s).1, (clocks_tick s).2, nozzle_tick hb fitted⟩,
    (nozzleChange_comesAbout hb fitted).symm, ?lift_authorized, ?hang_issuing, ?hang_ended, ?lift_offends,
    ?lift_unmatched, ?still⟩
  case lift_authorized =>
    intro x hung authorized context clear
    obtain ⟨taken, elsewhere⟩ := exec_nozzleChange hb fitted (changeNozzle_starts authorized context) hung
    obtain ⟨stop, pump, since⟩ := field_nozzleSeen c h true s
    obtain ⟨kept, on, always⟩ := enterStarting_always c h x (nozzleSeen c h true s)
    obtain ⟨-, -, -, nozzle, -⟩ := enterStarting_own c h x (nozzleSeen c h true s) _ rfl
    have waits := enterStarting_waits c h x (nozzleSeen c h true s)
    have flows := enterStarting_flows c h x (nozzleSeen c h true s) (by rw [stop]; exact clear)
    rw [context_nozzleSeen, context] at kept
    rw [nozzle_nozzleSeen] at nozzle
    rw [pump, since] at waits flows
    obtain ⟨timer, fraction, delivered, overrun⟩ := always
    refine ⟨_, taken, congrArg LineInput.active nozzle, congrArg LineInput.run nozzle, kept, on, timer, fraction,
      delivered, overrun, waits, fun primed slow_point => ?_, fun primed slow_point => ?_, elsewhere⟩
    · have fast : x.slowPoint ≠ 0 := Nat.ne_of_gt slow_point
      obtain ⟨state, main, slow, first, start, -⟩ := flows primed
      exact ⟨state.trans (if_neg fast), main.trans (decide_eq_true fast), slow, first, start⟩
    · obtain ⟨state, main, slow, first, start, settle⟩ := flows primed
      exact ⟨state.trans (if_pos slow_point), main.trans (decide_eq_false (not_not.mpr slow_point)), slow, first, start,
        settle slow_point⟩
  case hang_issuing =>
    intro x lifted issuing context
    obtain ⟨taken, elsewhere⟩ := exec_nozzleChange hb fitted (changeNozzle_closes issuing) lifted
    obtain ⟨ctl, -, -, nozzle, -⟩ := close_own c h .hung (nozzleSeen c h false s)
    rw [nozzle_nozzleSeen] at nozzle
    have held : ((nozzleSeen c h false s).hose h).ctl.context = some x := (context_nozzleSeen c h false s h).trans context
    rw [held] at ctl
    exact ⟨_, taken, congrArg LineInput.active nozzle, congrArg LineInput.run nozzle, congrArg HoseControl.state ctl,
      congrArg HoseControl.context ctl, congrArg HoseControl.mainValve ctl, congrArg HoseControl.slowValve ctl,
      congrArg HoseControl.overrunTimer ctl, elsewhere⟩
  case hang_ended =>
    intro lifted ended
    obtain ⟨taken, elsewhere⟩ := exec_nozzleChange hb fitted (changeNozzle_leaves ended) lifted
    obtain ⟨discarded, state, meter⟩ := leaveEnded_own h (nozzleSeen c h false s)
    obtain ⟨-, meter_seen, health_seen⟩ := parts_nozzleSeen c h false s h
    rw [health_seen] at state
    exact ⟨_, taken, discarded, state, meter.trans meter_seen, elsewhere⟩
  case lift_offends =>
    intro hung rests running matched
    have seen : changeNozzle c h true s = nozzleSeen c h true s := changeNozzle_seen (.inr rests)
    obtain ⟨taken, hoses, station, records⟩ := exec_nozzleChange hb fitted seen hung
    obtain ⟨unmatched, count, raised, others⟩ := nozzleSeen_offence hb fitted rests running matched
    obtain ⟨ctl, meter, health⟩ := parts_nozzleSeen c h true s h
    have nozzle := nozzle_nozzleSeen c h true s
    exact ⟨_, taken, ctl, unmatched, count, raised, congrArg LineInput.active nozzle, congrArg LineInput.run nozzle,
      meter, health, hoses, others, station, records⟩
  case lift_unmatched =>
    intro hung rests running unmatched
    have seen : changeNozzle c h true s = setNozzle c h true s :=
      (changeNozzle_seen (.inr rests)).trans (nozzleSeen_unmatched hb fitted rests running unmatched)
    obtain ⟨taken, elsewhere⟩ := exec_nozzleChange hb fitted seen hung
    have own := hose_setNozzle c h true s
    exact ⟨_, taken, by rw [own], by rw [own], by rw [own], rfl, guardCount_setNozzle c h true s, rfl, elsewhere⟩
  case still =>
    intro lifted sound running change still
    obtain ⟨b, evaluated⟩ := nozzleSeen_still (c := c) sound running (still.imp_right And.left)
    have seen : changeNozzle c h lifted s = withMatched b (setNozzle c h lifted s) :=
      (changeNozzle_seen (still.imp_right And.right)).trans evaluated
    obtain ⟨taken, elsewhere⟩ := exec_nozzleChange hb fitted seen change
    have own : (withMatched b (setNozzle c h lifted s)).hose h = _ := hose_setNozzle c h lifted s
    have guard := guardSound_changeNozzle c h lifted s
    rw [seen] at guard
    exact ⟨_, taken, by rw [own], by rw [own], by rw [own], by rw [own], by rw [own], guard, rfl,
      guardCount_setNozzle c h lifted s, rfl, elsewhere⟩

end Obligation

end Sys2Proof.Machine.FieldLines
end

section
/-! A change of the stop line (R99, R100, R107, R108, R139, R142, R144). -/

namespace Sys2Proof.Machine.FieldLines

open Sys2Proof Sys2Proof.Machine Sys2Proof.Machine.ServiceIntervals Sys2Proof.Machine.ShiftClock

/-- An operation made on every hose, seen at one of them: what the others' turns leave is what its own turn finds, and what
its own turn makes of it is what stands in the end. -/
theorem eachHose_at {α : Type} (k : Fin 4) (p : State → α) {f : Fin 4 → State → State}
    (others : ∀ h s, k ≠ h → p (f h s) = p s) (s : State) : ∃ v, p v = p s ∧ p (eachHose f s) = p (f k v) := by
  unfold eachHose
  match k with
  | 0 => exact ⟨s, rfl, by rw [others 3 _ (by decide), others 2 _ (by decide), others 1 _ (by decide)]⟩
  | 1 => exact ⟨f 0 s, others 0 s (by decide), by rw [others 3 _ (by decide), others 2 _ (by decide)]⟩
  | 2 => exact ⟨f 1 (f 0 s), by rw [others 1 _ (by decide), others 0 _ (by decide)], others 3 _ (by decide)⟩
  | 3 => exact ⟨f 2 (f 1 (f 0 s)), by rw [others 2 _ (by decide), others 1 _ (by decide), others 0 _ (by decide)], rfl⟩

/-- The state in which a change of the stop line finds the hoses: the line set and every valve driven. -/
def stopSeen (c : ConfigBlock) (asserted : Bool) (s : State) : State := eachHose driveValves (setStop c asserted s)

section Stop

variable (c : ConfigBlock) (asserted : Bool) (h : Fin 4) (s : State)

theorem changeStop_assert : changeStop c true s = eachHose (fun h => endIssue c h .estop) (stopSeen c true s) := by
  simp [changeStop, stopSeen]

theorem changeStop_clear : changeStop c false s = stopSeen c false s := by
  simp [changeStop, stopSeen]

/-- Every hose keeps all but its valves. -/
theorem hose_stopSeen : (stopSeen c asserted s).hose h = { s.hose h with ctl := { (s.hose h).ctl with
    mainValve := mainValveOf asserted (s.hose h).ctl.state
    slowValve := slowValveOf asserted (s.hose h).ctl.state } } := by
  obtain ⟨v, before, after⟩ := eachHose_at h (fun u => (u.hose h, u.field.stop.active)) (f := driveValves)
    (fun k u other => by simp [driveValves, other]) (setStop c asserted s)
  simp only [Prod.mk.injEq] at before after
  rw [stopSeen, after.1]
  simp only [driveValves, hose_mapCtl, if_true, before]
  rfl

theorem frame_stopSeen : (stopSeen c asserted s).field.stop = ⟨asserted, 0, asserted == c.stopHigh⟩ ∧
    (stopSeen c asserted s).records = s.records := by
  have driven := eachHose_keeps (fun u : State => (u.field, u.records)) driveValves (by intro k u; simp)
    (setStop c asserted s)
  simp only [Prod.mk.injEq] at driven
  exact ⟨congrArg FieldBlock.stop driven.1, driven.2⟩

/-- STOP_ACTIVE follows the line (R107). -/
theorem condition_stopSeen : (stopSeen c asserted s).notices.entries[9].condition = asserted := by
  have driven := eachHose_keeps (fun u : State => u.notices) driveValves (by intro k u; simp) (setStop c asserted s)
  rw [stopSeen, driven, setStop, entries_report]
  rfl

/-! ### What ends an issue, at its hose -/

/-- What a cause that ends an issue does at its hose in each state (R139, R142, R144). -/
theorem endIssue_own (r : EndReason) :
    ((s.hose h).ctl.state = .authorized → ((endIssue c h r s).hose h).ctl = { (s.hose h).ctl with
      state := restingState (s.hose h).health.frozen, context := none, authTimer := none
      mainValve := false, slowValve := false }) ∧
    ((s.hose h).ctl.state.issuing = true → ((endIssue c h r s).hose h).ctl = { (s.hose h).ctl with
      state := .closing
      context := (s.hose h).ctl.context.map fun x => { x with endReason := some r }
      primeTimer := none, startTimer := none, noFlowTimer := none
      overrunTimer := some (c.overrunWindow * second), mainValve := false, slowValve := false }) ∧
    ((s.hose h).ctl.state ≠ .authorized → (s.hose h).ctl.state.issuing = false →
      ((endIssue c h r s).hose h).ctl = (s.hose h).ctl) ∧
    ((endIssue c h r s).hose h).meter.delivered = (s.hose h).meter.delivered ∧
    ((endIssue c h r s).hose h).health = (s.hose h).health ∧ ((endIssue c h r s).hose h).nozzle = (s.hose h).nozzle := by
  obtain ⟨cancelled, meter, health, nozzle, -⟩ := cancel_own h s
  obtain ⟨closed, meter', health', nozzle', -⟩ := close_own c h r s
  unfold endIssue
  split
  · next authorized =>
    exact ⟨fun _ => cancelled, fun issuing => by simp [authorized, HoseState.issuing] at issuing,
      fun other => absurd authorized other, by rw [meter], health, nozzle⟩
  · next other =>
    split
    · next issuing =>
      exact ⟨fun authorized => absurd authorized other, fun _ => closed,
        fun _ no_issue => Bool.noConfusion (issuing.symm.trans no_issue), by rw [meter']; rfl, health', nozzle'⟩
    · next no_issue =>
      exact ⟨fun authorized => absurd authorized other, fun issuing => absurd issuing no_issue, fun _ _ => rfl, rfl, rfl,
        rfl⟩

theorem frame_endIssue (r : EndReason) : (endIssue c h r s).field.stop = s.field.stop ∧
    (endIssue c h r s).records.records = s.records.records ∧ (endIssue c h r s).records.next = s.records.next := by
  unfold endIssue
  split
  · simp [cancel, releaseReservation]
  · split
    · simp [close]
    · exact ⟨rfl, rfl, rfl⟩

/-! ### The assertion -/

/-- What an assertion leaves of one hose: its own end of issue alone, of the hose with its valves closed. -/
theorem changeStop_at : ∃ v : State, (v.hose h).ctl = { (s.hose h).ctl with mainValve := false, slowValve := false } ∧
    (v.hose h).meter = (s.hose h).meter ∧ (v.hose h).health = (s.hose h).health ∧
    (v.hose h).nozzle = (s.hose h).nozzle ∧
    ((changeStop c true s).hose h).ctl = ((endIssue c h .estop v).hose h).ctl ∧
    ((changeStop c true s).hose h).meter = ((endIssue c h .estop v).hose h).meter ∧
    ((changeStop c true s).hose h).health = ((endIssue c h .estop v).hose h).health ∧
    ((changeStop c true s).hose h).nozzle = ((endIssue c h .estop v).hose h).nozzle := by
  obtain ⟨v, before, after⟩ := eachHose_at h
    (fun u => ((u.hose h).ctl, (u.hose h).meter, (u.hose h).health, (u.hose h).nozzle))
    (f := fun k => endIssue c k .estop) (fun k u other => by simp [endIssue_others c .estop k h u other])
    (stopSeen c true s)
  simp only [Prod.mk.injEq, hose_stopSeen] at before after
  obtain ⟨ctl, meter, health, nozzle⟩ := before
  rw [changeStop_assert]
  exact ⟨v, ctl, meter, health, nozzle, after⟩

/-- What an assertion leaves beside the hoses. -/
theorem frame_changeStop : (changeStop c true s).field.stop = ⟨true, 0, true == c.stopHigh⟩ ∧
    (changeStop c true s).records.records = s.records.records ∧
    (changeStop c true s).records.next = s.records.next ∧
    (changeStop c true s).notices.entries[9].condition = true := by
  have ended := eachHose_keeps (fun u : State => (u.field.stop, u.records.records, u.records.next))
    (fun k => endIssue c k .estop) (fun k u => by simp only [frame_endIssue c k u .estop]) (stopSeen c true s)
  simp only [Prod.mk.injEq, frame_stopSeen] at ended
  have condition := (quiet_eachHose (fun k => quiet_endIssue c k .estop) (stopSeen c true s)).conditions 9
  obtain ⟨stop, records, next⟩ := ended
  rw [changeStop_assert]
  exact ⟨stop, records, next, condition.trans (condition_stopSeen c true s)⟩

end Stop

theorem exec_stopLineChange {c : ConfigBlock} {asserted : Bool} {s : State} (hb : s.store.block = some c)
    (change : s.field.stop.active = !asserted) :
    exec (.stopLineChange asserted) s = .next (changeStop c asserted s) := by
  have taken : execStopLineChange asserted s = .next (changeStop c asserted s) := by
    simp [execStopLineChange, hb, change]
  exact taken

/-- Settles O38: the samples and the run count at rest; then the change sets the line and drives the valves, and an
assertion ends the issue of each hose, one after another. -/
theorem stopLineChange : Obligations.StopLineChange := by
  intro s c hb
  refine ⟨fun rest => ⟨_, step_atRest rest, stop_tick hb⟩, (stopLineChange_comesAbout hb).symm, fun clear => ?assertion,
    fun asserted => ?clearing⟩
  case assertion =>
    obtain ⟨stop, records, next, condition⟩ := frame_changeStop c s
    refine ⟨_, exec_stopLineChange hb clear, by rw [stop], by rw [stop], condition, fun h => ?_, records, next,
      by simp [KeepsStation]⟩
    obtain ⟨v, ctl_found, meter_found, health_found, nozzle_found, ctl, meter, health, nozzle⟩ := changeStop_at c h s
    obtain ⟨authorized, issuing, other, delivered, health_kept, nozzle_kept⟩ := endIssue_own c h v .estop
    rw [← ctl, ctl_found] at authorized issuing other
    rw [health_found] at authorized
    have closed : ((changeStop c true s).hose h).ctl.mainValve = false ∧
        ((changeStop c true s).hose h).ctl.slowValve = false := by
      by_cases a : (s.hose h).ctl.state = .authorized
      · rw [authorized a]; exact ⟨rfl, rfl⟩
      · by_cases i : (s.hose h).ctl.state.issuing = true
        · rw [issuing i]; exact ⟨rfl, rfl⟩
        · rw [other a (Bool.eq_false_iff.mpr i)]; exact ⟨rfl, rfl⟩
    refine ⟨closed.1, closed.2, fun a => ?_, fun i => ?_, fun a i => ?_, ?_, ?_, ?_⟩
    · rw [State.context, authorized a]
      exact ⟨rfl, rfl⟩
    · refine ⟨by rw [issuing i], fun x context => ?_⟩
      have held : (s.hose h).ctl.context = some x := context
      rw [State.context, issuing i, held]
      rfl
    · rw [State.context, other a i]
      exact ⟨rfl, rfl⟩
    · rw [meter, delivered, meter_found]
    · rw [health, health_kept, health_found]
    · rw [nozzle, nozzle_kept, nozzle_found]
  case clearing =>
    obtain ⟨stop, records⟩ := frame_stopSeen c false s
    refine ⟨_, exec_stopLineChange hb asserted, ?_⟩
    rw [changeStop_clear]
    refine ⟨by rw [stop], by rw [stop], condition_stopSeen c false s, fun h => ?_, records, ?_⟩
    · rw [State.context, hose_stopSeen]
      exact ⟨rfl, rfl, rfl, rfl⟩
    · rw [← changeStop_clear]
      simp [KeepsStation]

end Sys2Proof.Machine.FieldLines
end

section
/-! The volume that issue pulses deliver (R113, R114), and the meter inputs with their filter (R99 to R101, R103). -/

namespace Sys2Proof.Machine.FieldLines

open Sys2Proof Sys2Proof.Machine Sys2Proof.Machine.ServiceIntervals Sys2Proof.Machine.ShiftClock

/-! ### The volume delivered -/

/-- Pulses carry delivered and fraction on together, as the high and the low part of one sum (R114). -/
theorem volume_countPulses (step : Nat) (ticks : List Nat) (m : Meter) (low : m.fraction < 1024) :
    1024 * (ticks.foldl (fun k n => k.countPulse step n) m).delivered +
        (ticks.foldl (fun k n => k.countPulse step n) m).fraction =
      1024 * m.delivered + m.fraction + step * ticks.length ∧
    (ticks.foldl (fun k n => k.countPulse step n) m).fraction < 1024 := by
  induction ticks generalizing m with
  | nil => exact ⟨rfl, low⟩
  | cons n ticks ih =>
    obtain ⟨sum, low'⟩ := ih (m.countPulse step n) (Nat.mod_lt _ (by decide))
    have counted : 1024 * (m.countPulse step n).delivered + (m.countPulse step n).fraction =
        1024 * m.delivered + m.fraction + step := by
      have parts := Nat.div_add_mod (m.fraction + step) 1024
      simp only [Meter.countPulse]
      omega
    refine ⟨?_, low'⟩
    rw [List.foldl_cons, sum, counted, List.length_cons, Nat.mul_succ]
    omega

theorem volume_from_start (m : Meter) (step : Nat) (ticks : List Nat) :
    (ticks.foldl (fun k n => k.countPulse step n) m.startIssue).delivered = (512 + step * ticks.length) / 1024 ∧
    (ticks.foldl (fun k n => k.countPulse step n) m.startIssue).fraction = (512 + step * ticks.length) % 1024 := by
  obtain ⟨sum, low⟩ := volume_countPulses step ticks m.startIssue (by decide : 512 < 1024)
  have start : 1024 * m.startIssue.delivered + m.startIssue.fraction = 512 := rfl
  omega

/-! ### The filter of a meter input -/

theorem counts_eq_false (mode : EdgeMode) (active : Bool) :
    mode.counts active = false ↔ (mode = .rising ∧ active = false) ∨ (mode = .falling ∧ active = true) := by
  cases mode <;> simp [EdgeMode.counts]

/-- The first sample is the filtered state (R101). -/
theorem sampled_first (length : Nat) (mode : EdgeMode) (activeHigh : Bool) (x : MeterInput) (first : x.active = none) :
    x.sampled length mode activeHigh = { x with active := some (x.level == activeHigh), run := 0 } := by
  simp [MeterInput.sampled, first, throughPolarity]

/-- Every later sample keeps the run count, but for one that completes an edge the mode does not count (R100, R103). -/
theorem sampled_later (length : Nat) (mode : EdgeMode) (activeHigh : Bool) (x : MeterInput) {sample active : Bool}
    (taken : sample = (x.level == activeHigh)) (later : x.active = some active) :
    x.sampled length mode activeHigh =
      if sample ≠ active ∧ length ≤ x.run + 1 ∧
          ((mode = .rising ∧ sample = false) ∨ (mode = .falling ∧ sample = true)) then
        { x with active := some sample, run := 0 }
      else { x with run := runAfter sample active x.run } := by
  simp only [MeterInput.sampled, later, throughPolarity, ← taken, ← counts_eq_false, runAfter]
  by_cases same : sample = active
  · simp [same]
  · simp [same]

/-! ### A pulse leaves its input to the filter -/

section Pulse

variable (c : ConfigBlock) (h : Fin 4) (s : State)

theorem meterInput_actOnFindings (f : PulseFindings) :
    ((actOnFindings c h f s).hose h).meterInput = (s.hose h).meterInput := by
  unfold actOnFindings
  split
  · simp [healthEvent_own, close_own, markIssue_own]
  · split
    · simp [close_own]
    · split
      · simp [enterSlowing_own]
      · rfl

theorem meterInput_takePulse (ticks : Nat) : ((takePulse c h ticks s).hose h).meterInput = (s.hose h).meterInput := by
  unfold takePulse
  split
  · simp [issuePulse, meterInput_actOnFindings]
  · simp only [creepPulse]
    split
    · simp [healthEvent_own]
    · simp

theorem exec_meterPulse {c : ConfigBlock} {h : Fin 4} {s : State} (ticks : Nat) (hb : s.store.block = some c)
    (fitted : c.fitted[h] = true) :
    exec (.meterPulse (h.val + 1) ticks) s = .next (takePulse c h ticks (setMeterInput c h s)) := by
  have taken : execMeterPulse (h.val + 1) ticks s = .next (takePulse c h ticks (setMeterInput c h s)) := by
    simp only [execMeterPulse, fieldHose_fitted hb fitted]
  exact taken

/-- A pulse takes the filtered state to the level of the counted edge, with a run count of 0 (R103). -/
theorem meterInput_pulsed (ticks : Nat) : ((takePulse c h ticks (setMeterInput c h s)).hose h).meterInput.run = 0 ∧
    ((takePulse c h ticks (setMeterInput c h s)).hose h).meterInput.active =
      some (edgeState c.edgeMode[h] (s.hose h).meterInput.active) := by
  rw [meterInput_takePulse]
  simp [setMeterInput]

end Pulse

/-- Settles O41: the volume as one sum over the pulses; and the input, sampled at every tick, brings a pulse when its run is
complete and takes the level of the counted edge with it. -/
theorem deliveredFromPulses : Obligations.DeliveredFromPulses := by
  refine ⟨?volume, ?input⟩
  case volume =>
    rintro m step ticks m' rfl
    exact volume_from_start m step ticks
  case input =>
    intro s c h sample hb fitted taken
    refine ⟨fun rest => ⟨_, step_atRest rest, by rw [meter_tick]; rfl, fun first => ?_, fun active later => ?_⟩,
      (meterPulse_comesAbout hb fitted).symm, fun n => ?_⟩
    · rw [meterInput_tick hb fitted, sampled_first _ _ _ _ first, ← taken]
    · rw [meterInput_tick hb fitted, sampled_later _ _ _ _ taken later]
    · obtain ⟨run, active⟩ := meterInput_pulsed c h s n
      refine ⟨_, exec_meterPulse n hb fitted, run, fun mode => ?_, fun mode => ?_, fun before mode held => ?_,
        fun mode none_yet => ?_⟩
      · rw [active, mode]; rfl
      · rw [active, mode]; rfl
      · rw [active, mode, held]; rfl
      · rw [active, mode, none_yet]; rfl

end Sys2Proof.Machine.FieldLines
end

section
/-! The start, no-flow, settle and creep quiet timers of a hose (R119, R123, R127, R136, R139). -/

namespace Sys2Proof.Machine.Metering

open Sys2Proof Sys2Proof.Machine Sys2Proof.Machine.PeersAndNet Sys2Proof.Machine.FieldLines

section Timers

variable {s : State} {c : ConfigBlock} {h : Fin 4}

theorem ctl_tick (s : State) (h : Fin 4) : ((tick s).hose h).ctl = (s.hose h).ctl.tick := by
  rw [tick_hose]
  unfold Hose.tick
  split
  · rfl
  · split <;> rfl

/-! ### Events that have come about -/

/-- An event that each hose brings under its own number comes about at the hose of its number. -/
theorem comesAbout_numbered {i : Instr} {due : Fin 4 → Prop} (hb : s.store.block = some c) (hose : ofHose i = true)
    (brings : ∀ k, i ∈ hoseDue c s k ↔ h.val = k.val ∧ due k) : ComesAbout i s ↔ due h := by
  rw [comesAbout_hose hb hose]
  simp only [brings]
  constructor
  · rintro ⟨k, number, at_k⟩
    obtain rfl : h = k := Fin.ext number
    exact at_k
  · exact fun at_h => ⟨h, rfl, at_h⟩

/-- Which hose brings the end of one of its four timers of the flow. -/
theorem flowTimers_mem_hoseDue (k : Fin 4) :
    (.startTimerExpiry (h.val + 1) ∈ hoseDue c s k ↔ h.val = k.val ∧ c.fitted[k] = true ∧
      (s.hose k).ctl.state.issuing = true ∧ (s.hose k).ctl.startTimer = some 0) ∧
    (.noFlowTimerExpiry (h.val + 1) ∈ hoseDue c s k ↔ h.val = k.val ∧ c.fitted[k] = true ∧
      (s.hose k).ctl.state.issuing = true ∧ (s.hose k).ctl.noFlowTimer = some 0) ∧
    (.settleTimerExpiry (h.val + 1) ∈ hoseDue c s k ↔ h.val = k.val ∧ c.fitted[k] = true ∧
      (s.hose k).meter.settle = some 0) ∧
    (.creepQuietTimerExpiry (h.val + 1) ∈ hoseDue c s k ↔ h.val = k.val ∧ (s.hose k).meter.creep = some 0) := by
  by_cases fitted : c.fitted[k] = true <;> simp [hoseDue, fitted, runOut_iff, and_comm]

theorem flowTimers_comeAbout (hb : s.store.block = some c) (fitted : c.fitted[h] = true) :
    (ComesAbout (.startTimerExpiry (h.val + 1)) s ↔
      (s.hose h).ctl.state.issuing = true ∧ (s.hose h).ctl.startTimer = some 0) ∧
    (ComesAbout (.noFlowTimerExpiry (h.val + 1)) s ↔
      (s.hose h).ctl.state.issuing = true ∧ (s.hose h).ctl.noFlowTimer = some 0) ∧
    (ComesAbout (.settleTimerExpiry (h.val + 1)) s ↔ (s.hose h).meter.settle = some 0) ∧
    (ComesAbout (.creepQuietTimerExpiry (h.val + 1)) s ↔ (s.hose h).meter.creep = some 0) := by
  have brings := flowTimers_mem_hoseDue (s := s) (c := c) (h := h)
  simp only [forall_and] at brings
  obtain ⟨start, noFlow, settle, quiet⟩ := brings
  refine ⟨?_, ?_, ?_, comesAbout_numbered hb rfl quiet⟩
  · rw [comesAbout_numbered hb rfl start, and_iff_right fitted]
  · rw [comesAbout_numbered hb rfl noFlow, and_iff_right fitted]
  · rw [comesAbout_numbered hb rfl settle, and_iff_right fitted]

/-! ### The expiries as commands -/

theorem exec_startTimerExpiry (hb : s.store.block = some c) (fitted : c.fitted[h] = true)
    (issuing : (s.hose h).ctl.state.issuing = true) (runs : (s.hose h).ctl.startTimer.isSome = true) :
    exec (.startTimerExpiry (h.val + 1)) s = .next (close c h .noStart s) := by
  have taken : execStartTimerExpiry (h.val + 1) s = .next (close c h .noStart s) := by
    simp [execStartTimerExpiry, fieldHose_fitted hb fitted, issuing, runs]
  exact taken

theorem exec_noFlowTimerExpiry (hb : s.store.block = some c) (fitted : c.fitted[h] = true)
    (issuing : (s.hose h).ctl.state.issuing = true) (runs : (s.hose h).ctl.noFlowTimer.isSome = true) :
    exec (.noFlowTimerExpiry (h.val + 1)) s = .next (close c h .noFlow s) := by
  have taken : execNoFlowTimerExpiry (h.val + 1) s = .next (close c h .noFlow s) := by
    simp [execNoFlowTimerExpiry, fieldHose_fitted hb fitted, issuing, runs]
  exact taken

theorem exec_settleTimerExpiry (hb : s.store.block = some c) (fitted : c.fitted[h] = true) :
    exec (.settleTimerExpiry (h.val + 1)) s = .next (s.mapMeter h fun m => { m with settle := none }) := by
  have taken : execSettleTimerExpiry (h.val + 1) s = .next (s.mapMeter h fun m => { m with settle := none }) := by
    simp [execSettleTimerExpiry, fieldHose_fitted hb fitted]
  exact taken

theorem exec_creepQuietTimerExpiry (s : State) (h : Fin 4) :
    exec (.creepQuietTimerExpiry (h.val + 1)) s = .next (s.mapMeter h fun m => { m with creep := none }) := by
  have taken : execCreepQuietTimerExpiry (h.val + 1) s = .next (s.mapMeter h fun m => { m with creep := none }) := by
    simp [execCreepQuietTimerExpiry]
  exact taken

/-- An operation on one meter leaves the rest of its hose, the other hoses, the station and the forecourt. -/
theorem mapMeter_alone (s : State) (h : Fin 4) (f : Meter → Meter) :
    (s.mapMeter h f).hose h = { s.hose h with meter := f (s.hose h).meter } ∧
    (∀ j : Fin 4, j ≠ h → (s.mapMeter h f).hose j = s.hose j) ∧ KeepsStation s (s.mapMeter h f) ∧
    (s.mapMeter h f).field = s.field ∧ (s.mapMeter h f).records = s.records ∧
    (s.mapMeter h f).notices = s.notices := by
  refine ⟨by simp, fun j other => by simp [other], ?_⟩
  simp [KeepsStation]

/-- A close at a hose with an issue leaves the volume, the other hoses, the station and the records (R139). -/
theorem close_issue {x : IssueContext} (c : ConfigBlock) (r : EndReason) (context : s.context h = some x) :
    ((close c h r s).hose h).ctl = { (s.hose h).ctl with
      state := .closing, context := some { x with endReason := some r }
      primeTimer := none, startTimer := none, noFlowTimer := none
      overrunTimer := some (c.overrunWindow * 100000), mainValve := false, slowValve := false } ∧
    ((close c h r s).hose h).meter = (s.hose h).meter.enterClosing ∧
    ((close c h r s).hose h).health = (s.hose h).health ∧
    (∀ j : Fin 4, j ≠ h → ((close c h r s).hose j).same (s.hose j)) ∧ KeepsStation s (close c h r s) ∧
    (close c h r s).records = s.records := by
  obtain ⟨ctl, meter, health, -⟩ := close_own c h r s
  have held : (s.hose h).ctl.context = some x := context
  rw [held] at ctl
  exact ⟨ctl, meter, health, fun j other => Hose.same_of (close_others c r h j s other), by simp [KeepsStation], by simp⟩

end Timers

/-- Settles O43: a tick counts the four timers down; then an expired start or no-flow timer closes the issue, and an expired
settle or quiet timer is stopped. -/
theorem flowTimers : Obligations.FlowTimers := by
  intro s c h n hb fitted
  obtain ⟨start, noFlow, settle, quiet⟩ := flowTimers_comeAbout hb fitted
  refine ⟨fun rest => ⟨_, step_atRest rest, ?_⟩, start, noFlow, settle, quiet, ?closes,
    ⟨_, exec_settleTimerExpiry hb fitted, mapMeter_alone s h _⟩,
    ⟨_, exec_creepQuietTimerExpiry s h, mapMeter_alone s h _⟩⟩
  · rw [ctl_tick, meter_tick]
    exact ⟨rfl, rfl, rfl, rfl⟩
  case closes =>
    intro x reason cmd flows context expiry
    have issuing : (s.hose h).ctl.state.issuing = true := by rcases flows with e | e <;> rw [e] <;> rfl
    have taken : exec cmd s = .next (close c h reason s) := by
      rcases expiry with ⟨rfl, rfl, runs⟩ | ⟨rfl, rfl, runs⟩
      · exact exec_startTimerExpiry hb fitted issuing (by rw [runs]; rfl)
      · exact exec_noFlowTimerExpiry hb fitted issuing (by rw [runs]; rfl)
    obtain ⟨ctl, meter, -, elsewhere⟩ := close_issue c reason context
    refine ⟨_, taken, ?_⟩
    rw [State.context, ctl, meter]
    exact ⟨rfl, rfl, rfl, rfl, rfl, rfl, rfl, rfl, elsewhere⟩

end Sys2Proof.Machine.Metering
end

section
/-! A pulse at its hose: what every pulse leaves, and a creep pulse (R112, R116, R122, R123, R142, R145, R150, R151). -/

namespace Sys2Proof.Machine.Metering

open Sys2Proof Sys2Proof.Machine Sys2Proof.Machine.FieldLines

/-! ### What every pulse leaves -/

/-- The meter input of a hose is all that the filtered edge sets. -/
theorem hose_setMeterInput (c : ConfigBlock) (h j : Fin 4) (s : State) : (setMeterInput c h s).hose j =
    { s.hose j with meterInput := ((setMeterInput c h s).hose j).meterInput } := by
  rw [setMeterInput, hose_mapHose]
  split <;> rfl

theorem setMeterInput_others (c : ConfigBlock) {h j : Fin 4} (s : State) (other : j ≠ h) :
    (setMeterInput c h s).hose j = s.hose j := by
  simp [setMeterInput, hose_mapHose, other]

/-- A pulse taken leaves the other hoses and the station. -/
theorem takePulse_elsewhere (c : ConfigBlock) (h : Fin 4) (ticks : Nat) (s : State) :
    (∀ j : Fin 4, j ≠ h → ((takePulse c h ticks (setMeterInput c h s)).hose j).same (s.hose j)) ∧
    KeepsStation s (takePulse c h ticks (setMeterInput c h s)) := by
  refine ⟨fun j other => ?_, by simp [KeepsStation, setMeterInput]⟩
  rw [← setMeterInput_others c s other]
  exact Hose.same_of (takePulse_others c ticks h j _ other)

/-! ### A health event -/

section Health

variable (c : ConfigBlock) (h : Fin 4) (s : State)

/-- The hose that a freeze finds: its count one higher and frozen (R150, R151). -/
def countFrozen : State :=
  (s.mapHealth h fun x => { x with count := satAdd 15 (s.hose h).health.count 1 }).mapHealth h fun x =>
    { x with frozen := true }

theorem hose_countFrozen : (countFrozen h s).hose h = { s.hose h with
    health := { (s.hose h).health with count := min 15 ((s.hose h).health.count + 1), frozen := true } } := by
  simp [countFrozen, satAdd]

theorem healthEvent_frozen (frozen : (s.hose h).health.frozen = true) : healthEvent c h s = s :=
  (healthEvent_own c h s).1 frozen

/-- Below the threshold a health event is counted, and nothing else moves (R150). -/
theorem healthEvent_counted (counts : (s.hose h).health.frozen = false)
    (below : min 15 ((s.hose h).health.count + 1) < c.healthThreshold) :
    healthEvent c h s = s.mapHealth h fun x => { x with count := min 15 ((s.hose h).health.count + 1) } := by
  simp [healthEvent, counts, satAdd, Nat.not_le.mpr below]

/-- At the threshold the count freezes (R150, R151). -/
theorem healthEvent_freezes (counts : (s.hose h).health.frozen = false)
    (reached : c.healthThreshold ≤ min 15 ((s.hose h).health.count + 1)) :
    healthEvent c h s = reportHoseOut (freezeAction c h (countFrozen h s)) := by
  have at_threshold : c.healthThreshold ≤ satAdd 15 (s.hose h).health.count 1 := reached
  simp [healthEvent, counts, at_threshold, freeze, countFrozen]

/-- What a freeze does to its hose leaves of the meter all that an entry to CLOSING leaves. -/
theorem enterClosing_freezeAction :
    ((freezeAction c h s).hose h).meter.enterClosing = (s.hose h).meter.enterClosing := by
  unfold freezeAction
  split
  · simp [parts_enterState]
  · simp [cancel_own]
  case h_3 | h_4 | h_5 =>
    obtain ⟨-, closed, -⟩ := close_own c h .fault (markIssue h s)
    obtain ⟨-, marked, -⟩ := markIssue_own h s
    rw [closed, marked]
    rfl
  all_goals rfl

theorem enterClosing_healthEvent :
    ((healthEvent c h s).hose h).meter.enterClosing = (s.hose h).meter.enterClosing := by
  cases counts : (s.hose h).health.frozen with
  | true => rw [healthEvent_frozen c h s counts]
  | false =>
    by_cases reached : c.healthThreshold ≤ min 15 ((s.hose h).health.count + 1)
    · rw [healthEvent_freezes c h s counts reached, hose_reportHoseOut, enterClosing_freezeAction, hose_countFrozen]
    · rw [healthEvent_counted c h s counts (Nat.not_le.mp reached)]
      simp

/-- No health event commits or releases a record (R142, R150). -/
theorem records_healthEvent : (healthEvent c h s).records.records = s.records.records := by
  have acted : ∀ v, (freezeAction c h v).records.records = v.records.records := fun v => by
    unfold freezeAction
    split <;> simp [cancel, releaseReservation]
  cases counts : (s.hose h).health.frozen with
  | true => rw [healthEvent_frozen c h s counts]
  | false =>
    by_cases reached : c.healthThreshold ≤ min 15 ((s.hose h).health.count + 1)
    · rw [healthEvent_freezes c h s counts reached]
      simp [acted, countFrozen]
    · rw [healthEvent_counted c h s counts (Nat.not_le.mp reached)]
      simp

end Health

/-! ### The threshold reached in each state (R142, R145) -/

section Reached

variable {c : ConfigBlock} {h : Fin 4} {s : State} (counts : (s.hose h).health.frozen = false)
  (reached : c.healthThreshold ≤ min 15 ((s.hose h).health.count + 1))

include counts reached

/-- HOSE_OUT is true once a count has frozen (R154). -/
theorem healthEvent_hoseOut : (healthEvent c h s).notices.entries[8].condition = true := by
  have frozen : anyTable (freezeAction c h (countFrozen h s)).hoses (·.health.frozen) = true := by
    rw [anyTable_hoses]
    exact ⟨h, by simp [freezeAction_own, hose_countFrozen]⟩
  rw [healthEvent_freezes c h s counts reached, reportHoseOut, frozen, entries_report]
  rfl

theorem healthEvent_idle (idle : (s.hose h).ctl.state = .idle) :
    ((healthEvent c h s).hose h).ctl.state = .outOfService ∧ (healthEvent c h s).context h = s.context h ∧
    (healthEvent c h s).records = s.records := by
  have action : freezeAction c h (countFrozen h s) = enterState h .outOfService (countFrozen h s) := by
    simp [freezeAction, hose_countFrozen, idle]
  rw [healthEvent_freezes c h s counts reached, action]
  simp [State.context, ctl_enterState, countFrozen]

theorem healthEvent_authorized (authorized : (s.hose h).ctl.state = .authorized) :
    ((healthEvent c h s).hose h).ctl.state = .outOfService ∧ (healthEvent c h s).context h = none ∧
    ((healthEvent c h s).hose h).ctl.authTimer = none ∧
    (healthEvent c h s).notices.entries[1] = s.notices.entries[1] ∧
    (healthEvent c h s).records = { s.records with reservations := s.records.reservations - 1 } := by
  have action : freezeAction c h (countFrozen h s) = cancel h (countFrozen h s) := by
    simp [freezeAction, hose_countFrozen, authorized]
  obtain ⟨ctl, -⟩ := cancel_own h (countFrozen h s)
  rw [healthEvent_freezes c h s counts reached, action, State.context, hose_reportHoseOut, ctl, hose_countFrozen]
  refine ⟨rfl, rfl, rfl, ?_, ?_⟩
  · rw [reportHoseOut, entries_report, cancel, notices_enterState _ _ _ _ _ (by decide)]
    rfl
  · simp [cancel, releaseReservation, countFrozen]

theorem healthEvent_starting {x : IssueContext} (starting : (s.hose h).ctl.state = .starting)
    (context : s.context h = some x) :
    ((healthEvent c h s).hose h).ctl.state = .closing ∧ ((healthEvent c h s).hose h).ctl.primeTimer = none ∧
    ((healthEvent c h s).hose h).ctl.overrunTimer = some (c.overrunWindow * 100000) ∧
    (healthEvent c h s).context h = some { x with endReason := some .fault, healthEvent := true } ∧
    (healthEvent c h s).records = s.records := by
  have action : freezeAction c h (countFrozen h s) = close c h .fault (markIssue h (countFrozen h s)) := by
    simp [freezeAction, hose_countFrozen, starting]
  have held : (s.hose h).ctl.context = some x := context
  have marked : (markIssue h (countFrozen h s)).context h = some { x with healthEvent := true } := by
    simp [State.context, markIssue_own, hose_countFrozen, held]
  obtain ⟨ctl, -⟩ := close_issue c .fault marked
  rw [healthEvent_freezes c h s counts reached, action, State.context, hose_reportHoseOut, ctl]
  refine ⟨rfl, rfl, rfl, rfl, ?_⟩
  simp [countFrozen]

end Reached

/-! ### A creep pulse -/

section Creep

variable (c : ConfigBlock) (h : Fin 4) (ticks : Nat) (s : State)

/-- The state in which a creep pulse leaves the meter, before any health event of it (R122, R123). -/
def creepCounted : State := (setMeterInput c h s).mapMeter h (Meter.creepPulse c.pulseStep[h])

theorem parts_creepCounted : ((creepCounted c h s).hose h).ctl = (s.hose h).ctl ∧
    ((creepCounted c h s).hose h).meter = (s.hose h).meter.creepPulse c.pulseStep[h] ∧
    ((creepCounted c h s).hose h).health = (s.hose h).health ∧ (creepCounted c h s).records = s.records ∧
    (creepCounted c h s).notices = s.notices := by
  simp [creepCounted, setMeterInput]

variable {s}

theorem takesIssuePulse_false {st : HoseState} (not_flowing : st ≠ .flowing) (not_slowing : st ≠ .slowing)
    (not_closing : st ≠ .closing) : st.takesIssuePulse = false := by
  cases st with
  | flowing => exact absurd rfl not_flowing
  | slowing => exact absurd rfl not_slowing
  | closing => exact absurd rfl not_closing
  | idle | authorized | starting | ended | outOfService => rfl

/-- Outside FLOWING, SLOWING and CLOSING a pulse is a creep pulse, a health event with it at the first of an episode
(R112, R123). -/
theorem takePulse_creep (idle : (s.hose h).ctl.state.takesIssuePulse = false) :
    takePulse c h ticks (setMeterInput c h s) =
      if (s.hose h).meter.creep = none then healthEvent c h (creepCounted c h s) else creepCounted c h s := by
  have state : ((setMeterInput c h s).hose h).ctl.state.takesIssuePulse = false := by
    rw [hose_setMeterInput]; exact idle
  have creep : ((setMeterInput c h s).hose h).meter.creep = (s.hose h).meter.creep := by rw [hose_setMeterInput]
  simp [takePulse, state, creepPulse, creep, creepCounted]

theorem takePulse_inside (idle : (s.hose h).ctl.state.takesIssuePulse = false)
    (inside : (s.hose h).meter.creep.isSome = true) :
    takePulse c h ticks (setMeterInput c h s) = creepCounted c h s := by
  rw [takePulse_creep c h ticks idle, if_neg (Option.isSome_iff_ne_none.mp inside)]

theorem takePulse_first (idle : (s.hose h).ctl.state.takesIssuePulse = false)
    (quiet : (s.hose h).meter.creep = none) :
    takePulse c h ticks (setMeterInput c h s) = healthEvent c h (creepCounted c h s) := by
  rw [takePulse_creep c h ticks idle, if_pos quiet]

/-- The pulse moves the meter as R122 and R123 give, whatever a health event of it does. -/
theorem meter_creep (idle : (s.hose h).ctl.state.takesIssuePulse = false) :
    ((takePulse c h ticks (setMeterInput c h s)).hose h).meter.enterClosing =
      ((s.hose h).meter.creepPulse c.pulseStep[h]).enterClosing ∧
    (takePulse c h ticks (setMeterInput c h s)).records.records = s.records.records := by
  obtain ⟨-, meter, -, records, -⟩ := parts_creepCounted c h s
  rw [takePulse_creep c h ticks idle]
  split
  · rw [enterClosing_healthEvent, records_healthEvent, meter, records]
    exact ⟨rfl, rfl⟩
  · rw [meter, records]
    exact ⟨rfl, rfl⟩

end Creep

/-- Settles O40: the pulse moves the meter; the first of an episode is a health event, counted below the threshold, a freeze
of the hose at it, and nothing at a hose that has frozen. -/
theorem creepPulse : Obligations.CreepPulse := by
  intro s c h ticks hb fitted not_flowing not_slowing not_closing
  have idle := takesIssuePulse_false not_flowing not_slowing not_closing
  obtain ⟨meter, records⟩ := meter_creep c h ticks idle
  obtain ⟨others, station⟩ := takePulse_elsewhere c h ticks s
  obtain ⟨ctl, -, health, records_counted, notices⟩ := parts_creepCounted c h s
  have context : (creepCounted c h s).context h = s.context h := congrArg HoseControl.context ctl
  refine ⟨_, exec_meterPulse ticks hb fitted, congrArg Meter.unattributed meter, congrArg Meter.creepFraction meter,
    (congrArg Meter.delivered meter :), (congrArg Meter.fraction meter :), congrArg Meter.interval meter,
    congrArg Meter.creep meter, fun inside => ?inside, fun quiet counts room => ?first, fun frozen => ?frozen, others,
    station, records⟩
  case inside =>
    rw [takePulse_inside c h ticks idle inside]
    exact ⟨ctl, health, records_counted⟩
  case first =>
    rw [takePulse_first c h ticks idle quiet]
    rw [← health] at counts room ⊢
    rw [← ctl, ← context, ← records_counted, ← notices]
    have one_more : min 15 (((creepCounted c h s).hose h).health.count + 1) =
        ((creepCounted c h s).hose h).health.count + 1 := Nat.min_eq_right room
    obtain ⟨-, counted, -, -, stands⟩ := healthEvent_own c h (creepCounted c h s)
    rw [one_more] at counted
    rw [counted counts]
    refine ⟨rfl, decide_eq_true_iff, fun below => ?_, fun reached => ?_⟩
    · rw [healthEvent_counted c h _ counts (by rwa [one_more])]
      simp
    · rw [← one_more] at reached
      refine ⟨healthEvent_hoseOut counts reached, healthEvent_idle counts reached, healthEvent_authorized counts reached,
        fun x => healthEvent_starting counts reached, fun rests => ?_⟩
      obtain ⟨ctl_kept, -, records_kept⟩ := stands (.inr rests)
      exact ⟨ctl_kept, records_kept⟩
  case frozen =>
    rw [takePulse_creep c h ticks idle, healthEvent_frozen c h _ (by rwa [health]), ite_self]
    exact ⟨ctl, health⟩

end Sys2Proof.Machine.Metering
end

section
/-! An issue pulse (R112, R114 to R120, R136, R137, R139, R150). -/

namespace Sys2Proof.Machine.Metering

open Sys2Proof Sys2Proof.Machine Sys2Proof.Machine.FieldLines

/-! ### The meter after an issue pulse -/

/-- A capture after the first since the valves opened gives the flow of R117. -/
theorem lastFlow_countPulse {m : Meter} {ticks interval : Nat} (step : Nat)
    (captured : interval = min 65535 (m.interval + ticks)) (valid : m.firstPulse = true ∨ 0 < interval) :
    (m.countPulse step ticks).lastFlow = if m.firstPulse = true then m.lastFlow
      else if interval = 65535 then 0 else step * 100000 / (1024 * interval) := by
  have capture : m.capture ticks = interval := captured.symm
  cases first : m.firstPulse with
  | true => simp [Meter.countPulse, first]
  | false =>
    have some_time : interval ≠ 0 := Nat.ne_of_gt (valid.resolve_left (by simp [first]))
    simp [Meter.countPulse, first, capture, flowOf, intervalTop, some_time]

section Judge

variable (fastLimit slowLimit : Nat) (st : HoseState) (before m : Meter)

/-- The judgement of a capture moves the two run counts alone (R118, R119). -/
theorem enterClosing_judge : (Meter.judge fastLimit slowLimit st before m).enterClosing = m.enterClosing ∧
    (Meter.judge fastLimit slowLimit st before m).settle = m.settle := by
  unfold Meter.judge
  split
  · exact ⟨rfl, rfl⟩
  · split
    · exact ⟨rfl, rfl⟩
    · split <;> exact ⟨rfl, rfl⟩
    · exact ⟨rfl, rfl⟩

theorem judge_flowing : (Meter.judge fastLimit slowLimit .flowing before m).fastCount =
    if before.firstPulse = true then m.fastCount else if fastLimit < m.lastFlow then before.fastCount + 1 else 0 := by
  unfold Meter.judge
  split <;> rfl

theorem judge_slowing : (Meter.judge fastLimit slowLimit .slowing before m).slowCount =
    if before.firstPulse = true ∨ before.settle.isSome = true then m.slowCount
    else if slowLimit < m.lastFlow then before.slowCount + 1 else 0 := by
  cases first : before.firstPulse with
  | true => simp [Meter.judge, first]
  | false => cases settle : before.settle <;> simp [Meter.judge, first, settle, judgeFlow]

theorem judge_closing : Meter.judge fastLimit slowLimit .closing before m = m := by
  simp [Meter.judge]

end Judge

/-- The meter of a hose after an issue pulse, before any change of the hose's state: counted and judged (R114 to R119). -/
def pulsed (c : ConfigBlock) (h : Fin 4) (ticks : Nat) (x : Hose) : Meter :=
  Meter.judge (flowLimit c.maxFlow[h]) (flowLimit c.slowFlow[h]) x.ctl.state x.meter
    (x.meter.countPulse c.pulseStep[h] ticks)

theorem enterClosing_pulsed (c : ConfigBlock) (h : Fin 4) (ticks : Nat) (x : Hose) :
    (pulsed c h ticks x).enterClosing = (x.meter.countPulse c.pulseStep[h] ticks).enterClosing :=
  (enterClosing_judge _ _ _ _ _).1

theorem settle_pulsed (c : ConfigBlock) (h : Fin 4) (ticks : Nat) (x : Hose) :
    (pulsed c h ticks x).settle = x.meter.settle :=
  (enterClosing_judge _ _ _ _ _).2

/-! ### What the findings do -/

section Findings

variable (c : ConfigBlock) (h : Fin 4) {st : HoseState} {x : IssueContext} {m : Meter} (v : State)

theorem actOnFindings_fault (fault : st = .flowing ∧ 3 ≤ m.fastCount ∨ st = .slowing ∧ 3 ≤ m.slowCount) :
    actOnFindings c h (pulseFindings st x m) v = healthEvent c h (close c h .fault (markIssue h v)) := by
  rcases fault with ⟨rfl, fast⟩ | ⟨rfl, slow⟩
  · simp [actOnFindings, pulseFindings, fast]
  · simp [actOnFindings, pulseFindings, slow]

theorem actOnFindings_limit (no_fault : st = .flowing ∧ m.fastCount < 3 ∨ st = .slowing ∧ m.slowCount < 3)
    (limit : x.limit ≤ m.delivered) : actOnFindings c h (pulseFindings st x m) v = close c h .limit v := by
  rcases no_fault with ⟨rfl, few⟩ | ⟨rfl, few⟩
  · simp [actOnFindings, pulseFindings, Nat.not_le.mpr few, limit]
  · simp [actOnFindings, pulseFindings, Nat.not_le.mpr few, limit]

theorem actOnFindings_slowPoint (flowing : st = .flowing) (few : m.fastCount < 3) (below : m.delivered < x.limit)
    (slow_point : x.slowPoint ≤ m.delivered) :
    actOnFindings c h (pulseFindings st x m) v = enterSlowing c h v := by
  simp [actOnFindings, pulseFindings, flowing, Nat.not_le.mpr few, Nat.not_le.mpr below, slow_point]

theorem actOnFindings_stays (no_fault : st = .flowing ∧ m.fastCount < 3 ∧ m.delivered < x.slowPoint ∨
    st = .slowing ∧ m.slowCount < 3) (below : m.delivered < x.limit) :
    actOnFindings c h (pulseFindings st x m) v = v := by
  rcases no_fault with ⟨rfl, few, short⟩ | ⟨rfl, few⟩
  · simp [actOnFindings, pulseFindings, Nat.not_le.mpr few, Nat.not_le.mpr below, Nat.not_le.mpr short]
  · simp [actOnFindings, pulseFindings, Nat.not_le.mpr few, Nat.not_le.mpr below]

theorem actOnFindings_closing (closing : st = .closing) : actOnFindings c h (pulseFindings st x m) v = v := by
  simp [actOnFindings, pulseFindings, closing]

end Findings

/-- A health event of an issue that has closed for a fault leaves the close as it is, and counts (R120, R137, R150). -/
theorem fault_closes {v : State} {h : Fin 4} {x : IssueContext} (c : ConfigBlock) (context : v.context h = some x) :
    ((healthEvent c h (close c h .fault (markIssue h v))).hose h).ctl.state = .closing ∧
    (healthEvent c h (close c h .fault (markIssue h v))).context h =
      some { x with endReason := some .fault, healthEvent := true } ∧
    ((healthEvent c h (close c h .fault (markIssue h v))).hose h).meter = (v.hose h).meter.enterClosing ∧
    (healthEvent c h (close c h .fault (markIssue h v))).records = v.records ∧
    ((v.hose h).health.frozen = false → ((healthEvent c h (close c h .fault (markIssue h v))).hose h).health =
      { (v.hose h).health with
        count := min 15 ((v.hose h).health.count + 1)
        frozen := decide (c.healthThreshold ≤ min 15 ((v.hose h).health.count + 1)) }) ∧
    ((v.hose h).health.frozen = true → ((healthEvent c h (close c h .fault (markIssue h v))).hose h).health =
      (v.hose h).health) := by
  have held : (v.hose h).ctl.context = some x := context
  obtain ⟨ctl_marked, meter_marked, health_marked, -⟩ := markIssue_own h v
  have marked : (markIssue h v).context h = some { x with healthEvent := true } := by
    rw [State.context, ctl_marked, held]; rfl
  obtain ⟨ctl, meter, health, -, -, records⟩ := close_issue c .fault marked
  obtain ⟨frozen, counted, -, -, stands⟩ := healthEvent_own c h (close c h .fault (markIssue h v))
  obtain ⟨ctl_kept, meter_kept, records_kept⟩ := stands (.inl (by rw [ctl]))
  rw [health, health_marked] at frozen counted
  rw [State.context, ctl_kept, meter_kept, records_kept, ctl, meter, meter_marked, records]
  refine ⟨rfl, rfl, rfl, by simp, counted, fun f => ?_⟩
  rw [frozen f, health, health_marked]

/-- The findings of a pulse leave of the meter all that an entry to CLOSING leaves, and the records (R137). -/
theorem meter_actOnFindings {v : State} {h : Fin 4} {x : IssueContext} (c : ConfigBlock) (f : PulseFindings)
    (context : v.context h = some x) :
    ((actOnFindings c h f v).hose h).meter.enterClosing = (v.hose h).meter.enterClosing ∧
    (actOnFindings c h f v).records = v.records := by
  unfold actOnFindings
  split
  · obtain ⟨-, -, meter, records, -⟩ := fault_closes c context
    exact ⟨by rw [meter]; rfl, records⟩
  · split
    · obtain ⟨-, meter, -, -, -, records⟩ := close_issue c .limit context
      exact ⟨by rw [meter]; rfl, records⟩
    · split
      · obtain ⟨-, meter, -⟩ := enterSlowing_own c h v
        exact ⟨by rw [meter]; rfl, by simp [enterSlowing]⟩
      · exact ⟨rfl, rfl⟩

/-! ### The hose that the findings are acted on -/

section Counted

variable (c : ConfigBlock) (h : Fin 4) (ticks : Nat) (s : State)

/-- The state after an issue pulse is counted and its timers set, before its findings are acted on (R114, R136). -/
def issueCounted : State :=
  ((setMeterInput c h s).mapMeter h fun _ => pulsed c h ticks (s.hose h)).mapCtl h
    (pulseTimers c (s.hose h).ctl.state)

theorem parts_issueCounted :
    ((issueCounted c h ticks s).hose h).ctl = pulseTimers c (s.hose h).ctl.state (s.hose h).ctl ∧
    ((issueCounted c h ticks s).hose h).meter = pulsed c h ticks (s.hose h) ∧
    ((issueCounted c h ticks s).hose h).health = (s.hose h).health ∧
    (issueCounted c h ticks s).context h = s.context h ∧ (issueCounted c h ticks s).records = s.records := by
  have context : ∀ k, (pulseTimers c (s.hose h).ctl.state k).context = k.context := fun k => by
    unfold pulseTimers
    split <;> rfl
  simp [issueCounted, setMeterInput, State.context, context]

variable {s}

/-- In FLOWING, SLOWING and CLOSING a pulse is an issue pulse (R112). -/
theorem takePulse_issue {x : IssueContext} (takes : (s.hose h).ctl.state.takesIssuePulse = true)
    (context : s.context h = some x) : takePulse c h ticks (setMeterInput c h s) =
      actOnFindings c h (pulseFindings (s.hose h).ctl.state x (pulsed c h ticks (s.hose h)))
        (issueCounted c h ticks s) := by
  have own := hose_setMeterInput c h h s
  have held : (setMeterInput c h s).context h = some x := by rw [State.context, own]; exact context
  have state : ((setMeterInput c h s).hose h).ctl.state = (s.hose h).ctl.state := by rw [own]
  have meter : ((setMeterInput c h s).hose h).meter = (s.hose h).meter := by rw [own]
  have issue : takePulse c h ticks (setMeterInput c h s) = Machine.issuePulse c h x ticks (setMeterInput c h s) := by
    simp [takePulse, state, takes, held]
  rw [issue, Machine.issuePulse, state, meter]
  rfl

end Counted

/-- Settles O39: the pulse is counted and judged; then its findings close the issue for a fault or at the limit, enter the
slow stage, or leave the hose in its state with its timers restarted. -/
theorem issuePulse : Obligations.IssuePulse := by
  rintro s c h x ticks interval flow delivered fast slow _ hb fitted flows context rfl captured valid is_flow is_delivered
    is_fast is_slow
  have takes : (s.hose h).ctl.state.takesIssuePulse = true := by rcases flows with e | e | e <;> rw [e] <;> rfl
  obtain ⟨ctl, meter, health, kept, records⟩ := parts_issueCounted c h ticks s
  rw [context] at kept
  obtain ⟨volume, records_kept⟩ := meter_actOnFindings c
    (pulseFindings (s.hose h).ctl.state x (pulsed c h ticks (s.hose h))) kept
  obtain ⟨others, station⟩ := takePulse_elsewhere c h ticks s
  rw [meter, enterClosing_pulsed] at volume
  have flow_counted : ((s.hose h).meter.countPulse c.pulseStep[h] ticks).lastFlow = flow :=
    (lastFlow_countPulse _ captured valid).trans is_flow.symm
  have delivered_pulsed : (pulsed c h ticks (s.hose h)).delivered = delivered :=
    (congrArg Meter.delivered (enterClosing_pulsed c h ticks (s.hose h)) :).trans is_delivered.symm
  have fast_pulsed : (s.hose h).ctl.state = .flowing → (pulsed c h ticks (s.hose h)).fastCount = fast := fun e => by
    rw [pulsed, e, judge_flowing, flow_counted, is_fast]; rfl
  have slow_pulsed : (s.hose h).ctl.state = .slowing → (pulsed c h ticks (s.hose h)).slowCount = slow := fun e => by
    rw [pulsed, e, judge_slowing, flow_counted, is_slow]; rfl
  have timers : (s.hose h).ctl.state = .flowing ∨ (s.hose h).ctl.state = .slowing →
      ((issueCounted c h ticks s).hose h).ctl = { (s.hose h).ctl with
        startTimer := none, noFlowTimer := some (c.noFlowTime * 100000) } := fun moving => ctl.trans (if_pos moving)
  refine ⟨_, exec_meterPulse ticks hb fitted, ?_⟩
  rw [takePulse_issue c h ticks takes context] at others station ⊢
  refine ⟨(congrArg Meter.delivered volume :).trans is_delivered.symm, (congrArg Meter.fraction volume :),
    (congrArg Meter.interval volume :), (congrArg Meter.lastFlow volume :).trans flow_counted,
    (congrArg Meter.firstPulse volume :), (congrArg Meter.unattributed volume :), (congrArg Meter.creep volume :),
    fun fault => ?fault, fun no_fault limit => ?limit, fun flowing few below slow_point => ?slow_point,
    fun flowing few below short => ?flowing, fun slowing few below => ?slowing, fun closing => ?closing, others, station,
    records_kept.trans records⟩
  case fault =>
    have found : (s.hose h).ctl.state = .flowing ∧ 3 ≤ (pulsed c h ticks (s.hose h)).fastCount ∨
        (s.hose h).ctl.state = .slowing ∧ 3 ≤ (pulsed c h ticks (s.hose h)).slowCount := fault.imp
      (fun ⟨e, many⟩ => ⟨e, many.trans_eq (fast_pulsed e).symm⟩)
      fun ⟨e, many⟩ => ⟨e, many.trans_eq (slow_pulsed e).symm⟩
    obtain ⟨state, ended, -, -, counted, frozen⟩ := fault_closes c kept
    rw [actOnFindings_fault c h _ found]
    rw [health] at counted frozen
    refine ⟨state, ended, fun counts room => ?_, frozen⟩
    have one_more : min 15 ((s.hose h).health.count + 1) = (s.hose h).health.count + 1 := Nat.min_eq_right room
    rw [counted counts, one_more]
    exact ⟨rfl, decide_eq_true_iff⟩
  case limit =>
    have found : (s.hose h).ctl.state = .flowing ∧ (pulsed c h ticks (s.hose h)).fastCount < 3 ∨
        (s.hose h).ctl.state = .slowing ∧ (pulsed c h ticks (s.hose h)).slowCount < 3 := no_fault.imp
      (fun ⟨e, few⟩ => ⟨e, (fast_pulsed e).trans_lt few⟩)
      fun ⟨e, few⟩ => ⟨e, (slow_pulsed e).trans_lt few⟩
    rw [← delivered_pulsed] at limit
    obtain ⟨closed, -, health_kept, -⟩ := close_issue c .limit kept
    rw [actOnFindings_limit c h _ found limit, State.context, closed]
    exact ⟨rfl, rfl, rfl, health_kept.trans health⟩
  case slow_point =>
    rw [← delivered_pulsed] at below slow_point
    obtain ⟨entered, settling, health_kept, -⟩ := enterSlowing_own c h (issueCounted c h ticks s)
    rw [actOnFindings_slowPoint c h _ flowing ((fast_pulsed flowing).trans_lt few) below slow_point, State.context,
      entered, settling, timers (.inl flowing)]
    exact ⟨rfl, context, rfl, rfl, rfl, rfl, rfl, rfl, health_kept.trans health⟩
  case flowing =>
    rw [← delivered_pulsed] at below short
    rw [actOnFindings_stays c h _ (.inl ⟨flowing, (fast_pulsed flowing).trans_lt few, short⟩) below, State.context,
      timers (.inl flowing), meter]
    exact ⟨flowing, context, rfl, rfl, fast_pulsed flowing, health⟩
  case slowing =>
    rw [← delivered_pulsed] at below
    rw [actOnFindings_stays c h _ (.inr ⟨slowing, (slow_pulsed slowing).trans_lt few⟩) below, State.context,
      timers (.inr slowing), meter]
    exact ⟨slowing, context, rfl, rfl, slow_pulsed slowing, settle_pulsed c h ticks _, health⟩
  case closing =>
    have untimed : pulseTimers c (s.hose h).ctl.state (s.hose h).ctl = (s.hose h).ctl := by simp [pulseTimers, closing]
    have unjudged : pulsed c h ticks (s.hose h) = (s.hose h).meter.countPulse c.pulseStep[h] ticks := by
      rw [pulsed, closing, judge_closing]
    rw [actOnFindings_closing c h _ closing, ctl, untimed, meter, unjudged]
    exact ⟨rfl, health, rfl, rfl, rfl⟩

end Sys2Proof.Machine.Metering
end

-- Proofs of the family 08_hose_control_and_fuel_issue: the course of the issues through every step, the issue limit, STOP_HOSE,
-- READ_HOSE, and the authorisation timer and prime wait.

section
/-! Proofs of the family 08_hose_control_and_fuel_issue. The course of an issue (Table 8-6): the turns that a hose takes from
state to state with its context, its health and the record queue, and what a course of such turns keeps (R126, R145, R149,
R157, R158). -/

namespace Sys2Proof.Machine.HoseCourse

open Sys2Proof Sys2Proof.Machine Sys2Proof.Machine.ServiceIntervals Sys2Proof.Machine.ShiftClock
  Sys2Proof.Machine.FieldLines Sys2Proof.Machine.Metering

/-! ### The turns of a hose -/

/-- A turn of one hose, from `x` and the record queue `q` to `y` and `r`: the states, contexts, frozen counts and places of
Table 8-6 and of chapter 9. -/
inductive Turn (fitted running : Bool) (x y : Hose) (q r : RecordBlock) : Prop
  | authorised (is_fitted : fitted = true) (runs : running = true) (room : q.records.length + q.reservations < recordRoom)
      (before : x.ctl.state = .idle) (after : y.ctl.state = .authorized) (context : y.ctl.context.isSome = true)
      (frozen : y.health.frozen = x.health.frozen) (records : r = { q with reservations := q.reservations + 1 })
  | carried (before : x.ctl.state = .authorized ∨ x.ctl.state.issuing = true) (after : y.ctl.state.issuing = true)
      (context : y.ctl.context.isSome = x.ctl.context.isSome) (frozen : y.health.frozen = x.health.frozen)
      (records : r = q)
  | closed (before : x.ctl.state.issuing = true) (after : y.ctl.state = .closing)
      (context : y.ctl.context.isSome = x.ctl.context.isSome) (records : r = q)
  | ended (before : x.ctl.state.issuing = true ∨ x.ctl.state = .closing) (after : y.ctl.state = .ended)
      (context : y.ctl.context.isSome = x.ctl.context.isSome)
      (records : r.reservations = q.reservations - 1 ∧ r.records.length = q.records.length + 1)
  | cancelled (before : x.ctl.state = .authorized) (after : y.ctl.state = restingState y.health.frozen)
      (context : y.ctl.context = none) (records : r = { q with reservations := q.reservations - 1 })
  | left (before : x.ctl.state = .ended) (after : y.ctl.state = restingState y.health.frozen)
      (context : y.ctl.context = none) (records : r = q)
  | rests (before : x.ctl.state = .idle) (after : y.ctl.state = restingState y.health.frozen)
      (context : y.ctl.context = x.ctl.context) (records : r = q)
  | thawed (before : x.ctl.state = .outOfService) (after : y.ctl.state = if fitted then .idle else .outOfService)
      (context : y.ctl.context = x.ctl.context) (frozen : y.health.frozen = false) (records : r = q)
  | stays (state : y.ctl.state = x.ctl.state) (context : y.ctl.context.isSome = x.ctl.context.isSome)
      (frozen : y.health.frozen = x.health.frozen ∨ x.ctl.state = .closing ∨ x.ctl.state = .ended ∨
        (y.health.frozen = true ↔ x.ctl.state = .outOfService)) (records : r = q)

/-- A hose holds an issue context exactly in AUTHORIZED to ENDED (Table 8-2). -/
def HoldsContext (x : Hose) : Prop := x.ctl.context.isSome = x.ctl.state.inFlight

/-- A hose's state is in accord with its fitting and its frozen count (R126, R145, R149). -/
def InAccord (fitted : Bool) (x : Hose) : Prop :=
  (fitted = false → x.ctl.state = .outOfService) ∧
  (x.ctl.state = .outOfService → fitted = true → x.health.frozen = true) ∧
  (x.health.frozen = true → x.ctl.state = .closing ∨ x.ctl.state = .ended ∨ x.ctl.state = .outOfService)

/-- The places that a hose holds of the reservation count (R158). -/
def placesHeld (x : Hose) : Nat := x.ctl.state.reserved.toNat

theorem issuing_iff (st : HoseState) : st.issuing = true ↔ st = .starting ∨ st = .flowing ∨ st = .slowing := by
  cases st <;> decide

/-- STARTING, FLOWING and SLOWING have an issue in flight and hold its reservation. -/
theorem of_issuing {st : HoseState} (issuing : st.issuing = true) :
    st.inFlight = true ∧ st.reserved = true ∧ st ≠ .outOfService := by
  revert issuing
  cases st <;> decide

/-- No reservation is held where no issue is in flight. -/
theorem not_reserved {st : HoseState} (idle : st.inFlight = false) : st.reserved = false := by
  revert idle
  cases st <;> decide

/-- A hose is active where an issue is in flight (R174). -/
theorem inFlight_iff (st : HoseState) : st.inFlight = true ↔ st ≠ .idle ∧ st ≠ .outOfService := by
  cases st <;> decide

/-- A hose with no issue is neither in flight nor holds a reservation. -/
theorem of_resting (frozen : Bool) :
    (restingState frozen).inFlight = false ∧ (restingState frozen).reserved = false := by
  cases frozen <;> decide

namespace Turn

variable {fitted running : Bool} {x y : Hose} {q r : RecordBlock}

theorem holdsContext (turn : Turn fitted running x y q r) (holds : HoldsContext x) : HoldsContext y := by
  unfold HoldsContext at holds ⊢
  cases turn with
  | authorised _ _ _ _ after context => rw [context, after]; rfl
  | carried before after context =>
    rw [context, holds, (of_issuing after).1]
    rcases before with e | e
    · rw [e]; rfl
    · exact (of_issuing e).1
  | closed before after context => rw [context, holds, after]; exact (of_issuing before).1
  | ended before after context =>
    rw [context, holds, after]
    rcases before with e | e
    · exact (of_issuing e).1
    · rw [e]; rfl
  | cancelled _ after context | left _ after context => rw [context, after, (of_resting _).1]; rfl
  | rests before after context => rw [context, holds, before, after, (of_resting _).1]; rfl
  | thawed before after context =>
    rw [context, holds, before, after]
    cases fitted <;> rfl
  | stays state context => rw [context, holds, state]

theorem inAccord (turn : Turn fitted running x y q r) (accord : InAccord fitted x) : InAccord fitted y := by
  obtain ⟨unfitted, out, frozen_states⟩ := accord
  have is_fitted : x.ctl.state ≠ .outOfService → fitted = true := fun active =>
    Bool.eq_true_of_not_eq_false fun e => active (unfitted e)
  have resting : ∀ b, x.ctl.state ≠ .outOfService → y.ctl.state = restingState b → y.health.frozen = b →
      InAccord fitted y := fun b active after frozen => by
    rw [InAccord, after, frozen, is_fitted active]
    cases b <;> simp [restingState]
  cases turn with
  | authorised fitted_hose _ _ before after _ frozen =>
    rw [InAccord, after, frozen, fitted_hose]
    refine ⟨Bool.noConfusion, HoseState.noConfusion, fun e => ?_⟩
    have states := frozen_states e
    simp [before] at states
  | carried before after _ frozen =>
    have not_frozen : x.health.frozen ≠ true := fun e => by
      rcases frozen_states e with c | c | c <;> rw [c] at before <;> exact absurd before (by decide)
    have active : x.ctl.state ≠ .outOfService := fun e => by rw [e] at before; exact absurd before (by decide)
    exact ⟨fun e => absurd (is_fitted active) (by simp [e]), fun e => absurd e (of_issuing after).2.2,
      fun e => absurd (frozen ▸ e) not_frozen⟩
  | closed before after =>
    exact ⟨fun e => absurd (unfitted e) (of_issuing before).2.2, fun e => by simp [after] at e, fun _ => .inl after⟩
  | ended before after =>
    have active : x.ctl.state ≠ .outOfService := fun e => by rw [e] at before; exact absurd before (by decide)
    exact ⟨fun e => absurd (unfitted e) active, fun e => by simp [after] at e, fun _ => .inr (.inl after)⟩
  | cancelled before after | left before after | rests before after =>
    exact resting _ (by simp [before]) after rfl
  | thawed before after _ frozen =>
    rw [InAccord, after, frozen]
    cases fitted <;> simp
  | stays state _ frozen =>
    rw [InAccord, state]
    refine ⟨unfitted, fun e is_fitted => ?_, fun e => ?_⟩
    · rcases frozen with same | c | c | c
      · rw [same]; exact out e is_fitted
      · simp [e] at c
      · simp [e] at c
      · exact c.mpr e
    · rcases frozen with same | c | c | c
      · exact frozen_states (same ▸ e)
      · exact .inl c
      · exact .inr (.inl c)
      · exact .inr (.inr (c.mp e))

theorem reservation (turn : Turn fitted running x y q r) (counted : placesHeld x ≤ q.reservations) :
    r.reservations + placesHeld x = q.reservations + placesHeld y := by
  unfold placesHeld at counted ⊢
  cases turn with
  | authorised _ _ _ before after _ _ records => rw [records, before, after]; rfl
  | carried before after _ _ records =>
    rw [records, (of_issuing after).2.1]
    rcases before with e | e
    · rw [e]; rfl
    · rw [(of_issuing e).2.1]
  | closed before after _ records => rw [records, after, (of_issuing before).2.1]; rfl
  | ended before after _ records =>
    have held : x.ctl.state.reserved = true := by
      rcases before with e | e
      · exact (of_issuing e).2.1
      · rw [e]; rfl
    rw [held] at counted ⊢
    rw [records.1, after]
    exact Nat.sub_add_cancel counted
  | cancelled before after _ records =>
    rw [before] at counted ⊢
    rw [records, after, (of_resting _).2]
    exact Nat.sub_add_cancel counted
  | left before after _ records | rests before after _ records =>
    rw [records, before, after, (of_resting _).2]; rfl
  | thawed before after _ _ records =>
    rw [records, before, after]
    cases fitted <;> rfl
  | stays state _ _ records => rw [records, state]

/-- A turn takes a place only where one is free (R158, R162). -/
theorem places (turn : Turn fitted running x y q r) (room : q.records.length + q.reservations ≤ recordRoom)
    (counted : placesHeld x ≤ q.reservations) : r.records.length + r.reservations ≤ recordRoom := by
  have balance := turn.reservation counted
  unfold placesHeld at balance counted
  cases turn with
  | authorised _ _ free _ _ _ _ records => rw [records]; exact free
  | carried _ _ _ _ records | closed _ _ _ records | left _ _ _ records | rests _ _ _ records
  | thawed _ _ _ _ records | stays _ _ _ records => rw [records]; exact room
  | cancelled _ _ _ records =>
    rw [records]
    exact (Nat.add_le_add_left (Nat.sub_le _ _) _).trans room
  | ended before after _ records =>
    have held : x.ctl.state.reserved = true := by
      rcases before with e | e
      · exact (of_issuing e).2.1
      · rw [e]; rfl
    rw [held, Bool.toNat_true] at counted
    rw [records.1, records.2]
    omega

/-- An issue begins in a running station alone. -/
theorem not_inFlight (turn : Turn fitted running x y q r) (idle : x.ctl.state.inFlight = false) (standby : running = false) :
    y.ctl.state.inFlight = false := by
  have not_issuing : x.ctl.state.issuing ≠ true := fun e => by simp [(of_issuing e).1] at idle
  cases turn with
  | authorised _ runs => exact absurd (runs.symm.trans standby) (by decide)
  | carried before | closed before | ended before | cancelled before | left before => 
    simp_all [HoseState.inFlight]
  | rests _ after => rw [after, (of_resting _).1]
  | thawed _ after => rw [after]; cases fitted <;> rfl
  | stays state => rw [state]; exact idle

end Turn

/-! ### The course of the issues -/

/-- Hose `h` takes a turn; the other hoses' controllers and health, the net and the configuration stand. -/
structure TakesTurn (h : Fin 4) (s t : State) : Prop where
  block  : t.store.block = s.store.block
  net    : t.net = s.net
  others : ∀ k, k ≠ h → (t.hose k).ctl = (s.hose k).ctl ∧ (t.hose k).health = (s.hose k).health
  count  : (s.hose h).health.count ≤ 15 → (t.hose h).health.count ≤ 15
  turn   : Turn (s.fitted h) s.running (s.hose h) (t.hose h) s.records t.records

/-- The issues stand: states, contexts and health of the hoses, the reservations and no more records; and a station in
STANDBY has come from STANDBY. -/
structure KeepsIssues (s t : State) : Prop where
  block        : t.store.block = s.store.block
  standby      : t.net.state = .standby → s.net.state = .standby
  reservations : t.records.reservations = s.records.reservations
  records      : t.records.records.length ≤ s.records.records.length
  hoses        : ∀ k, (t.hose k).ctl.state = (s.hose k).ctl.state ∧
    (t.hose k).ctl.context.isSome = (s.hose k).ctl.context.isSome ∧ (t.hose k).health = (s.hose k).health

/-- What the operations of the hoses are made of: turns, and updates that leave the issues. -/
inductive Course : State → State → Prop
  | kept {s t : State} (q : KeepsIssues s t) : Course s t
  | turned {h : Fin 4} {s t : State} (q : TakesTurn h s t) : Course s t
  | trans {s t u : State} (a : Course s t) (b : Course t u) : Course s u

theorem fitted_congr {s t : State} (block : t.store.block = s.store.block) (h : Fin 4) : t.fitted h = s.fitted h := by
  rw [State.fitted, State.fitted, block]

/-- The reservations that the hoses hold are counted hose by hose. -/
theorem reservedHoses_eq_sum (s : State) : s.reservedHoses = ∑ k, placesHeld (s.hose k) := by
  simp only [State.reservedHoses, hoseIndices, placesHeld, Fin.sum_univ_four, ← List.countP_eq_length_filter,
    List.countP_cons, List.countP_nil]
  simp only [Bool.toNat, cond_eq_ite]
  omega

theorem placesHeld_le_reservedHoses (s : State) (h : Fin 4) : placesHeld (s.hose h) ≤ s.reservedHoses := by
  rw [reservedHoses_eq_sum]
  exact Finset.single_le_sum (f := fun k => placesHeld (s.hose k)) (fun _ _ => Nat.zero_le _) (Finset.mem_univ h)

/-- A turn of one hose moves the reservations held by that hose's alone. -/
theorem reservedHoses_turn {h : Fin 4} {s t : State} (q : TakesTurn h s t) :
    t.reservedHoses + placesHeld (s.hose h) = s.reservedHoses + placesHeld (t.hose h) := by
  have elsewhere : ∑ k ∈ {h}ᶜ, placesHeld (t.hose k) = ∑ k ∈ {h}ᶜ, placesHeld (s.hose k) :=
    Finset.sum_congr rfl fun k other => by
      rw [placesHeld, placesHeld, (q.others k (by simpa using other)).1]
  rw [reservedHoses_eq_sum, reservedHoses_eq_sum, Fintype.sum_eq_add_sum_compl h, Fintype.sum_eq_add_sum_compl h, elsewhere]
  omega

/-! ### What the course keeps -/

theorem issuesAccounted_of_turn {h : Fin 4} {s t : State} (q : TakesTurn h s t) (account : IssuesAccounted s) :
    IssuesAccounted t := by
  obtain ⟨contexts, reservations, room, standby⟩ := account
  have counted : placesHeld (s.hose h) ≤ s.records.reservations := reservations ▸ placesHeld_le_reservedHoses s h
  have moved := reservedHoses_turn q
  have balance := q.turn.reservation counted
  refine ⟨fun k => ?_, by omega, q.turn.places room counted, fun stopped k => ?_⟩
  · by_cases own : k = h
    · exact own ▸ q.turn.holdsContext (contexts h)
    · rw [State.context, (q.others k own).1]; exact contexts k
  · rw [q.net] at stopped
    by_cases own : k = h
    · exact own ▸ q.turn.not_inFlight (standby stopped h) (running_false stopped)
    · rw [(q.others k own).1]; exact standby stopped k

theorem issuesAccounted_of_keeps {s t : State} (q : KeepsIssues s t) (account : IssuesAccounted s) :
    IssuesAccounted t := by
  obtain ⟨contexts, reservations, room, standby⟩ := account
  have state := fun k => (q.hoses k).1
  have context : ∀ k, (t.context k).isSome = (s.context k).isSome := fun k => (q.hoses k).2.1
  have held : t.reservedHoses = s.reservedHoses := by simp only [State.reservedHoses, state]
  refine ⟨fun k => by rw [context, state]; exact contexts k, by rw [q.reservations, held, reservations], ?_,
    fun stopped k => by rw [state]; exact standby (q.standby stopped) k⟩
  rw [q.reservations]
  exact (Nat.add_le_add_right q.records _).trans room

/-- Health is sound hose by hose: in accord, and its count at most 15. -/
theorem healthSound_iff (s : State) : HealthSound s ↔
    ∀ k, InAccord (s.fitted k) (s.hose k) ∧ (s.hose k).health.count ≤ 15 := by
  simp only [HealthSound, InAccord, and_assoc]

theorem healthSound_of_turn {h : Fin 4} {s t : State} (q : TakesTurn h s t) (sound : HealthSound s) : HealthSound t := by
  rw [healthSound_iff] at sound ⊢
  intro k
  rw [fitted_congr q.block]
  by_cases own : k = h
  · exact own ▸ ⟨q.turn.inAccord (sound h).1, q.count (sound h).2⟩
  · obtain ⟨ctl, health⟩ := q.others k own
    rw [InAccord, ctl, health]
    exact sound k

theorem healthSound_of_keeps {s t : State} (q : KeepsIssues s t) (sound : HealthSound s) : HealthSound t := by
  rw [healthSound_iff] at sound ⊢
  intro k
  obtain ⟨state, -, health⟩ := q.hoses k
  rw [fitted_congr q.block, InAccord, state, health]
  exact sound k

theorem issuesAccounted_of_course {s t : State} (course : Course s t) (account : IssuesAccounted s) :
    IssuesAccounted t := by
  induction course with
  | kept q => exact issuesAccounted_of_keeps q account
  | turned q => exact issuesAccounted_of_turn q account
  | trans _ _ first second => exact second (first account)

theorem healthSound_of_course {s t : State} (course : Course s t) (sound : HealthSound s) : HealthSound t := by
  induction course with
  | kept q => exact healthSound_of_keeps q sound
  | turned q => exact healthSound_of_turn q sound
  | trans _ _ first second => exact second (first sound)

end Sys2Proof.Machine.HoseCourse
end

section
/-! The course of an issue: every operation of a hose is made of turns (Table 8-6, R126, R145, R149, R158). -/

namespace Sys2Proof.Machine.HoseCourse

open Sys2Proof Sys2Proof.Machine Sys2Proof.Machine.ServiceIntervals Sys2Proof.Machine.ShiftClock
  Sys2Proof.Machine.FieldLines Sys2Proof.Machine.Metering

/-! ### Updates that leave the issues -/

/-- An operation that touches neither the hoses nor the records, and does not stop the station. -/
theorem KeepsIssues.of_station {s t : State} (standby : t.net.state = .standby → s.net.state = .standby)
    (h : t.store.block = s.store.block ∧ t.hoses = s.hoses ∧ t.records = s.records) : KeepsIssues s t := by
  obtain ⟨block, hoses, records⟩ := h
  exact ⟨block, standby, by rw [records], by rw [records], fun k => by
    rw [hose_congr hoses]; exact ⟨rfl, rfl, rfl⟩⟩

theorem KeepsIssues.of_frame {s t : State} (h : t.net = s.net ∧ t.store.block = s.store.block ∧ t.hoses = s.hoses ∧
    t.records = s.records) : KeepsIssues s t := .of_station (fun e => h.1 ▸ e) h.2

/-- An operation that leaves the records, the net and the configuration, and of each hose its controller and its health. -/
theorem KeepsIssues.of_parts {s t : State}
    (station : t.store.block = s.store.block ∧ t.net = s.net ∧ t.records = s.records)
    (hoses : ∀ k, (t.hose k).ctl = (s.hose k).ctl ∧ (t.hose k).health = (s.hose k).health) : KeepsIssues s t := by
  obtain ⟨block, net, records⟩ := station
  exact ⟨block, fun e => net ▸ e, by rw [records], by rw [records], fun k => by
    rw [(hoses k).1]; exact ⟨rfl, rfl, (hoses k).2⟩⟩

/-- A hose rewritten with its state, the presence of its context and its health kept. -/
theorem keepsIssues_mapHose (s : State) (h : Fin 4) (f : Hose → Hose)
    (hf : ∀ x, (f x).ctl.state = x.ctl.state ∧ (f x).ctl.context.isSome = x.ctl.context.isSome ∧
      (f x).health = x.health) : KeepsIssues s (s.mapHose h f) :=
  ⟨rfl, id, rfl, Nat.le_refl _, fun k => by
    rw [hose_mapHose]
    split
    · exact hf _
    · exact ⟨rfl, rfl, rfl⟩⟩

theorem Course.of_frame {s t : State} (h : t.net = s.net ∧ t.store.block = s.store.block ∧ t.hoses = s.hoses ∧
    t.records = s.records) : Course s t := .kept (.of_frame h)

theorem Course.refl (s : State) : Course s s := .of_frame ⟨rfl, rfl, rfl, rfl⟩

theorem course_ite {p : Prop} [Decidable p] {s t u : State} (ht : p → Course s t) (hu : ¬ p → Course s u) :
    Course s (if p then t else u) := by
  split
  · next yes => exact ht yes
  · next no => exact hu no

theorem course_eachHose {f : Fin 4 → State → State} (hf : ∀ k s, Course s (f k s)) (s : State) :
    Course s (eachHose f s) :=
  eachHose_inv (Course s) f (fun k t q => q.trans (hf k t)) s (.refl s)

theorem course_mapCtl (s : State) (h : Fin 4) (f : HoseControl → HoseControl)
    (hf : ∀ x, (f x).state = x.state ∧ (f x).context.isSome = x.context.isSome) : Course s (s.mapCtl h f) :=
  .kept (keepsIssues_mapHose s h _ fun x => ⟨(hf x.ctl).1, (hf x.ctl).2, rfl⟩)

theorem course_mapContext (s : State) (h : Fin 4) (f : IssueContext → IssueContext) : Course s (s.mapContext h f) :=
  course_mapCtl s h _ fun _ => ⟨rfl, Option.isSome_map⟩

theorem course_mapMeter (s : State) (h : Fin 4) (f : Meter → Meter) : Course s (s.mapMeter h f) :=
  .kept (keepsIssues_mapHose s h _ fun _ => ⟨rfl, rfl, rfl⟩)

/-- What an operation leaves of a hose but its guard counter. -/
def SameParts (x y : Hose) : Prop :=
  y.ctl = x.ctl ∧ y.meter = x.meter ∧ y.health = x.health ∧ y.nozzle = x.nozzle ∧ y.meterInput = x.meterInput

/-- A turn read off what the laws say of an operation: the other hoses, and the health of its own. -/
theorem Course.of_turn {h : Fin 4} {s t : State} (station : t.store.block = s.store.block ∧ t.net = s.net)
    (others : ∀ k, k ≠ h → SameParts (s.hose k) (t.hose k))
    (count : (t.hose h).health.count ≤ max 15 (s.hose h).health.count)
    (turn : Turn (s.fitted h) s.running (s.hose h) (t.hose h) s.records t.records) : Course s t :=
  .turned (h := h) ⟨station.1, station.2, fun k other => ⟨(others k other).1, (others k other).2.2.1⟩,
    fun bound => count.trans (max_le (Nat.le_refl _) bound), turn⟩

/-- A turn that moves no count. -/
theorem Course.of_healthy_turn {h : Fin 4} {s t : State} (station : t.store.block = s.store.block ∧ t.net = s.net)
    (others : ∀ k, k ≠ h → SameParts (s.hose k) (t.hose k)) (health : (t.hose h).health = (s.hose h).health)
    (turn : Turn (s.fitted h) s.running (s.hose h) (t.hose h) s.records t.records) : Course s t :=
  .of_turn station others (by rw [health]; exact le_max_right _ _) turn

/-! ### Cancellation and closing -/

section Course

variable (c : ConfigBlock) (h : Fin 4) {s : State}

theorem course_markIssue (s : State) : Course s (markIssue h s) := course_mapContext s h _

theorem course_cancel (authorized : (s.hose h).ctl.state = .authorized) : Course s (cancel h s) := by
  obtain ⟨ctl, -, health, -⟩ := cancel_own h s
  refine .of_healthy_turn (by simp) (fun k other => cancel_others h k s other) health
    (.cancelled authorized (by rw [ctl, health]) (by rw [ctl]) ?_)
  simp [cancel, releaseReservation]

theorem course_close (r : EndReason) (issuing : (s.hose h).ctl.state.issuing = true) : Course s (close c h r s) := by
  obtain ⟨ctl, -, health, -⟩ := close_own c h r s
  exact .of_healthy_turn (by simp) (fun k other => close_others c r h k s other) health
    (.closed issuing (by rw [ctl]) (by rw [ctl]; exact Option.isSome_map) (by simp))

theorem course_endIssue (r : EndReason) (s : State) : Course s (endIssue c h r s) :=
  course_ite (course_cancel h) fun _ => course_ite (course_close c h r) fun _ => .refl s

/-! ### Health -/

theorem course_reportHoseOut (s : State) : Course s (reportHoseOut s) := .of_frame (by simp)

/-- A freeze closes an issue whose valves may be open, and keeps its context (R145). -/
theorem healthEvent_issuing (counts : (s.hose h).health.frozen = false)
    (reached : c.healthThreshold ≤ min 15 ((s.hose h).health.count + 1))
    (issuing : (s.hose h).ctl.state.issuing = true) : ((healthEvent c h s).hose h).ctl.state = .closing ∧
    ((healthEvent c h s).hose h).ctl.context.isSome = (s.hose h).ctl.context.isSome ∧
    (healthEvent c h s).records = s.records := by
  have action : freezeAction c h (countFrozen h s) = close c h .fault (markIssue h (countFrozen h s)) :=
    (freezeAction_own c h _).2.2.2.2.1 (by rw [hose_countFrozen]; exact issuing)
  have marked : ((markIssue h (countFrozen h s)).hose h).ctl.context.isSome = (s.hose h).ctl.context.isSome := by
    rw [(markIssue_own h _).1, hose_countFrozen]
    exact Option.isSome_map
  rw [healthEvent_freezes c h s counts reached, action, hose_reportHoseOut, (close_own c h .fault _).1]
  exact ⟨rfl, Option.isSome_map.trans marked, by simp [countFrozen]⟩

/-- A freeze takes a hose out of service, closes its issue, or leaves it (R145). -/
theorem turn_healthEvent (fitted running : Bool) (counts : (s.hose h).health.frozen = false)
    (reached : c.healthThreshold ≤ min 15 ((s.hose h).health.count + 1)) :
    Turn fitted running (s.hose h) ((healthEvent c h s).hose h) s.records (healthEvent c h s).records := by
  obtain ⟨-, counted, -, -, stands⟩ := healthEvent_own c h s
  have frozen : ((healthEvent c h s).hose h).health.frozen = true := by rw [counted counts]; exact decide_eq_true reached
  have out : HoseState.outOfService = restingState ((healthEvent c h s).hose h).health.frozen := by rw [frozen]; rfl
  cases state : (s.hose h).ctl.state with
  | idle =>
    obtain ⟨after, context, records⟩ := healthEvent_idle counts reached state
    exact .rests state (after.trans out) context records
  | authorized =>
    obtain ⟨after, context, -, -, records⟩ := healthEvent_authorized counts reached state
    exact .cancelled state (after.trans out) context records
  | starting | flowing | slowing =>
    have issuing : (s.hose h).ctl.state.issuing = true := by rw [state]; rfl
    obtain ⟨after, context, records⟩ := healthEvent_issuing c h counts reached issuing
    exact .closed issuing after context records
  | closing | ended | outOfService =>
    obtain ⟨ctl, -, records⟩ := stands (by simp [state])
    exact .stays (by rw [ctl]) (by rw [ctl]) (.inr (by simp [state, frozen])) records

theorem course_healthEvent (s : State) : Course s (healthEvent c h s) := by
  have others := fun k other => healthEvent_others c h k s other
  obtain ⟨-, counted, -⟩ := healthEvent_own c h s
  cases counts : (s.hose h).health.frozen with
  | true => rw [healthEvent_frozen c h s counts]; exact .refl s
  | false =>
    have count : ((healthEvent c h s).hose h).health.count ≤ max 15 (s.hose h).health.count := by
      rw [counted counts]
      exact (Nat.min_le_left _ _).trans (le_max_left _ _)
    refine .of_turn (by simp) others count ?_
    by_cases reached : c.healthThreshold ≤ min 15 ((s.hose h).health.count + 1)
    · exact turn_healthEvent c h _ _ counts reached
    · rw [healthEvent_counted c h s counts (Nat.not_le.mp reached)]
      exact .stays (by simp) (by simp) (.inl (by simp)) rfl

theorem course_issueHealthEvent (s : State) : Course s (issueHealthEvent c h s) :=
  (course_markIssue h s).trans (course_healthEvent c h _)

/-- A drip lowers a count that is not frozen (R152). -/
theorem course_drip (n : Nat) (b : Bool) (s : State) : Course s (drip c h n b s) := by
  refine course_ite (fun _ => .refl s) fun _ => .of_turn (h := h) (by simp) (fun k other => ?_) ?_
    (.stays ?_ ?_ (.inl ?_) rfl)
  · rw [SameParts, hose_mapHealth, if_neg other]
    exact ⟨rfl, rfl, rfl, rfl, rfl⟩
  all_goals rw [hose_mapHealth, if_pos rfl]
  · exact (Nat.sub_le _ _).trans (le_max_right _ _)
  all_goals rfl

/-! ### Completion -/

theorem course_leaveEnded (ended : (s.hose h).ctl.state = .ended) : Course s (leaveEnded h s) := by
  have health : ((leaveEnded h s).hose h).health = (s.hose h).health := by simp [leaveEnded, parts_enterState]
  obtain ⟨context, state, -⟩ := leaveEnded_own h s
  exact .of_healthy_turn (by simp) (fun k other => leaveEnded_others h k s other) health
    (.left ended (by rw [health]; exact state) context (by simp))

theorem course_examineNozzle (s : State) : Course s (examineNozzle h s) :=
  course_ite (fun ended => course_leaveEnded h ended.1) fun _ => .refl s

theorem course_completionHealth (a b : Bool) (n : Nat) (s : State) : Course s (completionHealth c h a b n s) := by
  have event : ∀ (b : Bool) s, Course s (if b then issueHealthEvent c h s else s) := fun b s =>
    course_ite (fun _ => course_issueHealthEvent c h s) fun _ => .refl s
  have both := (event a s).trans (event b _)
  simp only [completionHealth]
  split
  · exact both
  · exact both.trans (course_drip c h n _ _)

/-- The hose in ENDED, its issue charged to the vehicle and its reservation committed as a record (R140, R159). -/
theorem course_committed (before : (s.hose h).ctl.state.issuing = true ∨ (s.hose h).ctl.state = .closing)
    (limit v n : Nat) (y : IssueContext) :
    Course s (commitRecord h y (charge c v n (enterEnded c h limit s))) := by
  refine .of_turn (h := h) (by simp) (fun k other => ?_) ?_ (.ended before ?_ ?_ ?_)
  · rw [SameParts, hose_commitRecord, hose_charge]
    exact enterEnded_others c limit h k s other
  · rw [hose_commitRecord, hose_charge, enterEnded, (parts_enterState _ _ _ _).2.1]
    simp
  · simp [enterEnded, ctl_enterState]
  · simp [enterEnded, ctl_enterState]
  · simp [commitRecord, reportWaiting]

theorem course_complete (x : IssueContext)
    (before : (s.hose h).ctl.state.issuing = true ∨ (s.hose h).ctl.state = .closing) :
    Course s (complete c h x s) := by
  have noticed : ∀ u, Course u (raise .issueEnded u) := fun u => .of_frame (by simp)
  exact (((course_committed c h before _ _ _ _).trans (noticed _)).trans (course_completionHealth c h _ _ _ _)).trans
    (course_examineNozzle h _)

/-! ### Starting the flow -/

theorem course_enterSlowing (issuing : (s.hose h).ctl.state.issuing = true) : Course s (enterSlowing c h s) := by
  obtain ⟨ctl, -, health, -⟩ := enterSlowing_own c h s
  exact .of_healthy_turn (by simp) (fun k other => enterSlowing_others c h k s other) health
    (.carried (.inr issuing) (by rw [ctl]; rfl) (by rw [ctl]) (by rw [health]) (by simp))

theorem course_enterFlowing (x : IssueContext) (issuing : (s.hose h).ctl.state.issuing = true) :
    Course s (enterFlowing c h x s) := by
  obtain ⟨ctl, -, health, -⟩ := enterFlowing_own c h x s
  refine .of_healthy_turn (by simp) (fun k other => enterFlowing_others c x h k s other) health
    (.carried (.inr issuing) ?_ (by rw [ctl]) (by rw [health]) (by simp))
  rw [ctl]
  simp only
  split <;> rfl

theorem course_enterStarting (x : IssueContext) (authorized : (s.hose h).ctl.state = .authorized) :
    Course s (enterStarting c h x s) := by
  obtain ⟨ctl, -, health, -⟩ := enterStarting_own c h x s _ rfl
  refine .of_healthy_turn (by simp) (fun k other => enterStarting_others c x h k s other)
    health
    (.carried (.inl authorized) ?_ (congrArg Option.isSome (enterStarting_always c h x s).1) (by rw [health]) (by simp))
  rw [ctl]
  generalize (if s.field.pumpRun = true then s.field.sincePumpOn else 0) = run
  split
  · simp only
    split <;> rfl
  · rfl

theorem course_endPrimeWait (x : IssueContext) (starting : (s.hose h).ctl.state = .starting) :
    Course s (endPrimeWait c h x s) := by
  have run : ∀ f, Course s { s with field := f } := fun _ => .of_frame ⟨rfl, rfl, rfl, rfl⟩
  unfold endPrimeWait
  refine (run _).trans (course_enterFlowing c h x ?_)
  exact (issuing_iff _).mpr (.inl starting)

/-! ### Pulses -/

/-- Findings come of a pulse in FLOWING or SLOWING (R115). -/
theorem course_actOnFindings (x : IssueContext) (m : Meter) (s : State) :
    Course s (actOnFindings c h (pulseFindings (s.hose h).ctl.state x m) s) := by
  have closes : ∀ r, (s.hose h).ctl.state.issuing = true → Course s (close c h r s) := fun r => course_close c h r
  unfold actOnFindings
  refine course_ite (fun fault => ?_) fun _ => course_ite (fun limit => closes .limit ?_) fun _ =>
    course_ite (fun slow_point => course_enterSlowing c h ?_) fun _ => .refl s
  · have marked : ((markIssue h s).hose h).ctl.state.issuing = true := by
      rw [(markIssue_own h s).1]
      simp only [pulseFindings, Bool.or_eq_true, Bool.and_eq_true, beq_iff_eq] at fault
      exact (issuing_iff _).mpr (.inr (fault.imp And.left And.left))
    exact ((course_markIssue h s).trans (course_close c h .fault marked)).trans (course_healthEvent c h _)
  · simp only [pulseFindings, Bool.or_eq_true, Bool.and_eq_true, beq_iff_eq] at limit
    exact (issuing_iff _).mpr (.inr limit.1)
  · simp only [pulseFindings, Bool.and_eq_true, beq_iff_eq] at slow_point
    exact (issuing_iff _).mpr (.inr (.inl slow_point.1))

theorem course_issuePulse (x : IssueContext) (ticks : Nat) (s : State) : Course s (issuePulse c h x ticks s) := by
  have timers : ∀ st x, (pulseTimers c st x).state = x.state ∧ (pulseTimers c st x).context = x.context := fun st x => by
    unfold pulseTimers
    split <;> exact ⟨rfl, rfl⟩
  have counted : ∀ m, Course s ((s.mapMeter h fun _ => m).mapCtl h (pulseTimers c (s.hose h).ctl.state)) := fun m =>
    (course_mapMeter s h _).trans (course_mapCtl _ h _ fun x => ⟨(timers _ x).1, by rw [(timers _ x).2]⟩)
  have state : ∀ m, (((s.mapMeter h fun _ => m).mapCtl h (pulseTimers c (s.hose h).ctl.state)).hose h).ctl.state =
      (s.hose h).ctl.state := fun m => by simp [timers]
  have acted := fun m => course_actOnFindings c h x m
    ((s.mapMeter h fun _ => m).mapCtl h (pulseTimers c (s.hose h).ctl.state))
  simp only [state] at acted
  exact (counted _).trans (acted _)

theorem course_creepPulse (s : State) : Course s (creepPulse c h s) := by
  simp only [creepPulse]
  exact course_ite (fun _ => (course_mapMeter s h _).trans (course_healthEvent c h _)) fun _ => course_mapMeter s h _

theorem course_takePulse (ticks : Nat) (s : State) : Course s (takePulse c h ticks (setMeterInput c h s)) := by
  have sampled : Course s (setMeterInput c h s) := by
    unfold setMeterInput
    exact .kept (keepsIssues_mapHose s h _ fun _ => ⟨rfl, rfl, rfl⟩)
  refine sampled.trans ?_
  unfold takePulse
  split
  · exact course_issuePulse c h _ ticks _
  · exact course_creepPulse c h _

/-! ### Nozzles, the stop line and bars -/

theorem course_guardEval (s : State) : Course s (guardEval s) :=
  .kept (.of_parts (by simp) fun k => ⟨(parts_guardEval k s).1, (parts_guardEval k s).2.2.1⟩)

theorem course_changeNozzle (b : Bool) (s : State) : Course s (changeNozzle c h b s) := by
  have seen : Course s (guardEval (setNozzle c h b s)) := by
    refine .trans (.kept ?_) (course_guardEval _)
    exact keepsIssues_mapHose s h _ fun _ => ⟨rfl, rfl, rfl⟩
  have lifted : ∀ u, Course u (liftAt c h u) := fun u => by
    unfold liftAt
    split
    · next authorized _ => exact course_enterStarting c h _ (beq_iff_eq.mp authorized)
    · exact .refl u
  have hung : ∀ u, Course u (hangAt c h u) := fun u =>
    course_ite (course_close c h .hung) fun _ => course_ite (course_leaveEnded h) fun _ => .refl u
  exact course_ite (fun _ => seen.trans (lifted _)) fun _ => seen.trans (hung _)

theorem course_changeStop (b : Bool) (s : State) : Course s (changeStop c b s) := by
  have set : Course s (setStop c b s) := .of_frame (by simp)
  have driven := set.trans (course_eachHose (f := driveValves) (fun k s => course_mapCtl s k _ fun _ => ⟨rfl, rfl⟩) _)
  have ended := driven.trans (course_eachHose (f := fun k => endIssue c k .estop)
    (fun k s => course_endIssue c k .estop s) _)
  simp only [changeStop]
  exact course_ite (fun _ => ended) fun _ => driven

theorem course_barEndsIssue (v : Nat) (s : State) : Course s (barEndsIssue c v s) :=
  course_eachHose (fun k s => by
    unfold barHose
    split
    · exact .refl s
    · exact course_ite (fun _ => course_endIssue c k .barred s) fun _ => .refl s) s

/-! ### RESTART, presentations, tallies and thaws -/

theorem course_restartHose (s : State) : Course s (restartHose c h s) := by
  unfold restartHose
  refine course_ite (course_cancel h) fun _ => course_ite (fun active => ?_) fun _ => .refl s
  rw [Bool.or_eq_true, beq_iff_eq] at active
  split
  · exact .refl s
  · unfold endByRestart
    exact (course_mapContext s h _).trans (course_complete c h _ (by simpa using active))

/-- What the checks of the hose and the station leave of a presentation that passes them (Table 8-3). -/
theorem of_hoseRefusal {s : State} (passes : hoseRefusal h s = none) : s.fitted h = true ∧
    (s.hose h).ctl.state = .idle ∧ s.records.records.length + s.records.reservations < recordRoom := by
  unfold hoseRefusal at passes
  split_ifs at passes with unfitted out busy lifted asserted full
  exact ⟨by simpa using unfitted, not_not.mp busy, by simpa [State.recordsFull] using full⟩

/-- A presentation is accepted in a running station at a fitted hose in IDLE with a place for its record (R128, R131). -/
theorem course_acceptPresentation (p : Presentation) (e : VehicleEntry) (k : PresentCheck)
    (running : s.running = true) (passes : hoseRefusal h s = none) :
    Course s (acceptPresentation c h p e k s) := by
  obtain ⟨is_fitted, idle, room⟩ := of_hoseRefusal h passes
  have stored : ∀ j, (storePresented c p e s).hose j = s.hose j := hose_congr (by simp)
  refine .of_healthy_turn (h := h) (by simp) (fun j other => ?_) ?_
    (.authorised is_fitted running room idle ?_ ?_ ?_ ?_)
  · simp [SameParts, acceptPresentation, other, stored]
  · simp [acceptPresentation, parts_enterState, stored]
  · simp [acceptPresentation, ctl_enterState]
  · simp [acceptPresentation, ctl_enterState]
  · simp [acceptPresentation, parts_enterState, stored]
  · simp [acceptPresentation, takeReservation]

/-- A thaw takes a fitted hose out of service to IDLE (R155). -/
theorem course_thaw (s : State) : Course s (thaw h s) := by
  obtain ⟨health, state, context, -⟩ := thaw_own h s
  refine .of_turn (h := h) (by simp) (fun k other => thaw_others h k s other) (by rw [health]; exact Nat.zero_le _) ?_
  by_cases out : (s.hose h).ctl.state = .outOfService
  · refine .thawed out (state.trans ?_) context (by rw [health]) (by simp)
    simp [out]
  · refine .stays (state.trans (if_neg fun e => out e.1)) (by rw [context]) (.inr (.inr (.inr ?_))) (by simp)
    simp [health, out]

end Course

end Sys2Proof.Machine.HoseCourse
end

section
/-! The course of the issues through every command and every step (R126, R145, R149, R157, R158). -/

namespace Sys2Proof.Machine.HoseCourse

open Sys2Proof Sys2Proof.Machine Sys2Proof.Machine.ServiceIntervals Sys2Proof.Machine.ShiftClock
  Sys2Proof.Machine.PeersAndNet Sys2Proof.Machine.FieldLines Sys2Proof.Machine.Metering

/-! ### Requests -/

/-- A request served leaves the issues where its request leaves them (R166). -/
theorem keepsIssues_serve (kind : Nat) (s : State) (request : State → Reply) :
    KeepsIssues s (serve kind s request) ∨ KeepsIssues (request s).1 (serve kind s request) := by
  rcases Nat.lt_or_ge s.link.responses.length responseRoom with room | full
  · rw [serve_taken _ _ _ room]
    exact .inr (.of_frame ⟨rfl, rfl, rfl, rfl⟩)
  · rw [serve_discarded _ _ _ full]
    exact .inl (.of_frame (by simp))

theorem Course.serve {kind : Nat} {s : State} {request : State → Reply} (course : Course s (request s).1) :
    Course s (serve kind s request) :=
  (keepsIssues_serve kind s request).elim .kept fun q => course.trans (.kept q)

/-- START finds the station in STANDBY and leaves it listening in (R71, R173). -/
theorem course_start (shift time : Nat) (s : State) : Course s (start shift time s).1 := by
  rcases start_cases shift time s with e | ⟨c, -, -, -, e⟩ <;> rw [e]
  · exact .refl s
  · refine Course.trans (t := startedStation c ⟨shift, time⟩ s) (.kept (.of_station ?_ ?_)) (course_guardEval _)
    · rw [net_startedStation]
      exact NetState.noConfusion
    · simp [startedStation, withMatched, dropParts]

theorem course_restart (s : State) : Course s (restart s).1 := by
  rcases restart_cases s with e | ⟨c, -, -, e⟩ <;> rw [e]
  · exact .refl s
  · have noted : Course s (s.mapNotices restartEntry) := .of_frame (by simp)
    have listens : ∀ u, Course u (startSchedules (enterListenIn c (u.mapRadio restartRadio))) := fun u =>
      .kept (.of_station (fun e => by simp [net_enterListenIn] at e) (by simp))
    unfold restartStation
    exact (noted.trans (course_eachHose (course_restartHose c) _)).trans (listens _)

/-- A presentation is accepted past the checks of the hose and the station (Table 8-3). -/
theorem course_presentVehicle (hose v hours flag total preset : Nat) (s : State) :
    Course s (presentVehicle hose v hours flag total preset s).1 := by
  unfold presentVehicle
  split
  · next c running _ =>
    split
    · exact .refl s
    · next h _ =>
      split
      · exact .refl s
      · unfold presentAt
        split
        · exact .refl s
        · exact .refl s
        · next passes _ =>
          simp only
          split
          · exact .refl s
          · rcases presentReadings_cases c h _ _ s with e | e <;> rw [e]
            · exact .refl s
            · exact course_acceptPresentation c h _ _ _ running passes
  · exact .refl s

theorem course_barRequest (b : Bool) (v : Nat) (s : State) : Course s (barRequest b v s).1 := by
  rcases barRequest_cases b v s with e | ⟨c, x, e⟩ <;> rw [e]
  · exact .refl s
  · have changed : ∀ y, Course s (changeEntry c y s) := fun y => .of_frame (by simp)
    exact course_ite (fun _ => (changed _).trans (course_barEndsIssue c x.number _)) fun _ => changed _

/-- A record released leaves its place free (R161). -/
theorem course_releaseRecord (n : Nat) (s : State) : Course s (releaseRecord n s).1 := by
  have released : ∀ r rest, s.records.records = r :: rest → Course s (releaseOldest rest s) := fun r rest e =>
    .kept ⟨rfl, id, rfl, by rw [e]; exact Nat.le_succ _, fun _ => ⟨rfl, rfl, rfl⟩⟩
  unfold releaseRecord
  split
  · exact .refl s
  · split
    · exact .refl s
    · next r rest e =>
      split
      · exact released r rest e
      · exact .refl s

/-! ### Frames -/

theorem course_mergeIntoView (c : ConfigBlock) (cls : Fin 8) (f : TallyFrame) (s : State) :
    Course s (mergeIntoView c cls f s) := by
  have stored : ∀ (b : Bool) e v, Course s
      (if b then storeEntry c e { s with view := v } else { s with view := v }) := fun b e v =>
    course_ite (fun _ => .of_frame (by simp)) fun _ => .of_frame ⟨rfl, rfl, rfl, rfl⟩
  have ended : ∀ (b : Bool) u, Course u (if b then barEndsIssue c f.vehicle u else u) := fun b u =>
    course_ite (fun _ => course_barEndsIssue c f.vehicle u) fun _ => .refl u
  have reported : ∀ a b u, Course u (mergeReport c f.vehicle a b u) := fun a b u => .of_frame (by simp)
  unfold mergeIntoView
  exact ((stored _ _ _).trans (ended _ _)).trans (reported _ _ _)

theorem course_takeTally (c : ConfigBlock) (i : Fin 16) (f : TallyFrame) (s : State) : Course s (takeTally c i f s) := by
  have viewed : ∀ u, Course u (tallyAtView c f u) := fun u => by
    unfold tallyAtView
    split
    · exact .of_frame ⟨rfl, rfl, rfl, rfl⟩
    · exact course_ite (fun _ => .of_frame (by simp)) fun _ => course_mergeIntoView c _ f u
  have clock : Course s (tallyAtClock c f.shift s) := .of_frame (by simp)
  have heard : ∀ u, Course u (u.mapPeer i Peer.heard) := fun u => .kept (.of_station id (by simp))
  exact course_ite (fun _ => clock.trans (viewed _)) fun _ => (clock.trans (viewed _)).trans (heard _)

/-- A change of the net state that does not stop the station (R67). -/
theorem course_setNetState {st : NetState} (running : st ≠ .standby) {s u : State}
    (h : u.store.block = s.store.block ∧ u.hoses = s.hoses ∧ u.records = s.records) : Course s (setNetState st u) :=
  .kept (.of_station (fun e => absurd e (running_setNetState running)) (by simpa using h))

theorem course_takeBeacon (c : ConfigBlock) (i : Fin 16) (p : ClockPos) (n : Nat) (s : State) :
    Course s (takeBeacon c i p n s) := by
  have clock : Course s (beaconAtClock c p s) := .of_frame (by simp)
  have heard : ∀ u, Course u (beaconAtPeer c i n u) := fun u =>
    course_ite (fun _ => course_setNetState (by decide) ⟨rfl, rfl, rfl⟩) fun _ => .kept (.of_station id ⟨rfl, rfl, rfl⟩)
  exact course_ite (fun _ => .kept (.of_station id (by simp))) fun _ => clock.trans (heard _)

theorem course_missAtPeer (i : Fin 16) (s : State) : Course s (missAtPeer i s) :=
  course_ite (fun _ => course_setNetState (by decide) ⟨rfl, rfl, rfl⟩) fun _ => .kept (.of_station id ⟨rfl, rfl, rfl⟩)

theorem course_leaveListenIn (s : State) : Course s (leaveListenIn s) :=
  course_setNetState (by cases somePresent s.net.peers <;> decide) ⟨rfl, rfl, rfl⟩

/-! ### Events at a hose -/

section Events

variable {s t : State}

theorem course_authTimerExpiry {hose : Nat} (h : execAuthTimerExpiry hose s = .next t) : Course s t := by
  unfold execAuthTimerExpiry at h
  split at h
  · rw [← next_inj h]; exact .refl s
  · rw [← next_inj h]
    exact course_ite (fun expired => (course_cancel _ expired.1).trans (.of_frame (by simp))) fun _ => .refl s

theorem course_primeWaitExpiry {hose : Nat} (h : execPrimeWaitExpiry hose s = .next t) : Course s t := by
  unfold execPrimeWaitExpiry at h
  split at h
  · rw [← next_inj h]; exact .refl s
  · split at h
    · next waits _ =>
      rw [Bool.and_eq_true, beq_iff_eq] at waits
      rw [← next_inj h]; exact course_endPrimeWait _ _ _ waits.1
    · rw [← next_inj h]; exact .refl s

theorem course_startTimerExpiry {hose : Nat} (h : execStartTimerExpiry hose s = .next t) : Course s t := by
  unfold execStartTimerExpiry at h
  split at h
  · rw [← next_inj h]; exact .refl s
  · rw [← next_inj h]
    exact course_ite (fun expired => course_close _ _ .noStart expired.1) fun _ => .refl s

theorem course_noFlowTimerExpiry {hose : Nat} (h : execNoFlowTimerExpiry hose s = .next t) : Course s t := by
  unfold execNoFlowTimerExpiry at h
  split at h
  · rw [← next_inj h]; exact .refl s
  · rw [← next_inj h]
    exact course_ite (fun expired => course_close _ _ .noFlow expired.1) fun _ => .refl s

theorem course_overrunWindowExpiry {hose : Nat} (h : execOverrunWindowExpiry hose s = .next t) : Course s t := by
  unfold execOverrunWindowExpiry at h
  split at h
  · rw [← next_inj h]; exact .refl s
  · split at h
    · next closing _ =>
      rw [Bool.and_eq_true, beq_iff_eq] at closing
      rw [← next_inj h]; exact course_complete _ _ _ (.inr closing.1)
    · rw [← next_inj h]; exact .refl s

end Events

/-! ### Every command -/

/-- The commands that stop the station or set every hose at once. -/
def beyondCourse : Instr → Bool
  | .powerOn => true
  | .loadConfig _ _ => true
  | .standby => true
  | _ => false

/-- Every other command is made of turns of the hoses. -/
theorem exec_course {i : Instr} {s t : State} (hi : beyondCourse i = false) (h : exec i s = .next t) : Course s t := by
  have still : Course s s := .refl s
  cases i with
  | powerOn | loadConfig _ _ | standby => cases hi
  | readStatus | readWatchList | unknownRequestKind _ => rw [← next_inj h]; exact Course.serve still
  | readHose _ => rw [← next_inj h]; exact Course.serve (by rwa [fst_readHose])
  | readVehicle _ => rw [← next_inj h]; exact Course.serve (by rwa [fst_readVehicle])
  | readOldest => rw [← next_inj h]; exact Course.serve (by rwa [fst_readOldest])
  | readPeers _ => rw [← next_inj h]; exact Course.serve (by rwa [fst_readPeers])
  | readNotices => rw [← next_inj h]; exact Course.serve (.of_frame (by simp [readNotices, accept]))
  | start shift time => rw [← next_inj h]; exact (course_start shift time s).serve
  | restart => rw [← next_inj h]; exact (course_restart s).serve
  | presentVehicle hose v hours flag total preset =>
    rw [← next_inj h]; exact (course_presentVehicle hose v hours flag total preset s).serve
  | stopHose hose =>
    rw [← next_inj h]
    refine Course.serve ?_
    rcases stopHose_cases hose s with e | ⟨c, k, e⟩ <;> rw [e]
    · exact still
    · exact course_endIssue c k .stop s
  | clearHoseFault hose =>
    rw [← next_inj h]
    refine Course.serve ?_
    rcases clearHoseFault_cases hose s with e | ⟨k, e⟩ <;> rw [e]
    · exact still
    · exact course_thaw k s
  | barVehicle v => rw [← next_inj h]; exact (course_barRequest true v s).serve
  | clearBar v => rw [← next_inj h]; exact (course_barRequest false v s).serve
  | recordService v type hours flag total =>
    rw [← next_inj h]
    exact Course.serve (.of_frame (by
      rcases recordService_cases v type hours flag total s with e | ⟨c, x, e⟩ <;> simp [e]))
  | stageAllowance cls litres =>
    rw [← next_inj h]
    exact Course.serve (.of_frame (by rcases stageAllowance_cases cls litres s with e | ⟨k, e⟩ <;> simp [e]))
  | clearStaged cls =>
    rw [← next_inj h]
    exact Course.serve (.of_frame (by rcases clearStaged_cases cls s with e | ⟨k, e⟩ <;> simp [e]))
  | releaseRecord n => rw [← next_inj h]; exact (course_releaseRecord n s).serve
  | ackNotice n =>
    rw [← next_inj h]
    exact Course.serve (.of_frame (by rcases ackNotice_cases n s with e | ⟨k, e⟩ <;> simp [e]))
  | setNoticeEnables m =>
    rw [← next_inj h]
    exact Course.serve (.of_frame (by rcases setNoticeEnables_cases m s with e | e <;> simp [e]))
  | linkFrameDiscard _ | responseSentWhole => rw [← next_inj h]; exact .of_frame ⟨rfl, rfl, rfl, rfl⟩
  | beacon n p k =>
    rcases execBeacon_cases h with rfl | ⟨cause, rfl⟩ | ⟨c, i, -, -, -, rfl⟩
    · exact still
    · exact .of_frame (by simp)
    · exact course_takeBeacon c i p k s
  | tally n f =>
    rcases execTally_cases h with rfl | ⟨cause, rfl⟩ | ⟨c, i, -, -, -, rfl⟩
    · exact still
    · exact .of_frame (by simp)
    · exact course_takeTally c i f s
  | responseBacklogDiscard | radioFrameDrop _ | tallyDue | accessLimitExpiry _ | transmissionEnd | carrierDetectFall =>
    rw [← next_inj h]; exact course_ite (fun _ => .of_frame (by simp)) fun _ => still
  | carrierDetectRise => rw [← next_inj h]; exact course_ite (fun _ => still) fun _ => .of_frame (by simp)
  | shiftClockSecond =>
    rcases execShiftClockSecond_cases h with rfl | ⟨c, -, rfl⟩
    · exact still
    · exact .of_frame (by simp)
  | missTimerExpiry n =>
    rcases execMissTimerExpiry_cases h with rfl | ⟨i, rfl⟩
    · exact still
    · exact course_missAtPeer i s
  | listenTimerExpiry => rw [← next_inj h]; exact course_ite (fun _ => course_leaveListenIn s) fun _ => still
  | beaconDue =>
    rcases execBeaconDue_cases h with rfl | ⟨c, f, rfl⟩
    · exact still
    · exact .of_frame (by simp)
  | quietTimePassed =>
    rcases execQuietTimePassed_cases h with rfl | ⟨c, n, m, rfl⟩ | ⟨c, n, rfl⟩
    · exact still
    · exact .of_frame (by simp)
    · exact .of_frame (by simp)
  | backoffSlotEnd =>
    rcases execBackoffSlotEnd_cases h with rfl | ⟨c, n, rfl⟩
    · exact still
    · exact .of_frame (by simp)
  | nozzleChange hose b =>
    rcases execNozzleChange_cases h with rfl | ⟨c, k, rfl⟩
    · exact still
    · exact course_changeNozzle c k b s
  | stopLineChange b =>
    rcases execStopLineChange_cases h with rfl | ⟨c, rfl⟩
    · exact still
    · exact course_changeStop c b s
  | meterPulse hose ticks =>
    rcases execMeterPulse_cases h with rfl | ⟨c, k, rfl⟩
    · exact still
    · exact course_takePulse c k ticks s
  | authTimerExpiry hose => exact course_authTimerExpiry h
  | primeWaitExpiry hose => exact course_primeWaitExpiry h
  | startTimerExpiry hose => exact course_startTimerExpiry h
  | noFlowTimerExpiry hose => exact course_noFlowTimerExpiry h
  | overrunWindowExpiry hose => exact course_overrunWindowExpiry h
  | settleTimerExpiry hose =>
    rcases execSettleTimerExpiry_cases h with rfl | ⟨k, f, rfl⟩
    · exact still
    · exact course_mapMeter s k f
  | creepQuietTimerExpiry hose =>
    rcases execCreepQuietTimerExpiry_cases h with rfl | ⟨k, f, rfl⟩
    · exact still
    · exact course_mapMeter s k f

/-! ### POWER_ON, STANDBY and LOAD_CONFIG -/

/-- Hoses that all rest hold no reservation. -/
theorem reservedHoses_of_resting {s : State} (resting : ∀ k, (s.hose k).ctl.state.inFlight = false) :
    s.reservedHoses = 0 := by
  rw [reservedHoses_eq_sum]
  exact Finset.sum_eq_zero fun k _ => congrArg Bool.toNat (not_reserved (resting k))

/-- Where every hose rests without a context, no reservation is held and no issue is in flight. -/
theorem issuesAccounted_of_resting {s : State}
    (resting : ∀ k, (s.hose k).ctl.context = none ∧ (s.hose k).ctl.state.inFlight = false)
    (reservations : s.records.reservations = 0) (room : s.records.records.length ≤ recordRoom) : IssuesAccounted s := by
  refine ⟨fun k => ?_, ?_, by rwa [reservations], fun _ k => (resting k).2⟩
  · rw [State.context, (resting k).1, (resting k).2]; rfl
  · rw [reservations, reservedHoses_of_resting fun k => (resting k).2]

/-- In a station whose hoses all rest no reservation is counted and no context held. -/
theorem resting_of_issuesAccounted {s : State} (account : IssuesAccounted s)
    (resting : ∀ k, (s.hose k).ctl.state.inFlight = false) :
    s.records.reservations = 0 ∧ s.records.records.length ≤ recordRoom ∧ ∀ k, (s.hose k).ctl.context = none := by
  obtain ⟨contexts, reservations, room, -⟩ := account
  refine ⟨reservations.trans (reservedHoses_of_resting resting), (Nat.le_add_right _ _).trans room, fun k => ?_⟩
  have none_held := (contexts k).trans (resting k)
  rwa [Option.isSome_eq_false_iff, Option.isNone_iff_eq_none] at none_held

theorem hose_powerOn (s : State) (k : Fin 4) : ((powerOn s).hose k).ctl = HoseControl.powerOn ∧
    ((powerOn s).hose k).health = ⟨0, false, 0⟩ := by
  simp [powerOn, State.powerOn, State.hose, Hose.powerOn]

theorem issuesAccounted_powerOn (s : State) : IssuesAccounted (powerOn s) :=
  issuesAccounted_of_resting (fun k => by rw [(hose_powerOn s k).1]; exact ⟨rfl, rfl⟩) rfl (Nat.zero_le _)

theorem healthSound_powerOn (s : State) : HealthSound (powerOn s) := by
  rw [healthSound_iff]
  intro k
  obtain ⟨ctl, health⟩ := hose_powerOn s k
  have unfitted : (powerOn s).fitted k = false := rfl
  simp [InAccord, ctl, health, unfitted, HoseControl.powerOn]

/-- STANDBY is accepted with no hose active (R174). -/
theorem issuesAccounted_standby {s : State} (account : IssuesAccounted s) : IssuesAccounted (standby s).1 := by
  unfold standby
  split
  · exact account
  · next still =>
    have resting : ∀ k, (s.hose k).ctl.state.inFlight = false := fun k =>
      Bool.eq_false_iff.mpr fun active => still ((hosesActive_iff s).mpr ⟨k, (inFlight_iff _).mp active⟩)
    obtain ⟨reservations, room, contexts⟩ := resting_of_issuesAccounted account resting
    have hose : ∀ k, (standbyStation s).hose k = s.hose k := hose_congr (by simp)
    have records : (standbyStation s).records = s.records := by simp
    refine issuesAccounted_of_resting (s := standbyStation s) (fun k => ?_) ?_ ?_
    · rw [hose]; exact ⟨contexts k, resting k⟩
    · rw [records]; exact reservations
    · rw [records]; exact room

theorem healthSound_of_frame {s t : State} (sound : HealthSound s)
    (h : t.store.block = s.store.block ∧ t.hoses = s.hoses) : HealthSound t := by
  have hose := hose_congr h.2
  have fitted := fitted_congr h.1
  simpa only [HealthSound, hose, fitted] using sound

theorem healthSound_standby {s : State} (sound : HealthSound s) : HealthSound (standby s).1 := by
  rcases standby_cases s with e | e <;> rw [e]
  · exact sound
  · exact healthSound_of_frame sound (by simp)

/-- The state in which an installation finds the hoses: the block in force, the view, the clock and the filters set. -/
def blockInstalled (c : ConfigBlock) (s : State) : State :=
  restartFilters (clockUnderConfig c (loadAllowances c (emptyView { s with
    store := { s.store with block := some c, part1 := none, part2 := none } })))

theorem hose_blockInstalled (c : ConfigBlock) (s : State) (k : Fin 4) :
    ((blockInstalled c s).hose k).ctl = (s.hose k).ctl ∧ ((blockInstalled c s).hose k).health = (s.hose k).health := by
  simp [blockInstalled, restartFilters, State.hose, mapTable]

theorem hose_hoseUnderConfig (c : ConfigBlock) (h k : Fin 4) (s : State) (other : k ≠ h) :
    ((hoseUnderConfig c h s).hose k).ctl = (s.hose k).ctl ∧
    ((hoseUnderConfig c h s).hose k).health = (s.hose k).health := by
  simp [hoseUnderConfig, other]

/-- A hose under a newly installed configuration: its context stands, its count is judged against the new threshold, and its
state follows from its fitting and its frozen flag (R148, R156). -/
theorem hose_installConfig (c : ConfigBlock) (s : State) (k : Fin 4) :
    ((installConfig c s).hose k).health.count = (s.hose k).health.count ∧
    ((installConfig c s).hose k).ctl.context = (s.hose k).ctl.context ∧
    ((installConfig c s).hose k).ctl.state =
      if c.fitted[k] then restingState ((installConfig c s).hose k).health.frozen else .outOfService := by
  obtain ⟨v, before, after⟩ := eachHose_at k (fun u : State => ((u.hose k).ctl, (u.hose k).health))
    (f := hoseUnderConfig c) (fun h u other => Prod.ext (hose_hoseUnderConfig c h k u other).1
      (hose_hoseUnderConfig c h k u other).2) (blockInstalled c s)
  have installed : installConfig c s = reportHoseOut (eachHose (hoseUnderConfig c) (blockInstalled c s)) := rfl
  simp only [Prod.mk.injEq, hose_blockInstalled] at before after
  obtain ⟨ctl, health⟩ := before
  rw [installed, hose_reportHoseOut, after.1, after.2, ← ctl, ← health]
  simp [hoseUnderConfig, ctl_enterState, parts_enterState]

theorem issuesAccounted_installConfig (c : ConfigBlock) {s : State} (account : IssuesAccounted s)
    (standby : s.net.state = .standby) : IssuesAccounted (installConfig c s) := by
  obtain ⟨reservations, room, contexts⟩ := resting_of_issuesAccounted account (account.2.2.2 standby)
  have records : (installConfig c s).records = s.records := by simp
  refine issuesAccounted_of_resting (fun k => ?_) (by rw [records]; exact reservations) (by rw [records]; exact room)
  obtain ⟨-, context, state⟩ := hose_installConfig c s k
  refine ⟨context.trans (contexts k), ?_⟩
  rw [state]
  split
  · exact (of_resting _).1
  · rfl

theorem healthSound_installConfig (c : ConfigBlock) {s : State} (sound : HealthSound s) :
    HealthSound (installConfig c s) := by
  rw [healthSound_iff] at sound ⊢
  intro k
  obtain ⟨count, -, state⟩ := hose_installConfig c s k
  have fitted : (installConfig c s).fitted k = c.fitted[k] := fitted_eq (block_installConfig c s) k
  refine ⟨?_, by rw [count]; exact (sound k).2⟩
  rw [InAccord, state, fitted]
  cases c.fitted[k] with
  | false => simp
  | true => cases ((installConfig c s).hose k).health.frozen <;> simp [restingState]

/-- LOAD_CONFIG holds parts of a block, or installs a block in STANDBY (R171). -/
theorem issuesAccounted_loadConfig (part : Nat) (bytes : List Byte) {s : State} (account : IssuesAccounted s) :
    IssuesAccounted (loadConfig part bytes s).1 := by
  rcases partsTaken_loadConfig part bytes s with ⟨store, block, e⟩ | ⟨p1, p2, stopped, -, e⟩ <;> rw [e]
  · exact issuesAccounted_of_keeps (s := s) (.of_frame ⟨rfl, block, rfl, rfl⟩) account
  · exact issuesAccounted_installConfig _ account (by simpa [State.running] using stopped)

theorem healthSound_loadConfig (part : Nat) (bytes : List Byte) {s : State} (sound : HealthSound s) :
    HealthSound (loadConfig part bytes s).1 := by
  rcases partsTaken_loadConfig part bytes s with ⟨store, block, e⟩ | ⟨p1, p2, -, -, e⟩ <;> rw [e]
  · exact healthSound_of_frame (s := s) sound ⟨block, rfl⟩
  · exact healthSound_installConfig _ sound

/-! ### Every step -/

theorem issuesAccounted_serve {kind : Nat} {s : State} {request : State → Reply} (account : IssuesAccounted s)
    (h : IssuesAccounted (request s).1) : IssuesAccounted (serve kind s request) :=
  (keepsIssues_serve kind s request).elim (issuesAccounted_of_keeps · account) (issuesAccounted_of_keeps · h)

theorem exec_issuesAccounted {i : Instr} {s t : State} (account : IssuesAccounted s) (h : exec i s = .next t) :
    IssuesAccounted t := by
  cases hi : beyondCourse i with
  | false => exact issuesAccounted_of_course (exec_course hi h) account
  | true =>
    cases i with
    | powerOn => rw [← next_inj h]; exact issuesAccounted_powerOn s
    | loadConfig part bytes =>
      rw [← next_inj h]; exact issuesAccounted_serve account (issuesAccounted_loadConfig part bytes account)
    | standby => rw [← next_inj h]; exact issuesAccounted_serve account (issuesAccounted_standby account)
    | _ => cases hi

theorem healthSound_serve {kind : Nat} {s : State} {request : State → Reply} (sound : HealthSound s)
    (h : HealthSound (request s).1) : HealthSound (serve kind s request) :=
  (keepsIssues_serve kind s request).elim (healthSound_of_keeps · sound) (healthSound_of_keeps · h)

theorem exec_healthSound {i : Instr} {s t : State} (sound : HealthSound s) (h : exec i s = .next t) : HealthSound t := by
  cases hi : beyondCourse i with
  | false => exact healthSound_of_course (exec_course hi h) sound
  | true =>
    cases i with
    | powerOn => rw [← next_inj h]; exact healthSound_powerOn s
    | loadConfig part bytes => rw [← next_inj h]; exact healthSound_serve sound (healthSound_loadConfig part bytes sound)
    | standby => rw [← next_inj h]; exact healthSound_serve sound (healthSound_standby sound)
    | _ => cases hi

/-- A tick moves timers, and no state, context or health of a hose (R127). -/
theorem keepsIssues_tick (s : State) : KeepsIssues s (tick s) := by
  have health : ∀ k, ((tick s).hose k).health = (s.hose k).health := fun k => by
    rw [tick_hose]
    unfold Hose.tick
    split
    · rfl
    · split <;> rfl
  have records : (tick s).records = s.records := by
    simp only [tick]
    rw [linkByte_frame]
    split
    · rw [radioBit_frame]
    · rfl
  refine ⟨by simp, fun e => ?_, by rw [records], by rw [records], fun k => ?_⟩
  · rw [tick_net] at e
    exact e
  · rw [ctl_tick, health]
    exact ⟨rfl, rfl, rfl⟩

/-- Settles O49: a step is a command or a tick; a command is made of turns of the hoses, stops the station with every hose at
rest, or sets every hose at rest. -/
theorem stepKeepsIssues : Obligations.StepKeepsIssues := by
  intro s t account he
  rcases step_cases s with ⟨i, rest, -, e⟩ | ⟨-, i, m, e⟩ | ⟨-, e⟩
  · exact exec_issuesAccounted (s := { s with pending := rest }) account (e.symm.trans he)
  · exact exec_issuesAccounted (s := { s with model := m }) account (e.symm.trans he)
  · rw [← next_inj (e.symm.trans he)]
    exact issuesAccounted_of_keeps (keepsIssues_tick s) account

/-- Settles O50: each turn of a hose leaves its state in accord with its fitting and its frozen count, and so does a
configuration installed, whatever issues are accounted for. -/
theorem stepKeepsHealth : Obligations.StepKeepsHealth := by
  intro s t _ sound he
  rcases step_cases s with ⟨i, rest, -, e⟩ | ⟨-, i, m, e⟩ | ⟨-, e⟩
  · exact exec_healthSound (s := { s with pending := rest }) sound (e.symm.trans he)
  · exact exec_healthSound (s := { s with model := m }) sound (e.symm.trans he)
  · rw [← next_inj (e.symm.trans he)]
    exact healthSound_of_keeps (keepsIssues_tick s) sound

end Sys2Proof.Machine.HoseCourse
end

section
/-! The limit of an issue as the smallest bound that applies, the first of equals (R129, Table 8-4). -/

namespace Sys2Proof.Machine.HoseCourse

open Sys2Proof Sys2Proof.Machine

/-- Bounds in the order of their codes, each code once (Table 8-4). -/
def InCodeOrder (bounds : List (Bound × Nat)) : Prop := bounds.Pairwise fun a b => a.1.code < b.1.code

/-- Of bounds in code order the one chosen is among them, none is smaller, and it is the first of those that share its
value. -/
theorem smallestBound_spec (first : Bound × Nat) (rest : List (Bound × Nat)) (order : InCodeOrder (first :: rest)) :
    smallestBound first rest ∈ first :: rest ∧ ∀ b ∈ first :: rest, (smallestBound first rest).2 ≤ b.2 ∧
      (b.2 = (smallestBound first rest).2 → (smallestBound first rest).1.code ≤ b.1.code) := by
  induction rest generalizing first with
  | nil => simp [smallestBound]
  | cons next rest ih =>
    obtain ⟨before_all, order_rest⟩ := List.pairwise_cons.mp order
    have step : smallestBound first (next :: rest) = smallestBound (if next.2 < first.2 then next else first) rest := rfl
    rw [step]
    split
    · next smaller =>
      obtain ⟨mem, least⟩ := ih next order_rest
      refine ⟨List.mem_cons_of_mem _ mem, fun b hb => ?_⟩
      rcases List.mem_cons.mp hb with rfl | hb
      · have below := (least next List.mem_cons_self).1
        exact ⟨by omega, fun same => by omega⟩
      · exact least b hb
    · next not_smaller =>
      have shorter : (first :: rest).Sublist (first :: next :: rest) := (List.sublist_cons_self next rest).cons_cons first
      obtain ⟨mem, least⟩ := ih first (order.sublist shorter)
      have at_first := least first List.mem_cons_self
      refine ⟨shorter.subset mem, fun b hb => ?_⟩
      rcases List.mem_cons.mp hb with rfl | hb
      · exact at_first
      rcases List.mem_cons.mp hb with rfl | hb
      · have later := before_all b List.mem_cons_self
        exact ⟨by omega, fun same => (at_first.2 (by omega)).trans later.le⟩
      · exact least b (List.mem_cons_of_mem _ hb)

section Candidates

variable (c : ConfigBlock) (cls : Fin 8) (active : Nat) (net : NetState) (origins : List OriginEntry) (hold : Bool)
  (preset : Nat)

theorem candidateBounds_order : InCodeOrder (candidateBounds c cls active net origins hold preset) := by
  unfold InCodeOrder candidateBounds
  split_ifs <;> simp [Bound.code]

/-- The candidates are the bounds that apply, each with its value (Table 8-4). -/
theorem mem_candidateBounds {applies : Bound → Option Nat}
    (allowance : applies .allowance = some (active * 100 - shiftTotal origins))
    (hold_cap : applies .hold = if hold = true then some (c.holdCap * 100) else none)
    (net_cap : applies .net = if net = .listenIn ∨ net = .isolated then some (c.netCap * 100) else none)
    (tank : applies .tank = some (c.classes[cls].tank * 100))
    (preset_given : applies .preset = if preset = 0 then none else some preset) (b : Bound) (v : Nat) :
    (b, v) ∈ candidateBounds c cls active net origins hold preset ↔ applies b = some v := by
  simp only [candidateBounds, remainingAllowance, List.mem_append, List.mem_ite_nil_right, List.mem_singleton,
    Prod.mk.injEq]
  cases b with
  | allowance => simp [allowance, eq_comm]
  | hold => simp [hold_cap, eq_comm]
  | net => simp [net_cap, eq_comm]
  | tank => simp [tank, eq_comm]
  | preset => simp [preset_given, eq_comm]

/-- The limit is the one chosen of the candidates, the allowance being the first of them. -/
theorem issueLimit_eq : ∃ rest, candidateBounds c cls active net origins hold preset =
      (.allowance, remainingAllowance active origins) :: rest ∧
    issueLimit c cls active net origins hold preset =
      smallestBound (.allowance, remainingAllowance active origins) rest := ⟨_, rfl, rfl⟩

end Candidates

/-- Settles O11: the candidates are the bounds that apply in code order, and of those the limit is the smallest and the
first. -/
theorem issueLimitIsSmallestBound : Obligations.IssueLimitIsSmallestBound := by
  intro c cls active net origins hold preset applies allowance hold_cap net_cap tank preset_given
  have applies_iff := mem_candidateBounds c cls active net origins hold preset allowance hold_cap net_cap tank preset_given
  have order := candidateBounds_order c cls active net origins hold preset
  obtain ⟨rest, candidates, limit⟩ := issueLimit_eq c cls active net origins hold preset
  rw [candidates] at applies_iff order
  obtain ⟨mem, least⟩ := smallestBound_spec _ rest order
  exact ⟨_, _, limit, (applies_iff _ _).mp mem, fun b v given => least (b, v) ((applies_iff b v).mpr given), rfl⟩

end Sys2Proof.Machine.HoseCourse
end

section
/-! STOP_HOSE, READ_HOSE, and the authorisation timer and prime wait (R127, R133 to R135, R139, R142, R143, R147). -/

namespace Sys2Proof.Machine.HoseCourse

open Sys2Proof Sys2Proof.Machine Sys2Proof.Machine.ServiceIntervals Sys2Proof.Machine.FieldLines
  Sys2Proof.Machine.Metering

/-! ### READ_HOSE -/

theorem exec_readHose {s t : State} {hose : Nat} {r : Result} {payload : List Byte} (h : s.canAnswer)
    (e : readHose hose s = (t, r, payload)) : exec (.readHose hose) s = .next (t.respond 0x12 r payload) :=
  congrArg Host.Outcome.next (serve_answered h e)

/-- Settles O15: a hose out of range is refused, and one in range is answered on the state as it stands; the codes are read
off their tables. -/
theorem readHoseReports : Obligations.ReadHoseReports := by
  refine ⟨rfl, rfl, rfl, fun s answers => ⟨fun n out => ?_, fun h => ?_⟩⟩
  · exact exec_readHose answers (by simp [readHose, indexOf_none out, refuse])
  · have answered : readHose (h.val + 1) s = (s, .ok, hoseFields h s) := by simp [readHose, accept]
    have held : (s.hose h).ctl.context = s.context h := rfl
    rw [exec_readHose answers answered]
    cases context : s.context h with
    | none => simp [hoseFields, flagByte, held, context, contextFields]
    | some x => simp [hoseFields, flagByte, held, context, contextFields]

/-! ### A cancellation -/

/-- A cancellation rests its hose without a context, frees the reservation, raises nothing of its own, and leaves the other
hoses and the station (R142, R158). -/
theorem cancel_issue (h : Fin 4) (s : State) :
    ((cancel h s).hose h).ctl = { (s.hose h).ctl with
      state := if (s.hose h).health.frozen = true then .outOfService else .idle
      context := none, authTimer := none, mainValve := false, slowValve := false } ∧
    (cancel h s).notices.entries[1] = s.notices.entries[1] ∧
    (cancel h s).records = { s.records with reservations := s.records.reservations - 1 } ∧
    KeepsStation s (cancel h s) ∧ (∀ j : Fin 4, j ≠ h → ((cancel h s).hose j).same (s.hose j)) := by
  refine ⟨(cancel_own h s).1, ?_, by simp [cancel, releaseReservation], by simp [KeepsStation],
    fun j other => Hose.same_of (cancel_others h j s other)⟩
  rw [cancel, notices_enterState _ _ _ _ _ (by decide)]
  rfl

/-! ### STOP_HOSE -/

section Stop

variable {s : State} {c : ConfigBlock} {h : Fin 4}

theorem exec_stopHose {t : State} {hose : Nat} {r : Result} {payload : List Byte} (answers : s.canAnswer)
    (e : stopHose hose s = (t, r, payload)) : exec (.stopHose hose) s = .next (t.respond 0x11 r payload) :=
  congrArg Host.Outcome.next (serve_answered answers e)

theorem stopHose_unfitted (unfitted : s.fitted h = false) : stopHose (h.val + 1) s = (s, .notFitted, []) := by
  unfold stopHose
  rw [indexOf_succ]
  cases s.store.block with
  | none => rfl
  | some c => simp [unfitted, refuse]

/-- At a fitted hose STOP_HOSE ends the issue, if there is one, and answers by the state that it found (R143). -/
theorem stopHose_fitted (hb : s.store.block = some c) (fitted : c.fitted[h] = true) : stopHose (h.val + 1) s =
    (endIssue c h .stop s, stopResult (s.hose h).ctl.state, beBytes 1 ((endIssue c h .stop s).hose h).ctl.state.code) := by
  simp [stopHose, hb, fitted_eq hb, fitted]

/-- With no issue to end it changes nothing. -/
theorem stopHose_idle {r : Result} (hb : s.store.block = some c) (fitted : c.fitted[h] = true)
    (result : stopResult (s.hose h).ctl.state = r) (refused : r ≠ .ok) :
    stopHose (h.val + 1) s = (s, r, fieldBytes [(1, (s.hose h).ctl.state.code)]) := by
  have no_issue : endIssue c h .stop s = s := by
    unfold endIssue
    subst result
    cases state : (s.hose h).ctl.state <;> simp_all [stopResult, HoseState.issuing]
  rw [stopHose_fitted hb fitted, no_issue, result]
  simp

end Stop

/-- Settles O14: the refusals, the cancellation in AUTHORIZED, the close in an issue with its valves or its pump, and nothing
in the other states. -/
theorem stopHoseByState : Obligations.StopHoseByState := by
  refine ⟨fun s n answers out => exec_stopHose answers (by simp [stopHose, indexOf_none out, refuse]),
    fun s h answers hb => exec_stopHose answers (stopHose_unfitted (by simp [State.fitted, hb])),
    fun s c h answers hb => ⟨fun unfitted => exec_stopHose answers (stopHose_unfitted (by rwa [fitted_eq hb])),
      fun fitted authorized => ?authorized, fun x fitted issuing context => ?issuing, fun fitted ending => ?ending,
      fun fitted resting => ?resting⟩⟩
  case authorized =>
    have cancels : endIssue c h .stop s = cancel h s := if_pos authorized
    obtain ⟨ctl, notice, records, station, others⟩ := cancel_issue h s
    refine ⟨_, exec_stopHose answers (stopHose_fitted hb fitted), ?_⟩
    rw [cancels, authorized]
    simp only [State.context, hose_respond, respond_frame, ctl, KeepsStation]
    exact ⟨trivial, trivial, trivial, notice, records, station, others, by simp [stopResult]⟩
  case issuing =>
    have not_authorized : (s.hose h).ctl.state ≠ .authorized := fun e => by rw [e] at issuing; cases issuing
    have closes : endIssue c h .stop s = close c h .stop s := (if_neg not_authorized).trans (if_pos issuing)
    have ok : stopResult (s.hose h).ctl.state = .ok := by
      rcases (issuing_iff _).mp issuing with e | e | e <;> rw [e] <;> rfl
    obtain ⟨ctl, meter, -, others, station, records⟩ := close_issue c .stop context
    have code : beBytes 1 HoseState.closing.code = [0x06#8] := rfl
    refine ⟨_, exec_stopHose answers (stopHose_fitted hb fitted), ?_⟩
    rw [closes, ok]
    simp only [State.context, hose_respond, respond_frame, ctl, meter, KeepsStation]
    exact ⟨trivial, trivial, trivial, trivial, trivial, trivial, trivial, trivial, rfl, rfl, rfl, rfl, records, station,
      others, by simp [code]⟩
  case ending =>
    refine exec_stopHose answers (stopHose_idle hb fitted ?_ (by decide))
    rcases ending with e | e <;> rw [e] <;> rfl
  case resting =>
    refine exec_stopHose answers (stopHose_idle hb fitted ?_ (by decide))
    rcases resting with e | e <;> rw [e] <;> rfl

/-! ### The authorisation timer and the prime wait -/

section Start

variable {s : State} {c : ConfigBlock} {h : Fin 4}

/-- Which hose brings the end of its authorisation timer and of its prime wait. -/
theorem startTimers_mem_hoseDue (k : Fin 4) :
    (.authTimerExpiry (h.val + 1) ∈ hoseDue c s k ↔ h.val = k.val ∧ c.fitted[k] = true ∧
      (s.hose k).ctl.state = .authorized ∧ (s.hose k).ctl.authTimer = some 0) ∧
    (.primeWaitExpiry (h.val + 1) ∈ hoseDue c s k ↔ h.val = k.val ∧ c.fitted[k] = true ∧
      (s.hose k).ctl.state = .starting ∧ (s.context k).isSome = true ∧ (s.hose k).ctl.primeTimer = some 0) := by
  by_cases fitted : c.fitted[k] = true <;>
    simp [hoseDue, fitted, runOut_iff, and_comm, and_left_comm, State.context]

theorem startTimers_comeAbout (hb : s.store.block = some c) (fitted : c.fitted[h] = true) :
    (ComesAbout (.authTimerExpiry (h.val + 1)) s ↔
      (s.hose h).ctl.state = .authorized ∧ (s.hose h).ctl.authTimer = some 0) ∧
    (ComesAbout (.primeWaitExpiry (h.val + 1)) s ↔ (s.hose h).ctl.state = .starting ∧
      (s.context h).isSome = true ∧ (s.hose h).ctl.primeTimer = some 0) := by
  have brings := startTimers_mem_hoseDue (s := s) (c := c) (h := h)
  simp only [forall_and] at brings
  obtain ⟨authorisation, prime⟩ := brings
  constructor
  · rw [comesAbout_numbered hb rfl authorisation, and_iff_right fitted]
  · rw [comesAbout_numbered hb rfl prime, and_iff_right fitted]

theorem exec_authTimerExpiry (hb : s.store.block = some c) (fitted : c.fitted[h] = true)
    (authorized : (s.hose h).ctl.state = .authorized) (runs : (s.hose h).ctl.authTimer.isSome = true) :
    exec (.authTimerExpiry (h.val + 1)) s = .next (raise .authExpired (cancel h s)) := by
  have taken : execAuthTimerExpiry (h.val + 1) s = .next (raise .authExpired (cancel h s)) := by
    simp [execAuthTimerExpiry, fieldHose_fitted hb fitted, authorized, runs]
  exact taken

theorem exec_primeWaitExpiry {x : IssueContext} (hb : s.store.block = some c) (fitted : c.fitted[h] = true)
    (starting : (s.hose h).ctl.state = .starting) (runs : (s.hose h).ctl.primeTimer.isSome = true)
    (context : s.context h = some x) : exec (.primeWaitExpiry (h.val + 1)) s = .next (endPrimeWait c h x s) := by
  have taken : execPrimeWaitExpiry (h.val + 1) s = .next (endPrimeWait c h x s) := by
    simp [execPrimeWaitExpiry, fieldHose_fitted hb fitted, starting, runs, context]
  exact taken

/-- The end of a prime wait is the entry to FLOWING, or on into SLOWING (R135). -/
theorem endPrimeWait_own (c : ConfigBlock) (h : Fin 4) (x : IssueContext) (clear : s.field.stop.active = false) :
    ((endPrimeWait c h x s).hose h).ctl = { (s.hose h).ctl with
      state := if x.slowPoint = 0 then .slowing else .flowing
      primeTimer := none, startTimer := some (c.startTime * 100000)
      mainValve := decide (x.slowPoint ≠ 0), slowValve := true } ∧
    ((endPrimeWait c h x s).hose h).meter = if x.slowPoint = 0 then
      (s.hose h).meter.enterFlowing.enterSlowing (c.settleTime * 100000)
      else (s.hose h).meter.enterFlowing := by
  obtain ⟨ctl, meter, -⟩ := enterFlowing_own c h x
    { s with field := { s.field with sincePumpOn := max s.field.sincePumpOn (c.primeTime * second) } }
  rw [endPrimeWait, ctl, meter]
  simp only [clear, Bool.not_false, Bool.and_true]
  exact ⟨rfl, rfl⟩

end Start

/-- Settles O42: a tick counts the two timers down; then an expired authorisation is cancelled and reported, and the end of
a prime wait opens the valves through `endPrimeWait`. -/
theorem startTimers : Obligations.StartTimers := by
  intro s c h n hb fitted
  obtain ⟨authorisation, prime⟩ := startTimers_comeAbout hb fitted
  refine ⟨fun rest => ⟨_, step_atRest rest, ?_⟩, authorisation, prime, fun authorized runs => ?expired,
    fun x starting runs context clear => ?primed⟩
  · rw [ctl_tick]
    exact ⟨rfl, rfl⟩
  case expired =>
    obtain ⟨ctl, notice, records, station, others⟩ := cancel_issue h s
    have raised : Raised .authExpired s (raise .authExpired (cancel h s)) := by
      have entry : (cancel h s).notices.entries[NoticeSource.authExpired.index] =
          s.notices.entries[NoticeSource.authExpired.index] := notice
      rw [Raised, raised_raise, entry]
    refine ⟨_, exec_authTimerExpiry hb fitted authorized (by rw [runs]; rfl), ?_⟩
    simp only [State.context, hose_raise, ctl]
    exact ⟨trivial, trivial, trivial, raised, by simpa using records, others, by simp [KeepsStation]⟩
  case primed =>
    obtain ⟨ctl, meter⟩ := endPrimeWait_own c h x clear
    refine ⟨_, exec_primeWaitExpiry hb fitted starting (by rw [runs]; rfl) context, ?_⟩
    have first : ((endPrimeWait c h x s).hose h).meter.firstPulse = true := by
      rw [meter]
      split <;> rfl
    have others : ∀ j, j ≠ h → ((endPrimeWait c h x s).hose j).same (s.hose j) := fun j other =>
      Hose.same_of (endPrimeWait_others c x h j s other)
    simp only [State.context, ctl, first]
    refine ⟨context, trivial, trivial, trivial, trivial, fun fast => ?_, fun slow => ?_, others, by simp [KeepsStation],
      by simp⟩
    · have flows : x.slowPoint ≠ 0 := Nat.ne_of_gt fast
      exact ⟨if_neg flows, decide_eq_true flows⟩
    · rw [meter, if_pos slow, if_pos slow]
      exact ⟨rfl, decide_eq_false (not_not.mpr slow), rfl⟩

end Sys2Proof.Machine.HoseCourse
end

section
/-! Proofs of the family 09_hose_health. CLEAR_HOSE_FAULT: the thaw, its HOSE_OUT and its answer (R154, R155). -/

namespace Sys2Proof.Machine.HoseHealth

open Sys2Proof Sys2Proof.Machine

/-! ### The thaw -/

theorem entries_thawHose (h : Fin 4) (s : State) (j : Nat) (hj : j < 12) (not_guard : j ≠ 2) :
    (thawHose h s).notices.entries[j] = s.notices.entries[j] := by
  unfold thawHose
  split
  · exact notices_enterState h .idle s j hj not_guard
  · rfl

/-- HOSE_OUT reported is the condition that some count is frozen (R154). -/
theorem hoseOut_reportHoseOut (s : State) : (reportHoseOut s).notices.entries[8].condition = true ↔
    ∃ j : Fin 4, (s.hose j).health.frozen = true := by
  have reported : (reportHoseOut s).notices.entries[8].condition = anyTable s.hoses (·.health.frozen) := by
    rw [reportHoseOut, entries_report]
    rfl
  rw [reported, anyTable_hoses]

/-- A thaw leaves HOSE_OUT true exactly where another count is frozen (R154, R155). -/
theorem hoseOut_thaw (h : Fin 4) (s : State) : (thaw h s).notices.entries[8].condition = true ↔
    ∃ j : Fin 4, j ≠ h ∧ (s.hose j).health.frozen = true := by
  rw [thaw, entries_thawHose _ _ _ _ (by decide), hoseOut_reportHoseOut]
  refine exists_congr fun j => ?_
  by_cases own : j = h <;> simp [own]

/-! ### CLEAR_HOSE_FAULT -/

theorem clearHoseFault_unfrozen {h : Fin 4} {s : State} (counts : (s.hose h).health.frozen = false) :
    clearHoseFault (h.val + 1) s = (s, .notFrozen, []) := by
  simp [clearHoseFault, counts, refuse]

/-- A frozen count is thawed, and the answer reads the hose after the thaw (R155). -/
theorem clearHoseFault_frozen {h : Fin 4} {s : State} (frozen : (s.hose h).health.frozen = true) :
    clearHoseFault (h.val + 1) s =
      (thaw h s, .ok, fieldBytes [(1, ((thaw h s).hose h).ctl.state.code), (1, 0)]) := by
  obtain ⟨health, -⟩ := thaw_own h s
  simp [clearHoseFault, frozen, accept, health]

theorem exec_clearHoseFault {s t : State} {hose : Nat} {r : Result} {payload : List Byte} (answers : s.canAnswer)
    (e : clearHoseFault hose s = (t, r, payload)) :
    exec (.clearHoseFault hose) s = .next (t.respond 0x13 r payload) :=
  congrArg Host.Outcome.next (serve_answered answers e)

/-- Settles O16: a hose out of range and a count not frozen are refused; a frozen count is thawed by `thaw`, and HOSE_OUT is
then read off the other hoses by `hoseOut_thaw`. -/
theorem clearHoseFaultThaws : Obligations.ClearHoseFaultThaws := by
  refine fun s answers => ⟨fun n out => ?_, fun h counts => ?_, fun h frozen => ?_⟩
  · exact exec_clearHoseFault answers (by simp [clearHoseFault, indexOf_none out, refuse])
  · exact exec_clearHoseFault answers (clearHoseFault_unfrozen counts)
  · obtain ⟨health, state, context, meter⟩ := thaw_own h s
    refine ⟨_, exec_clearHoseFault answers (clearHoseFault_frozen frozen), health, state, context, meter,
      hoseOut_thaw h s, ?station, ?records, fun j other => Hose.same_of (thaw_others h j s other), ?response⟩
    case station => simp [KeepsStation]
    case records => simp
    case response => simp

end Sys2Proof.Machine.HoseHealth
end

section
/-! Proofs of the family 10_issue_records. READ_OLDEST and RELEASE_RECORD: the record's layout, the head of the queue read
and released, and RECORDS_WAITING after it (R161, R162). -/

namespace Sys2Proof.Machine.IssueRecords

open Sys2Proof Sys2Proof.Machine Sys2Proof.Machine.ServiceIntervals

/-! ### The record in its bytes -/

/-- An issue record's 43 bytes as fields and widths (Table 10-1). -/
theorem recordFields_eq (r : IssueRecord) : recordFields r = fieldBytes
    [(2, r.number), (1, r.hose), (2, r.vehicle), (1, r.cls.val), (3, r.authorised.shift), (3, r.authorised.time),
     (3, r.completed.shift), (3, r.completed.time), (4, r.limit), (4, r.delivered), (4, r.overrun), (1, r.bound.code),
     (1, endReasonCode r.endReason), (1, r.serviceState.code), (1, r.netState.code), (3, r.hours),
     (1, r.totaliser.isSome.toNat), (4, r.totaliser.getD 0), (1, r.hoursFlag.toNat + 2 * r.totaliserFlag.toNat)] := by
  simp only [recordFields, posField, optionField_eq, readingFlags, fieldBytes_cons, fieldBytes_nil, List.append_assoc,
    List.append_nil]

/-! ### The oldest record removed -/

/-- The queue loses its head alone: the reservations and the next number stand (R161). -/
theorem records_releaseOldest (rest : List IssueRecord) (s : State) :
    (releaseOldest rest s).records = { s.records with records := rest } := by
  simp [releaseOldest]

/-- RECORDS_WAITING reported is the condition that the queue holds a record (R162). -/
theorem waiting_reportWaiting (s : State) :
    (reportWaiting s).notices.entries[10].condition = true ↔ s.records.records ≠ [] := by
  have reported : (reportWaiting s).notices.entries[10].condition = !s.records.records.isEmpty := by
    rw [reportWaiting, entries_report]
    rfl
  rw [reported, Bool.not_eq_true', List.isEmpty_eq_false_iff]

/-! ### READ_OLDEST -/

section Requests

variable {s t : State} {number : Nat} {r : IssueRecord} {rest : List IssueRecord} {result : Result} {payload : List Byte}

theorem exec_readOldest (answers : s.canAnswer) (e : readOldest s = (t, result, payload)) :
    exec .readOldest s = .next (t.respond 0x30 result payload) :=
  congrArg Host.Outcome.next (serve_answered answers e)

theorem readOldest_empty (none_held : s.records.records = []) : readOldest s = (s, .empty, []) := by
  rw [readOldest, none_held]
  rfl

/-- The count of records and the head of the queue are read, and nothing changes (R161). -/
theorem readOldest_head (held : s.records.records = r :: rest) :
    readOldest s = (s, .ok, beBytes 1 (rest.length + 1) ++ recordFields r) := by
  rw [readOldest, held]
  rfl

/-! ### RELEASE_RECORD -/

theorem exec_releaseRecord (answers : s.canAnswer) (e : releaseRecord number s = (t, result, payload)) :
    exec (.releaseRecord number) s = .next (t.respond 0x31 result payload) :=
  congrArg Host.Outcome.next (serve_answered answers e)

theorem releaseRecord_badNumber (s : State) (beyond : 65535 < number) :
    releaseRecord number s = (s, .badRequest, []) :=
  if_pos beyond

theorem releaseRecord_empty (fits : number ≤ 65535) (none_held : s.records.records = []) :
    releaseRecord number s = (s, .noMatch, fieldBytes [(1, 0), (2, 0)]) := by
  rw [releaseRecord, if_neg (Nat.not_lt.mpr fits), none_held]
  rfl

theorem releaseRecord_other (fits : number ≤ 65535) (held : s.records.records = r :: rest) (other : number ≠ r.number) :
    releaseRecord number s = (s, .noMatch, fieldBytes [(1, rest.length + 1), (2, r.number)]) := by
  rw [releaseRecord, if_neg (Nat.not_lt.mpr fits), held]
  exact if_neg other.symm

theorem releaseRecord_oldest (fits : r.number ≤ 65535) (held : s.records.records = r :: rest) :
    releaseRecord r.number s = (releaseOldest rest s, .ok, fieldBytes [(1, rest.length)]) := by
  rw [releaseRecord, if_neg (Nat.not_lt.mpr fits), held]
  exact if_pos rfl

end Requests

/-- Settles O23: an empty queue and a number beyond two bytes are refused; with records held, READ_OLDEST and a release of
another number answer on the state as it stands, and a release of the oldest takes the head off the queue by
`releaseOldest`. -/
theorem recordRequests : Obligations.RecordRequests := by
  refine fun s answers => ⟨fun none_held => ⟨?_, fun n fits => ?_⟩, fun n beyond => ?_,
    fun r rest held => ⟨?_, fun n fits other => ?_, fun fits => ?_⟩⟩
  · exact exec_readOldest answers (readOldest_empty none_held)
  · exact exec_releaseRecord answers (releaseRecord_empty fits none_held)
  · exact exec_releaseRecord answers (releaseRecord_badNumber s beyond)
  · rw [exec_readOldest answers (readOldest_head held), recordFields_eq, ← fieldBytes_cons]
  · exact exec_releaseRecord answers (releaseRecord_other fits held other)
  · refine ⟨_, exec_releaseRecord answers (releaseRecord_oldest fits held), records_releaseOldest rest s,
      waiting_reportWaiting _, ?station, ?field, ?hoses, ?response⟩
    case station => simp [KeepsStation]
    case field => simp
    case hoses => simp
    case response => simp

end Sys2Proof.Machine.IssueRecords
end

-- Proofs of the family 11_terminal_link_notices_and_start_up: what a request leaves where it is refused, the configuration
-- store through every step, the terminal link, the Notice Table's requests, READ_STATUS and the state after reset.

section
/-! Proofs of the family 11_terminal_link_notices_and_start_up. What each request does to its reply: the link and the start
tag stand, and a refusal leaves the state as it was (R166, R171). -/

namespace Sys2Proof.Machine.TerminalLink

open Sys2Proof Sys2Proof.Machine Sys2Proof.Machine.ServiceIntervals Sys2Proof.Machine.ShiftClock

/-! ### Replies -/

/-- A reply whose request touched neither the link nor the start tag, and changed nothing where it is not OK. -/
structure Answers (s : State) (x : Reply) : Prop where
  link     : x.1.link = s.link
  startTag : x.1.store.startTag = s.store.startTag
  refused  : x.2.1 ≠ .ok → x.1 = s

/-- A reply that changes nothing, whatever its result. -/
theorem Answers.of_same (s : State) (r : Result) (payload : List Byte) : Answers s (s, r, payload) :=
  ⟨rfl, rfl, fun _ => rfl⟩

theorem answers_refuse (r : Result) (s : State) : Answers s (refuse r s) := .of_same s r []

/-- An accepted request: only the link and the start tag are asked for. -/
theorem answers_accept {s t : State} (link : t.link = s.link) (store : t.store = s.store) (payload : List Byte) :
    Answers s (accept t payload) :=
  ⟨link, congrArg ConfigStore.startTag store, fun refused => absurd rfl refused⟩

/-! ### The station's requests -/

theorem answers_start (shift time : Nat) (s : State) : Answers s (start shift time s) := by
  unfold start
  split
  · exact answers_refuse _ s
  · split
    · exact answers_refuse _ s
    · split
      · exact answers_refuse _ s
      · exact ⟨by simp [accept], by simp [accept, store_startStation], fun refused => absurd rfl refused⟩

theorem answers_standby (s : State) : Answers s (standby s) := by
  unfold standby
  split
  · exact answers_refuse _ s
  · exact answers_accept (by simp) (by simp) _

theorem answers_restart (s : State) : Answers s (restart s) := by
  unfold restart
  split
  · exact answers_accept (by simp) (by simp) _
  · exact answers_refuse _ s

/-! ### The hoses' requests -/

theorem answers_presentReadings (c : ConfigBlock) (h : Fin 4) (p : Presentation) (e : VehicleEntry) (s : State) :
    Answers s (presentReadings c h p e s) := by
  simp only [presentReadings]
  split
  · exact .of_same s _ _
  · split
    · exact .of_same s _ _
    · split
      · exact answers_refuse _ s
      · split
        · exact .of_same s _ _
        · exact answers_accept (by simp) (by simp) _

theorem answers_presentAt (c : ConfigBlock) (h : Fin 4) (p : Presentation) (s : State) :
    Answers s (presentAt c h p s) := by
  unfold presentAt
  split
  · exact answers_refuse _ s
  · exact answers_refuse _ s
  · simp only
    split
    · exact answers_refuse _ s
    · exact answers_presentReadings c h p _ s

theorem answers_presentVehicle (hose v hours flag total preset : Nat) (s : State) :
    Answers s (presentVehicle hose v hours flag total preset s) := by
  unfold presentVehicle
  split
  · split
    · exact answers_refuse _ s
    · split
      · exact answers_refuse _ s
      · exact answers_presentAt _ _ _ s
  · exact answers_refuse _ s

/-- With no issue to stop, STOP_HOSE finds nothing to end (R143). -/
theorem endIssue_of_refused (c : ConfigBlock) (h : Fin 4) (r : EndReason) (s : State)
    (refused : stopResult (s.hose h).ctl.state ≠ .ok) : endIssue c h r s = s := by
  unfold endIssue
  cases state : (s.hose h).ctl.state <;> simp_all [stopResult, HoseState.issuing]

theorem answers_stopHose (hose : Nat) (s : State) : Answers s (stopHose hose s) := by
  unfold stopHose
  split
  · exact answers_refuse _ s
  · exact answers_refuse _ s
  · next h c _ _ =>
    split
    · exact answers_refuse _ s
    · exact ⟨by simp, by simp, endIssue_of_refused c h .stop s⟩

theorem answers_readHose (hose : Nat) (s : State) : Answers s (readHose hose s) := by
  unfold readHose
  split
  · exact answers_refuse _ s
  · exact .of_same s _ _

theorem answers_clearHoseFault (hose : Nat) (s : State) : Answers s (clearHoseFault hose s) := by
  unfold clearHoseFault
  split
  · exact answers_refuse _ s
  · split
    · exact answers_accept (by simp) (by simp) _
    · exact answers_refuse _ s

/-! ### The vehicles' requests -/

theorem answers_readVehicle (v : Nat) (s : State) : Answers s (readVehicle v s) := by
  unfold readVehicle
  split
  · exact answers_refuse _ s
  · split
    · exact answers_refuse _ s
    · exact .of_same s _ _

theorem answers_barRequest (barred : Bool) (v : Nat) (s : State) : Answers s (barRequest barred v s) := by
  unfold barRequest
  split
  · split
    · exact answers_refuse _ s
    · split
      · exact answers_refuse _ s
      · simp only
        split
        · exact answers_refuse _ s
        · split
          · exact answers_refuse _ s
          · exact answers_accept (by simp) (by simp) _
  · exact answers_refuse _ s

theorem answers_recordAt (c : ConfigBlock) (r : ServiceRecord) (e : VehicleEntry) (s : State) :
    Answers s (recordAt c r e s) := by
  simp only [recordAt]
  split
  · exact .of_same s _ _
  · exact .of_same s _ _
  · split
    · exact answers_refuse _ s
    · exact answers_accept (by simp) (by simp) _

theorem answers_recordService (v type hours flag total : Nat) (s : State) :
    Answers s (recordService v type hours flag total s) := by
  unfold recordService
  split
  · split
    · exact answers_refuse _ s
    · split
      · exact answers_refuse _ s
      · split
        · exact answers_refuse _ s
        · split
          · exact answers_refuse _ s
          · split
            · exact answers_refuse _ s
            · exact answers_recordAt _ _ _ s
  · exact answers_refuse _ s

theorem answers_stageAllowance (cls litres : Nat) (s : State) : Answers s (stageAllowance cls litres s) := by
  unfold stageAllowance
  split
  · exact answers_refuse _ s
  · exact answers_refuse _ s
  · split
    · exact answers_refuse _ s
    · exact answers_accept (by simp) (by simp) _

theorem answers_clearStaged (cls : Nat) (s : State) : Answers s (clearStaged cls s) := by
  unfold clearStaged
  split
  · exact answers_refuse _ s
  · exact answers_refuse _ s
  · exact answers_accept (by simp) (by simp) _

/-! ### The requests of records, peers and notices -/

theorem answers_readOldest (s : State) : Answers s (readOldest s) := by
  unfold readOldest
  split
  · exact answers_refuse _ s
  · exact .of_same s _ _

theorem answers_releaseRecord (number : Nat) (s : State) : Answers s (releaseRecord number s) := by
  unfold releaseRecord
  split
  · exact answers_refuse _ s
  · split
    · exact .of_same s _ _
    · split
      · exact answers_accept (by simp) (by simp) _
      · exact .of_same s _ _

theorem answers_readPeers (group : Nat) (s : State) : Answers s (readPeers group s) := by
  unfold readPeers
  split
  · exact answers_refuse _ s
  · exact .of_same s _ _

theorem answers_ackNotice (source : Nat) (s : State) : Answers s (ackNotice source s) := by
  unfold ackNotice
  split
  · exact answers_refuse _ s
  · exact answers_accept (by simp) (by simp) _

theorem answers_setNoticeEnables (mask : Nat) (s : State) : Answers s (setNoticeEnables mask s) := by
  unfold setNoticeEnables
  split
  · exact answers_refuse _ s
  · exact answers_accept (by simp) (by simp) _

/-! ### LOAD_CONFIG (R171, R172) -/

/-- A reply to LOAD_CONFIG: one that is not OK may have discarded the held parts, and changed nothing else. -/
structure AnswersLoad (s : State) (x : Reply) : Prop where
  link     : x.1.link = s.link
  startTag : x.1.store.startTag = s.store.startTag
  refused  : x.2.1 ≠ .ok → x.1 = { s with store := x.1.store } ∧ x.1.store.block = s.store.block

theorem Answers.toLoad {s : State} {x : Reply} (a : Answers s x) : AnswersLoad s x :=
  ⟨a.link, a.startTag, fun refused => by rw [a.refused refused]; exact ⟨rfl, rfl⟩⟩

theorem startTag_installConfig (c : ConfigBlock) (s : State) :
    (installConfig c s).store.startTag = s.store.startTag := by
  simp [installConfig, eachHose]

theorem answersLoad_loadBlock (p1 p2 : List Byte) (s : State) : AnswersLoad s (loadBlock p1 p2 s) := by
  unfold loadBlock
  split
  · exact ⟨rfl, rfl, fun _ => ⟨rfl, rfl⟩⟩
  · exact ⟨by simp [accept], startTag_installConfig _ s, fun refused => absurd rfl refused⟩

theorem answersLoad_loadConfig (part : Nat) (bytes : List Byte) (s : State) :
    AnswersLoad s (loadConfig part bytes s) := by
  have part_held : ∀ store : ConfigStore, store.startTag = s.store.startTag → ∀ payload,
      AnswersLoad s (accept { s with store := store } payload) :=
    fun store tag payload => ⟨rfl, tag, fun refused => absurd rfl refused⟩
  unfold loadConfig
  split
  · exact (answers_refuse _ s).toLoad
  · split
    · exact (answers_refuse _ s).toLoad
    · split
      · split
        · exact part_held _ (by rfl) _
        · exact answersLoad_loadBlock _ _ s
      · split
        · split
          · exact part_held _ (by rfl) _
          · exact answersLoad_loadBlock _ _ s
        · exact (answers_refuse _ s).toLoad

/-! ### Every request -/

/-- Every request but LOAD_CONFIG is served, and its reply changes nothing where it is not OK. -/
theorem exec_request {i : Instr} (request : isRequest i = true) (other : isLoadConfig i = false) :
    ∃ kind reply, ∀ s, exec i s = .next (serve kind s reply) ∧ Answers s (reply s) := by
  cases i with
  | loadConfig _ _ => cases other
  | start shift time => exact ⟨0x02, start shift time, fun s => ⟨rfl, answers_start shift time s⟩⟩
  | standby => exact ⟨0x03, standby, fun s => ⟨rfl, answers_standby s⟩⟩
  | restart => exact ⟨0x04, restart, fun s => ⟨rfl, answers_restart s⟩⟩
  | readStatus => exact ⟨0x05, _, fun s => ⟨rfl, .of_same s _ _⟩⟩
  | presentVehicle hose v hours flag total preset =>
    exact ⟨0x10, _, fun s => ⟨rfl, answers_presentVehicle hose v hours flag total preset s⟩⟩
  | stopHose hose => exact ⟨0x11, _, fun s => ⟨rfl, answers_stopHose hose s⟩⟩
  | readHose hose => exact ⟨0x12, _, fun s => ⟨rfl, answers_readHose hose s⟩⟩
  | clearHoseFault hose => exact ⟨0x13, _, fun s => ⟨rfl, answers_clearHoseFault hose s⟩⟩
  | readVehicle v => exact ⟨0x20, _, fun s => ⟨rfl, answers_readVehicle v s⟩⟩
  | barVehicle v => exact ⟨0x21, _, fun s => ⟨rfl, answers_barRequest true v s⟩⟩
  | clearBar v => exact ⟨0x22, _, fun s => ⟨rfl, answers_barRequest false v s⟩⟩
  | recordService v type hours flag total =>
    exact ⟨0x23, _, fun s => ⟨rfl, answers_recordService v type hours flag total s⟩⟩
  | stageAllowance cls litres => exact ⟨0x24, _, fun s => ⟨rfl, answers_stageAllowance cls litres s⟩⟩
  | clearStaged cls => exact ⟨0x25, _, fun s => ⟨rfl, answers_clearStaged cls s⟩⟩
  | readWatchList => exact ⟨0x26, _, fun s => ⟨rfl, .of_same s _ _⟩⟩
  | readOldest => exact ⟨0x30, _, fun s => ⟨rfl, answers_readOldest s⟩⟩
  | releaseRecord number => exact ⟨0x31, _, fun s => ⟨rfl, answers_releaseRecord number s⟩⟩
  | readPeers group => exact ⟨0x40, _, fun s => ⟨rfl, answers_readPeers group s⟩⟩
  | readNotices => exact ⟨0x50, readNotices, fun s => ⟨rfl, answers_accept (by simp) (by simp) _⟩⟩
  | ackNotice source => exact ⟨0x51, _, fun s => ⟨rfl, answers_ackNotice source s⟩⟩
  | setNoticeEnables mask => exact ⟨0x52, _, fun s => ⟨rfl, answers_setNoticeEnables mask s⟩⟩
  | unknownRequestKind kind => exact ⟨kind, _, fun s => ⟨rfl, answers_refuse _ s⟩⟩
  | _ => cases request

/-- Settles O3: a request other than LOAD_CONFIG is served by `exec_request`, and LOAD_CONFIG refused drops the held parts at
most. -/
theorem refusedRequestChangesNothing : Obligations.RefusedRequestChangesNothing := by
  intro i s request answers
  cases load : isLoadConfig i with
  | false =>
    obtain ⟨kind, reply, served⟩ := exec_request request load
    obtain ⟨taken, link, -, refused⟩ := served s
    refine ⟨(reply s).1, kind, (reply s).2.1, (reply s).2.2, taken.trans (congrArg _ (serve_answered answers rfl)), link,
      fun not_ok _ => refused not_ok, fun not_ok => ?_⟩
    rw [refused not_ok]
    exact ⟨rfl, rfl, rfl⟩
  | true =>
    cases i with
    | loadConfig part bytes =>
      obtain ⟨link, startTag, refused⟩ := answersLoad_loadConfig part bytes s
      refine ⟨_, 0x01, _, _, congrArg _ (serve_answered answers rfl), link, fun _ other => Bool.noConfusion other,
        fun not_ok => ?_⟩
      obtain ⟨rest, block⟩ := refused not_ok
      exact ⟨rest, block, startTag⟩
    | _ => cases load

end Sys2Proof.Machine.TerminalLink
end

section
/-! The values of two parts that pass their validation make a configuration in the ranges of Table 11-5, with the
cross-checks of R172. -/

namespace Sys2Proof.Machine.TerminalLink

open Sys2Proof Sys2Proof.Machine Sys2Proof.Machine.ServiceIntervals Sys2Proof.Machine.ShiftClock

/-! ### Values that pass the validation -/

/-- Values of the fields of Table 11-5, each in its own range and none named by a cross-check of R172. -/
structure BlockPasses (v : Nat → Nat) : Prop where
  field (i : Nat) {f : FieldSpec} : blockFields[i]? = some f → within f.low f.high (v (i + 1))
  minute : v 40 % 60 = 0
  ordered (k : Fin 8) : ¬ (v (49 + 13 * k.val) < v (48 + 13 * k.val) ∨
    v (48 + 13 * k.val) = 0 ∧ v (49 + 13 * k.val) ≠ 0)
  apart (j k : Fin 8) : j < k → rangesOverlap (v (48 + 13 * j.val), v (49 + 13 * j.val))
    (v (48 + 13 * k.val), v (49 + 13 * k.val)) = false
  tank (k : Fin 8) : v 38 ≤ v (51 + 13 * k.val)

/-- A field that does not fail its own range holds a value in it. -/
theorem within_of_passes {f : FieldSpec} {raw : Nat} (passes : f.fails raw = false) :
    within f.low f.high (f.value raw) := by
  simp only [FieldSpec.fails, Bool.or_eq_false_iff, decide_eq_false_iff_not, Nat.not_lt] at passes
  obtain ⟨⟨-, low⟩, high⟩ := passes
  exact ⟨low, high⟩

/-- No cross-check names a field of two valid parts. -/
theorem crossFailures_of_valid {p1 p2 : List Byte} (valid : partsFailure p1 p2 = none) :
    crossFailures (blockValues (rawBlock p1 p2)) = [] := by
  have all : blockFailures (rawBlock p1 p2) = [] := List.min?_eq_none_iff.mp valid
  exact (List.append_eq_nil_iff.mp all).2

/-- No cross-check of a class names a field exactly when its range, the lower classes and its tank capacity pass. -/
theorem classFailures_eq_nil (values : List Nat) (k : Nat) : classFailures values k = [] ↔
    ¬ ((rangeAt values k).2 < (rangeAt values k).1 ∨ (rangeAt values k).1 = 0 ∧ (rangeAt values k).2 ≠ 0) ∧
    (∀ j < k, rangesOverlap (rangeAt values j) (rangeAt values k) = false) ∧
    valueAt values 38 ≤ valueAt values (51 + 13 * k) := by
  simp only [classFailures, List.append_eq_nil_iff, ite_eq_right_iff, List.cons_ne_nil, imp_false, List.any_eq_true,
    List.mem_range, not_exists, not_and, Bool.not_eq_true, Nat.not_lt, and_assoc]

theorem blockPasses_of_valid {p1 p2 : List Byte} (valid : partsFailure p1 p2 = none) :
    BlockPasses (valueAt (blockValues (rawBlock p1 p2))) := by
  have cross := crossFailures_of_valid valid
  simp only [crossFailures, List.append_eq_nil_iff, ite_eq_right_iff, List.cons_ne_nil, imp_false,
    List.flatMap_eq_nil_iff, List.mem_range, not_not, classFailures_eq_nil] at cross
  obtain ⟨minute, classes⟩ := cross
  have of_class := fun k : Fin 8 => classes k k.isLt
  simp only [forall_and] at of_class
  obtain ⟨ordered, apart, tank⟩ := of_class
  refine ⟨fun i f spec => ?_, minute, ordered, fun j k below => apart k j below, tank⟩
  obtain ⟨raw, passes, value⟩ := field_of_valid valid spec
  rw [value]
  exact within_of_passes passes

/-! ### The configuration that they make -/

section Passes

variable {v : Nat → Nat}

/-- The fields of class k are the thirteen of its group, from field 48 + 13k (Table 11-5). -/
theorem class_field : ∀ (k : Fin 8) (j : Fin 13), blockFields[47 + 13 * k.val + j.val]? = fieldsClass[j.val]? := by
  decide

theorem within_classField (passes : BlockPasses v) (k : Fin 8) (j : Fin 13) {f : FieldSpec} {n : Nat}
    (hf : fieldsClass[j.val]? = some f) (hn : n = 48 + 13 * k.val + j.val) : within f.low f.high (v n) := by
  have next : n = 47 + 13 * k.val + j.val + 1 := by omega
  rw [next]
  exact passes.field _ ((class_field k j).trans hf)

theorem inRange_classConfigOf (passes : BlockPasses v) (k : Fin 8) : (classConfigOf v k).inRange (v 38) := by
  have field := fun j {f n} => within_classField passes k j (f := f) (n := n)
  have high : within 0 4095 (v (49 + 13 * k)) := field 1 rfl (by simp; omega)
  have allowance : within 0 100000 (v (50 + 13 * k)) := field 2 rfl (by simp; omega)
  have tank : within 50 20000 (v (51 + 13 * k)) := field 3 rfl (by simp; omega)
  have burn : within 1 800 (v (52 + 13 * k)) := field 4 rfl (by simp; omega)
  have hours : ∀ i : Fin 4, within 0 20000 (v (53 + 13 * k + i)) := fun i =>
    field ⟨5 + i, by omega⟩ (f := ⟨2, 0, 20000, none⟩) (by revert i; decide) (by simp; omega)
  have fuel : ∀ i : Fin 4, within 0 2000000 (v (57 + 13 * k + i)) := fun i =>
    field ⟨9 + i, by omega⟩ (f := ⟨3, 0, 2000000, none⟩) (by revert i; decide) (by simp; omega)
  have ordered := passes.ordered k
  refine ⟨?_, high.2, allowance.2, tank, passes.tank k, burn, fun i => ?_, fun i => ?_⟩
  · simp only [classConfigOf]
    omega
  · simpa [classConfigOf] using (hours i).2
  · simpa [classConfigOf] using (fuel i).2

/-- Ranges that overlap nowhere cover no number in common (R2). -/
theorem apart_of_not_overlap {a b : ClassConfig} (none_common : rangesOverlap (a.low, a.high) (b.low, b.high) = false) :
    a.apart b := by
  intro n covered
  by_contra both
  rw [Bool.not_eq_false] at both
  simp only [rangesOverlap, ClassConfig.covers, Bool.and_eq_true, Bool.and_eq_false_iff,
    Bool.not_eq_true', decide_eq_true_eq, decide_eq_false_iff_not, bne_eq_false_iff_eq, Prod.mk.injEq,
    beq_eq_false_iff_ne] at none_common covered both
  omega

theorem apart_symm {a b : ClassConfig} (h : a.apart b) : b.apart a := fun n covered => by
  by_contra both
  rw [h n (Bool.not_eq_false _ ▸ both)] at covered
  cases covered

theorem classes_apart (passes : BlockPasses v) (j k : Fin 8) (other : j ≠ k) :
    (classConfigOf v j).apart (classConfigOf v k) := by
  rcases Nat.lt_or_gt_of_ne fun e => other (Fin.ext e) with below | above
  · exact apart_of_not_overlap (passes.apart j k below)
  · exact apart_symm (apart_of_not_overlap (passes.apart k j above))

/-- Four fields of one kind, one for each hose, stand in one range. -/
theorem within_hoseField (passes : BlockPasses v) (n : Nat) {f : FieldSpec}
    (specs : ∀ h : Fin 4, blockFields[n + h.val]? = some f) (h : Fin 4) : within f.low f.high (v (n + 1 + h.val)) := by
  rw [Nat.add_right_comm]
  exact passes.field _ (specs h)

/-- Fields 1 to 47 stand in their ranges one by one; the class groups follow. -/
theorem inRange_configOf (passes : BlockPasses v) : (configOf v).inRange := by
  have pulseStep : ∀ h : Fin 4, within 128 32767 (v (7 + h)) :=
    within_hoseField passes 6 (f := ⟨2, 128, 32767, none⟩) (by decide)
  have maxFlow : ∀ h : Fin 4, within 20 1500 (v (15 + h)) :=
    within_hoseField passes 14 (f := ⟨2, 20, 1500, none⟩) (by decide)
  have slowFlow : ∀ h : Fin 4, within 5 300 (v (19 + h)) :=
    within_hoseField passes 18 (f := ⟨2, 5, 300, none⟩) (by decide)
  have field := passes.field
  refine ⟨field 0 rfl, field 3 rfl, field 4 rfl, field 5 rfl, fun h => ?_, fun h => ?_, fun h => ?_, field 22 rfl,
    (field 23 rfl).2, field 24 rfl, field 25 rfl, field 26 rfl, field 27 rfl, field 28 rfl, (field 29 rfl).2,
    field 30 rfl, field 31 rfl, field 32 rfl, field 33 rfl, (field 34 rfl).2, (field 35 rfl).2, (field 36 rfl).2,
    field 37 rfl, (field 38 rfl).2, field 39 rfl, passes.minute, field 40 rfl, field 41 rfl, field 42 rfl,
    field 43 rfl, field 44 rfl, field 45 rfl, field 46 rfl, fun k => ?_, fun j k other => ?_⟩
  · simpa [configOf] using pulseStep h
  · simpa [configOf] using maxFlow h
  · simpa [configOf] using slowFlow h
  · simpa [configOf] using inRange_classConfigOf passes k
  · simpa [configOf] using classes_apart passes j k other

end Passes

end Sys2Proof.Machine.TerminalLink
end

section
/-! The configuration store through every command and every step (R172, R173, R177). -/

namespace Sys2Proof.Machine.TerminalLink

open Sys2Proof Sys2Proof.Machine Sys2Proof.Machine.ServiceIntervals Sys2Proof.Machine.ShiftClock
  Sys2Proof.Machine.PeersAndNet

/-! ### The start tag (R177) -/

theorem startTag_serve {kind : Nat} {s : State} {reply : State → Reply} (answers : Answers s (reply s)) :
    (serve kind s reply).store.startTag = s.store.startTag := by
  rcases Nat.lt_or_ge s.link.responses.length responseRoom with room | full
  · rw [serve_taken _ _ _ room]
    exact answers.startTag
  · rw [serve_discarded _ _ _ full]
    rfl

/-- Every command but POWER_ON and LOAD_CONFIG leaves the start tag. -/
theorem exec_startTag {i : Instr} {s t : State} (hp : i ≠ .powerOn) (hl : isLoadConfig i = false)
    (h : exec i s = .next t) : t.store.startTag = s.store.startTag := by
  cases request : isRequest i with
  | true =>
    obtain ⟨kind, reply, served⟩ := exec_request request hl
    obtain ⟨taken, answers⟩ := served s
    rw [← next_inj (taken.symm.trans h)]
    exact startTag_serve answers
  | false =>
    cases i with
    | powerOn => exact absurd rfl hp
    | linkFrameDiscard _ => rw [← next_inj h]; simp
    | responseSentWhole => rw [← next_inj h]
    | responseBacklogDiscard | radioFrameDrop _ | tallyDue | accessLimitExpiry _ | transmissionEnd | carrierDetectFall
    | carrierDetectRise | listenTimerExpiry => rw [← next_inj h]; split <;> simp
    | beacon _ _ _ => rcases execBeacon_cases h with rfl | ⟨_, rfl⟩ | ⟨c, k, -, -, -, rfl⟩ <;> simp
    | tally _ _ => rcases execTally_cases h with rfl | ⟨_, rfl⟩ | ⟨c, k, -, -, -, rfl⟩ <;> simp
    | shiftClockSecond => rcases execShiftClockSecond_cases h with rfl | ⟨c, -, rfl⟩ <;> simp
    | missTimerExpiry _ => rcases execMissTimerExpiry_cases h with rfl | ⟨k, rfl⟩ <;> simp
    | beaconDue => rcases execBeaconDue_cases h with rfl | ⟨c, f, rfl⟩ <;> simp
    | quietTimePassed => rcases execQuietTimePassed_cases h with rfl | ⟨c, n, m, rfl⟩ | ⟨c, n, rfl⟩ <;> simp
    | backoffSlotEnd => rcases execBackoffSlotEnd_cases h with rfl | ⟨c, n, rfl⟩ <;> simp
    | nozzleChange _ _ => rcases execNozzleChange_cases h with rfl | ⟨c, k, rfl⟩ <;> simp
    | stopLineChange _ => rcases execStopLineChange_cases h with rfl | ⟨c, rfl⟩ <;> simp
    | meterPulse _ _ => rcases execMeterPulse_cases h with rfl | ⟨c, k, rfl⟩ <;> simp
    | authTimerExpiry _ => rcases execAuthTimerExpiry_cases h with rfl | ⟨k, rfl⟩ <;> simp
    | primeWaitExpiry _ => rcases execPrimeWaitExpiry_cases h with rfl | ⟨c, k, x, rfl⟩ <;> simp
    | startTimerExpiry _ => rcases execStartTimerExpiry_cases h with rfl | ⟨c, k, rfl⟩ <;> simp
    | noFlowTimerExpiry _ => rcases execNoFlowTimerExpiry_cases h with rfl | ⟨c, k, rfl⟩ <;> simp
    | settleTimerExpiry _ => rcases execSettleTimerExpiry_cases h with rfl | ⟨k, f, rfl⟩ <;> simp
    | creepQuietTimerExpiry _ => rcases execCreepQuietTimerExpiry_cases h with rfl | ⟨k, f, rfl⟩ <;> simp
    | overrunWindowExpiry _ => rcases execOverrunWindowExpiry_cases h with rfl | ⟨c, k, x, -, rfl⟩ <;> simp
    | _ => cases request

/-! ### The configuration in force (R172, R173) -/

/-- The block in force and the start tag stand, and a station runs only where it ran or a block is in force. -/
theorem configSound_of_kept {s t : State} (sound : ConfigSound s) (block : t.store.block = s.store.block)
    (tag : t.store.startTag = s.store.startTag)
    (running : t.running = true → s.running = true ∨ ∃ c, s.store.block = some c) : ConfigSound t := by
  obtain ⟨ranges, held, tagged⟩ := sound
  refine ⟨fun c hc => ranges c (block ▸ hc), fun runs => ?_, tag ▸ tagged⟩
  rw [block]
  rcases running runs with ran | ⟨c, hc⟩
  · exact held ran
  · rw [hc]; rfl

theorem running_of_net {s t : State} (net : t.net = s.net) (runs : t.running = true) : s.running = true := by
  rwa [State.running, net] at runs

theorem configSound_serve {kind : Nat} {s : State} {reply : State → Reply} (sound : ConfigSound s)
    (h : ConfigSound (reply s).1) : ConfigSound (serve kind s reply) := by
  rcases Nat.lt_or_ge s.link.responses.length responseRoom with room | full
  · rw [serve_taken _ _ _ room]
    exact h
  · rw [serve_discarded _ _ _ full]
    exact sound

/-- At power-on no block is in force, the station stands by, and the start tag is drawn from 1..65535 (R177). -/
theorem configSound_powerOn (s : State) : ConfigSound (powerOn s) := by
  refine ⟨fun c hc => (by cases hc), fun runs => Bool.noConfusion runs, ?_⟩
  have drawn : (powerOn s).store.startTag = 1 + Config.freeDraw s.model.draws % 65535 := rfl
  rw [drawn]
  exact ⟨by omega, by simp [u16Max]; omega⟩

theorem configSound_loadConfig (part : Nat) (bytes : List Byte) {s : State} (sound : ConfigSound s) :
    ConfigSound (loadConfig part bytes s).1 := by
  have tag := (answersLoad_loadConfig part bytes s).startTag
  rcases partsTaken_loadConfig part bytes s with ⟨store, block, e⟩ | ⟨p1, p2, standby, valid, e⟩ <;> rw [e] at tag ⊢
  · exact configSound_of_kept sound block tag .inl
  · obtain ⟨-, -, tagged⟩ := sound
    have installed := block_installConfig (configOfParts p1 p2) s
    have stopped : (installConfig (configOfParts p1 p2) s).running = false := by simpa [State.running] using standby
    refine ⟨fun c hc => ?_, fun runs => ?_, by rwa [tag]⟩
    · rw [← Option.some.inj (installed.symm.trans hc)]
      exact inRange_configOf (blockPasses_of_valid valid)
    · rw [stopped] at runs
      cases runs

theorem configSound_start (shift time : Nat) {s : State} (sound : ConfigSound s) :
    ConfigSound (start shift time s).1 := by
  have tag := (answers_start shift time s).startTag
  rcases start_cases shift time s with e | ⟨c, hb, -, -, e⟩ <;> rw [e] at tag ⊢
  · exact sound
  · exact configSound_of_kept sound (block_startStation c _ s) tag fun _ => .inr ⟨c, hb⟩

theorem configSound_standby {s : State} (sound : ConfigSound s) : ConfigSound (standby s).1 :=
  configSound_of_kept sound (keepsClock_standby s).block (answers_standby s).startTag
    (.inl ∘ (keepsClock_standby s).running)

theorem configSound_restart {s : State} (sound : ConfigSound s) : ConfigSound (restart s).1 :=
  configSound_of_kept sound (keepsClock_restart s).block (answers_restart s).startTag
    (.inl ∘ (keepsClock_restart s).running)

/-- A frame is taken in a running station, under the block in force (R84). -/
theorem configSound_of_running {s t : State} (sound : ConfigSound s) (runs : s.running = true)
    (store : t.store = s.store) : ConfigSound t :=
  configSound_of_kept sound (by rw [store]) (by rw [store]) fun _ => .inl runs

/-- POWER_ON and LOAD_CONFIG are among the commands that may move the peer table or the configuration. -/
theorem not_start_up_of_keepsNet {i : Instr} (keeps : movesNet i = false) : i ≠ .powerOn ∧ isLoadConfig i = false := by
  cases i with
  | powerOn | loadConfig _ _ => cases keeps
  | _ => exact ⟨Instr.noConfusion, rfl⟩

/-- Every command keeps the configuration store sound. -/
theorem exec_configSound {i : Instr} {s t : State} (sound : ConfigSound s) (h : exec i s = .next t) :
    ConfigSound t := by
  cases moves : movesNet i with
  | false =>
    obtain ⟨block, net⟩ := exec_keepsNet moves h
    obtain ⟨not_power, not_load⟩ := not_start_up_of_keepsNet moves
    exact configSound_of_kept sound block (exec_startTag not_power not_load h) (.inl ∘ running_of_net net)
  | true =>
    cases i with
    | powerOn => rw [← next_inj h]; exact configSound_powerOn s
    | loadConfig part bytes =>
      rw [← next_inj h]; exact configSound_serve sound (configSound_loadConfig part bytes sound)
    | start shift time => rw [← next_inj h]; exact configSound_serve sound (configSound_start shift time sound)
    | standby => rw [← next_inj h]; exact configSound_serve sound (configSound_standby sound)
    | restart => rw [← next_inj h]; exact configSound_serve sound (configSound_restart sound)
    | beacon _ _ _ =>
      rcases execBeacon_cases h with rfl | ⟨cause, rfl⟩ | ⟨c, k, runs, -, -, rfl⟩
      · exact sound
      · exact configSound_of_kept sound (by simp) (by simp) (.inl ∘ running_of_net (by simp))
      · exact configSound_of_running sound runs (by simp)
    | tally _ _ =>
      rcases execTally_cases h with rfl | ⟨cause, rfl⟩ | ⟨c, k, runs, -, -, rfl⟩
      · exact sound
      · exact configSound_of_kept sound (by simp) (by simp) (.inl ∘ running_of_net (by simp))
      · exact configSound_of_running sound runs (by simp)
    | missTimerExpiry _ =>
      rcases execMissTimerExpiry_cases h with rfl | ⟨k, rfl⟩
      · exact sound
      · exact configSound_of_kept sound (by simp) (by simp) (.inl ∘ (keepsClock_missAtPeer k s).running)
    | listenTimerExpiry =>
      rw [← next_inj h]
      split
      · next listens => exact configSound_of_running sound (by simp [State.running, listens.1]) (by simp)
      · exact sound
    | _ => cases moves

/-- Settles O47: a step is a command or a tick; a command leaves the block in force and the start tag, takes both to their
values at power-on, or installs a block that has passed its validation, and a tick leaves the store. -/
theorem stepKeepsConfig : Obligations.StepKeepsConfig := by
  intro s t sound he
  rcases step_cases s with ⟨i, rest, -, e⟩ | ⟨-, i, m, e⟩ | ⟨-, e⟩
  · exact exec_configSound (s := { s with pending := rest }) sound (e.symm.trans he)
  · exact exec_configSound (s := { s with model := m }) sound (e.symm.trans he)
  · rw [← next_inj (e.symm.trans he)]
    exact configSound_of_kept sound (by simp) (by simp) (.inl ∘ (keepsClock_tick s).running)

end Sys2Proof.Machine.TerminalLink
end

section
/-! The terminal link (R164 to R166): its receiver byte by byte, its responses in their envelope, and its own events. -/

namespace Sys2Proof.Machine.TerminalLink

open Sys2Proof Sys2Proof.Machine Sys2Proof.Machine.ServiceIntervals Sys2Proof.Machine.PeersAndNet

/-! ### Requests discarded (R165, R166) -/

/-- The link error counter counts up to 65,535. -/
theorem linkError_eq (s : State) :
    linkError s = { s with link := { s.link with errors := min 65535 (s.link.errors + 1) } } := rfl

/-- With four responses held, every request and RESPONSE_BACKLOG_DISCARD are counted and nothing else (R166). -/
theorem exec_backlog {i : Instr} {s : State} (full : ¬ s.canAnswer)
    (kind : isRequest i = true ∨ i = .responseBacklogDiscard) : exec i s = .next (linkError s) := by
  have held : responseRoom ≤ s.link.responses.length := Nat.not_lt.mp full
  rcases kind with request | rfl
  · cases load : isLoadConfig i with
    | false =>
      obtain ⟨kind, reply, served⟩ := exec_request request load
      rw [(served s).1, serve_discarded _ _ _ held]
    | true =>
      cases i with
      | loadConfig part bytes => exact congrArg _ (serve_discarded 0x01 s _ held)
      | _ => cases load
  · exact congrArg _ (if_pos held)

/-! ### The receiver, one byte (R165) -/

section Byte

variable {b : LineByte} {next : LinkReceiver × List Instr}

theorem huntByte_other (other : b.value ≠ 0xC3#8) : huntByte b = (.hunt, []) := if_neg other

theorem huntByte_damaged (start : b.value = 0xC3#8) (damaged : b.stop = false) :
    huntByte b = (.hunt, [.linkFrameDiscard .noStopBit]) := by simp [huntByte, start, damaged]

theorem huntByte_start (start : b.value = 0xC3#8) (whole : b.stop = true) : huntByte b = (.length, []) := by
  simp [huntByte, start, whole]

theorem late_iff (b : LineByte) : b.late = true ↔ 1000 < b.gap := decide_eq_true_iff

theorem frameByte_late (gap : 1000 < b.gap) :
    frameByte b next = ((huntByte b).1, .linkFrameDiscard .gap :: (huntByte b).2) := if_pos ((late_iff b).mpr gap)

theorem frameByte_damaged (gap : b.gap ≤ 1000) (damaged : b.stop = false) :
    frameByte b next = (.hunt, [.linkFrameDiscard .noStopBit]) := by
  have in_time : ¬ b.late = true := (late_iff b).not.mpr (Nat.not_lt.mpr gap)
  simp [frameByte, in_time, damaged]

theorem frameByte_good (gap : b.gap ≤ 1000) (whole : b.stop = true) : frameByte b next = next := by
  have in_time : ¬ b.late = true := (late_iff b).not.mpr (Nat.not_lt.mpr gap)
  simp [frameByte, in_time, whole]

/-- Outside the hunt a byte stands in a frame. -/
theorem takeByte_inFrame {r : LinkReceiver} (taking : r ≠ .hunt) (b : LineByte) :
    ∃ next, r.takeByte b = frameByte b next := by
  cases r with
  | hunt => exact absurd rfl taking
  | length => exact ⟨_, rfl⟩
  | taking need bytes => exact ⟨_, rfl⟩

theorem length_takeByte_bad (gap : b.gap ≤ 1000) (whole : b.stop = true) (bad : b.value = 0x00#8 ∨ 250 < b.value.toNat) :
    LinkReceiver.length.takeByte b = (.hunt, [.linkFrameDiscard .badLength]) := by
  have out : b.value.toNat = 0 ∨ 250 < b.value.toNat := bad.imp_left fun zero => by rw [zero]; rfl
  exact (frameByte_good gap whole).trans (if_pos out)

theorem length_takeByte_good (gap : b.gap ≤ 1000) (whole : b.stop = true) (low : b.value.toNat ≠ 0)
    (high : b.value.toNat ≤ 250) :
    LinkReceiver.length.takeByte b = (.taking (b.value.toNat + 2) [b.value], []) :=
  (frameByte_good gap whole).trans (if_neg (by omega))

/-- Inside a frame a good byte ends it when it is the last one needed. -/
theorem taking_takeByte (gap : b.gap ≤ 1000) (whole : b.stop = true) (need : Nat) (bytes : List Byte) :
    (LinkReceiver.taking need bytes).takeByte b =
      if need ≤ 1 then (.hunt, wholeFrame (bytes ++ [b.value])) else (.taking (need - 1) (bytes ++ [b.value]), []) :=
  frameByte_good gap whole

end Byte

/-! ### The receiver, a whole frame (R164, R165) -/

theorem takeBytes_cons (r : LinkReceiver) (b : LineByte) (line : List LineByte) :
    takeBytes r (b :: line) = ((takeBytes (r.takeByte b).1 line).1,
      (r.takeByte b).2 ++ (takeBytes (r.takeByte b).1 line).2) := by
  have from_events : ∀ (line : List LineByte) (r : LinkReceiver) (done : List Instr),
      line.foldl (fun a b => ((a.1.takeByte b).1, a.2 ++ (a.1.takeByte b).2)) (r, done) =
        ((takeBytes r line).1, done ++ (takeBytes r line).2) := by
    intro line
    induction line with
    | nil => intro r done; simp [takeBytes]
    | cons b line ih =>
      intro r done
      simp only [takeBytes, List.foldl_cons, List.nil_append]
      rw [ih, ih _ (r.takeByte b).2, List.append_assoc]
  rw [takeBytes, List.foldl_cons, List.nil_append, from_events]

/-- The bytes still needed, each in time and with its stop bit, complete the frame. -/
theorem takeBytes_taking (got : List Byte) (line : List LineByte) (more : line ≠ [])
    (good : ∀ b ∈ line, b.gap ≤ 1000 ∧ b.stop = true) :
    takeBytes (.taking line.length got) line = (.hunt, wholeFrame (got ++ line.map (·.value))) := by
  induction line generalizing got with
  | nil => exact absurd rfl more
  | cons b line ih =>
    obtain ⟨gap, whole⟩ := good b List.mem_cons_self
    rw [takeBytes_cons, taking_takeByte gap whole]
    cases line with
    | nil => simp [takeBytes]
    | cons b' line =>
      have rest := ih (got ++ [b.value]) (List.cons_ne_nil _ _) fun x hx => good x (List.mem_cons_of_mem _ hx)
      rw [if_neg (by simp), List.length_cons, Nat.add_sub_cancel, rest]
      simp

/-- A frame of the length that its first byte gives is the request of its kind and payload when its CRC matches (R165). -/
theorem wholeFrame_eq (kind : Byte) (payload check : List Byte) (fits : payload.length ≤ 249) :
    wholeFrame (BitVec.ofNat 8 (payload.length + 1) :: kind :: payload ++ check) =
      [if check = crcField (BitVec.ofNat 8 (payload.length + 1) :: kind :: payload) then requestOf kind payload
      else .linkFrameDiscard .badCrc] := by
  have length : (BitVec.ofNat 8 (payload.length + 1)).toNat = payload.length + 1 := by
    rw [BitVec.toNat_ofNat, Nat.mod_eq_of_lt (by omega)]
  simp only [wholeFrame, List.cons_append, length, List.take_succ_cons, List.drop_succ_cons, List.take_left',
    List.drop_left']
  split <;> rfl

theorem takeBytes_frame (start : LineByte) (line : List LineByte) (kind : Byte) (payload check : List Byte)
    (fits : payload.length ≤ 249) (crc_bytes : check.length = 2) (sync : start.value = 0xC3#8) (whole : start.stop = true)
    (good : ∀ b ∈ line, b.gap ≤ 1000 ∧ b.stop = true)
    (bytes : line.map (·.value) = BitVec.ofNat 8 (payload.length + 1) :: kind :: payload ++ check) :
    takeBytes .hunt (start :: line) =
      (.hunt, wholeFrame (BitVec.ofNat 8 (payload.length + 1) :: kind :: payload ++ check)) := by
  cases line with
  | nil => cases bytes
  | cons len line =>
    obtain ⟨value, rest⟩ := List.cons.inj bytes
    obtain ⟨gap, stop⟩ := good len List.mem_cons_self
    have length : len.value.toNat = payload.length + 1 := by
      have value : len.value = BitVec.ofNat 8 (payload.length + 1) := value
      rw [value, BitVec.toNat_ofNat, Nat.mod_eq_of_lt (by omega)]
    have needed : len.value.toNat + 2 = line.length := by
      rw [length, ← List.length_map (as := line) (·.value), rest]
      simp [crc_bytes]
    have begun : LinkReceiver.hunt.takeByte start = (.length, []) := huntByte_start sync whole
    have taken := takeBytes_taking [len.value] line (fun none => by simp [none] at needed)
      fun b hb => good b (List.mem_cons_of_mem _ hb)
    rw [takeBytes_cons, begun, takeBytes_cons, length_takeByte_good gap stop (by omega) (by omega), needed, taken, ← bytes]
    rfl

/-! ### The link at rest (R165, R166) -/

/-- A tick ends with the link's line, over the response under way one tick later. -/
theorem tick_linkByte (s : State) : ∃ u, tick s = linkByte u ∧ u.link = s.link.tickSending := by
  simp only [tick]
  refine ⟨_, rfl, ?_⟩
  split
  · rw [radioBit_frame]
  · rfl

theorem tickSending_eq (l : LinkBlock) :
    l.tickSending = { l with sending := if l.responses = [] then l.sending else l.sending + 1 } := by
  simp only [LinkBlock.tickSending, List.isEmpty_iff]
  split <;> rfl

/-- A byte whose gap has passed is taken off the line by the receiver. -/
theorem linkByte_due {u : State} {b : LineByte} {rest : List LineByte} (line : u.link.line = b :: rest)
    (due : b.gap ≤ u.link.waited) :
    linkByte u = { u with
      link := { u.link with line := rest, receiver := (u.link.receiver.takeByte b).1, waited := 0 }
      model := { u.model with arrived := u.model.arrived ++ (u.link.receiver.takeByte b).2 } } := by
  rw [linkByte, line]
  exact if_pos due

theorem linkByte_waits {u : State} (waits : ∀ b ∈ u.link.line.head?, u.link.waited < b.gap) :
    linkByte u = { u with link := { u.link with waited := u.link.waited + 1 } } := by
  unfold linkByte
  split
  · rfl
  · next b rest line =>
    rw [line] at waits
    exact if_neg (Nat.not_le.mpr (waits b rfl))

/-! ### Responses (R164, R166) -/

theorem responseTime_le_iff (r : Response) (n : Nat) :
    responseTime r ≤ n ↔ (r.payload.length + 6) * 10 * 100000 ≤ 115200 * n := by
  have length : (responseFrame r).length = r.payload.length + 6 := by
    simp [responseFrame, crcField, beBytes]
  simp only [responseTime, length, ceilDiv, second]
  omega

/-- The oldest response is the one event that the link itself brings. -/
theorem comesAbout_response (s : State) : ComesAbout .responseSentWhole s ↔ .responseSentWhole ∈ responseDue s := by
  have no_hose : ∀ c h, .responseSentWhole ∉ hoseDue c s h := fun c h hi => by
    cases ofHose_of_mem_hoseDue hi
  have no_radio : ∀ c, .responseSentWhole ∉ radioDue c s := fun c hi => by
    rw [radioDue_eq, List.mem_append] at hi
    rcases hi with hi | hi
    · simp [schedulesDue] at hi
    · cases ofTransmitter_of_mem_transmitterDue hi
  have no_station : ∀ c, .responseSentWhole ∉ stationDue c s := fun c hi => by
    simp [stationDue] at hi
  rw [comesAbout_iff, ownDue]
  cases s.store.block with
  | none => simp
  | some c => simp [no_hose, no_radio, no_station]

theorem responseSentWhole_comesAbout (s : State) : ComesAbout .responseSentWhole s ↔
    ∃ r rest, s.link.responses = r :: rest ∧ (r.payload.length + 6) * 10 * 100000 ≤ 115200 * s.link.sending := by
  rw [comesAbout_response, responseDue]
  cases s.link.responses with
  | nil => simp
  | cons r rest => simp [responseTime_le_iff]

/-- Settles O26: the events of the link one by one, the receiver through `frameByte` and `takeBytes_frame`, the line at rest
through `linkByte`, and the responses through their envelope. -/
theorem linkEvents : Obligations.LinkEvents := by
  refine ⟨fun s kind answers => congrArg _ (serve_answered answers rfl), fun s cause => rfl,
    fun s full i kind => exec_backlog full kind, fun s r rest held => ?sent, fun b => ?byte, ?frame, ?arrives, ?waits,
    responseSentWhole_comesAbout, fun r covered layout => ?envelope, rfl⟩
  case sent =>
    have taken : exec .responseSentWhole s =
      .next { s with link := { s.link with responses := s.link.responses.tail, sending := 0 } } := rfl
    rw [taken, held, List.tail_cons]
  case byte =>
    refine ⟨huntByte_other, huntByte_damaged, huntByte_start, fun r taking gap => ?_, fun r taking gap damaged => ?_,
      length_takeByte_bad⟩
    · obtain ⟨next, e⟩ := takeByte_inFrame taking b
      exact e.trans (frameByte_late gap)
    · obtain ⟨next, e⟩ := takeByte_inFrame taking b
      exact e.trans (frameByte_damaged gap damaged)
  case frame =>
    intro start line kind payload check fits crc_bytes sync whole good bytes
    rw [takeBytes_frame start line kind payload check fits crc_bytes sync whole good bytes,
      wholeFrame_eq kind payload check fits]
  case arrives =>
    intro s b rest at_rest line due
    obtain ⟨u, ticked, link⟩ := tick_linkByte s
    rw [tickSending_eq] at link
    refine ⟨_, step_atRest at_rest, ?_⟩
    rw [ticked, linkByte_due (b := b) (rest := rest) (by rw [link, line]) (by rw [link]; exact due), link]
    exact ⟨rfl, rfl, rfl, List.suffix_append _ _⟩
  case waits =>
    intro s at_rest waits
    obtain ⟨u, ticked, link⟩ := tick_linkByte s
    rw [tickSending_eq] at link
    refine ⟨_, step_atRest at_rest, ?_⟩
    rw [ticked, linkByte_waits (by rw [link]; exact waits), link]
  case envelope =>
    subst layout
    simp [responseFrame]

end Sys2Proof.Machine.TerminalLink
end

section
/-! The Notice Table's requests (R168 to R170) and READ_STATUS (R176). -/

namespace Sys2Proof.Machine.TerminalLink

open Sys2Proof Sys2Proof.Machine Sys2Proof.Machine.ServiceIntervals

/-! ### READ_STATUS (R176) -/

theorem toNat_recordsFull (s : State) : s.recordsFull.toNat =
    if 32 ≤ s.records.records.length + s.records.reservations then 1 else 0 := by
  have full : s.recordsFull = true ↔ 32 ≤ s.records.records.length + s.records.reservations := decide_eq_true_iff
  simp only [← full]
  cases s.recordsFull <;> rfl

/-- The status response's 40 bytes as fields and widths (Table 11-6). -/
theorem statusFields_eq (s : State) : statusFields s = fieldBytes
    [(1, s.net.state.code), (1, s.store.block.isSome.toNat), (1, s.stationNumber),
     (2, s.store.startTag), (1, s.clock.set.toNat), (3, s.clock.pos.shift), (3, s.clock.pos.time),
     (2, s.view.entries.length), (2, s.radio.queue.length), (1, s.records.records.length),
     (1, s.records.reservations),
     (1, if 32 ≤ s.records.records.length + s.records.reservations then 1 else 0),
     (1, activePeers s.net.peers), (2, s.radio.badCrc), (2, s.radio.malformed), (2, s.net.clash),
     (2, s.clock.reject), (2, s.view.staleShift), (2, s.view.originFull), (2, s.view.viewFull),
     (2, s.view.noClass), (2, s.radio.abandoned), (2, s.link.errors)] := by
  simp only [statusFields, flagByte, toNat_recordsFull, posField, statusCounters, fieldBytes_cons, fieldBytes_nil,
    List.flatMap_cons, List.flatMap_nil, List.append_assoc, List.append_nil]

/-- Settles O10: READ_STATUS is answered with its fields, on the state as it stands. -/
theorem readStatusReports : Obligations.ReadStatusReports := by
  refine ⟨rfl, fun s answers => ?_⟩
  rw [← statusFields_eq]
  exact congrArg _ (serve_answered answers rfl)

/-! ### Entries (R168, R170) -/

theorem ackEntry_eq (i : Fin 12) (e : NoticeEntry) : ackEntry i e =
    if 8 ≤ i.val ∧ e.awaiting = true then
      { e with awaiting := false, pending := e.pending || (e.condition && e.enabled) }
    else e := by
  simp only [ackEntry, isCondition, Bool.and_eq_true, decide_eq_true_eq]

theorem enableEntry_eq (i : Fin 12) (on : Bool) (e : NoticeEntry) : enableEntry i on e =
    if e.enabled = true ∧ on = false then { e with enabled := false, pending := false, awaiting := false }
    else if e.enabled = false ∧ on = true then
      { e with enabled := true, pending := e.pending || (decide (8 ≤ i.val) && e.condition) }
    else e := by
  obtain ⟨enabled, pending, awaiting, condition⟩ := e
  cases enabled <;> cases on <;> simp [enableEntry, isCondition]

/-- The attention output follows the pending flags of the table that a request writes (R170). -/
theorem attention_iff (s : State) (entries : Vector NoticeEntry 12) : (s.withNotices entries).notices.attention = true ↔
    ∃ j : Fin 12, (s.withNotices entries).notices.entries[j].pending = true :=
  anyTable_iff entries (·.pending)

theorem masks_eq (pending : Nat) (entries : Vector NoticeEntry 12) : noticeMasks pending entries =
    fieldBytes [(2, pending), (2, noticeMask entries (·.condition)), (2, noticeMask entries (·.awaiting))] := by
  simp [noticeMasks]

/-! ### The requests (R169, R170) -/

/-- A request that writes the table and is answered leaves every other block. -/
theorem answered_withNotices (s : State) (entries : Vector NoticeEntry 12) (kind pending : Nat) :
    KeepsStation s ((s.withNotices entries).respond kind .ok (noticeMasks pending entries)) ∧
    KeepsForecourt s ((s.withNotices entries).respond kind .ok (noticeMasks pending entries)) ∧
    ((s.withNotices entries).respond kind .ok (noticeMasks pending entries)).link.responses =
      s.link.responses ++ [⟨kind, .ok, fieldBytes
        [(2, pending), (2, noticeMask entries (·.condition)), (2, noticeMask entries (·.awaiting))]⟩] := by
  simp [KeepsStation, KeepsForecourt, masks_eq]

section Requests

variable {s : State}

theorem exec_readNotices (answers : s.canAnswer) : exec .readNotices s =
    .next ((s.mapNotices readEntry).respond 0x50 .ok (noticeMasks (noticeMask s.notices.entries (·.pending))
      (s.mapNotices readEntry).notices.entries)) := congrArg _ (serve_answered answers rfl)

theorem exec_ackNotice (answers : s.canAnswer) (i : Fin 12) : exec (.ackNotice i.val) s =
    .next ((s.mapNotice i (ackEntry i)).respond 0x51 .ok (currentMasks (s.mapNotice i (ackEntry i)))) :=
  congrArg _ (serve_answered answers (by simp [ackNotice, accept]))

theorem exec_setNoticeEnables {m : Nat} (answers : s.canAnswer) (fits : m < 4096) : exec (.setNoticeEnables m) s =
    .next ((s.mapNotices fun i => enableEntry i (m.testBit i.val)).respond 0x52 .ok
      (currentMasks (s.mapNotices fun i => enableEntry i (m.testBit i.val)))) :=
  congrArg _ (serve_answered answers (if_neg (Nat.not_le.mpr fits)))

/-- A read table holds no pending entry (R169). -/
theorem attention_readNotices (s : State) : (s.mapNotices readEntry).notices.attention = false := by
  rw [Bool.eq_false_iff, State.mapNotices, Ne, attention_iff]
  simp [readEntry]

end Requests

/-- Settles O25: a mask or a source out of range is refused; each request rewrites the table entry by entry and answers the
masks of the table that it leaves. -/
theorem noticeRequests : Obligations.NoticeRequests := by
  refine fun s answers => ⟨⟨_, exec_readNotices answers, fun i => ?read, attention_readNotices s,
      answered_withNotices s _ _ _⟩,
    fun n out => ?no_source,
    fun i => ⟨_, exec_ackNotice answers i, fun j other => ?others, ?own, attention_iff s _, answered_withNotices s _ _ _⟩,
    fun m out => congrArg _ (serve_answered answers (if_pos out)),
    fun m fits => ⟨_, exec_setNoticeEnables answers fits, fun i => ?enable, attention_iff s _,
      answered_withNotices s _ _ _⟩⟩
  case read => exact entries_mapNotices s readEntry i i.isLt
  case no_source => exact congrArg _ (serve_answered answers (by simp [ackNotice, indexFrom0_none out, refuse]))
  case others => exact (entries_mapNotice s i j j.isLt (ackEntry i)).trans (if_neg fun e => other (Fin.ext e))
  case own =>
    rw [← ackEntry_eq]
    exact (entries_mapNotice s i i i.isLt (ackEntry i)).trans (if_pos rfl)
  case enable =>
    rw [← enableEntry_eq]
    exact entries_mapNotices s _ i i.isLt

end Sys2Proof.Machine.TerminalLink
end

section
/-! The state after reset (R177): the power-on state over silent lines, in which every relation of Sys2Proof/Safety.lean
holds. -/

namespace Sys2Proof.Machine.TerminalLink

open Sys2Proof Sys2Proof.Machine

/-- A part before its power comes: every line outside it low and silent, no command waiting and nothing drawn. -/
def unpowered : State :=
  State.powerOn [] 0 (Vector.replicate 4 false) (Vector.replicate 4 false) false false [] []
    { draws := 0, orders := 0, arrived := [] }

/-- Reset is POWER_ON over silent lines (R177). -/
theorem powerOn_unpowered : powerOn unpowered = State.reset := by
  have nozzles : mapTable (·.nozzle.level) unpowered.hoses = Vector.replicate 4 false := by decide
  have meters : mapTable (·.meterInput.level) unpowered.hoses = Vector.replicate 4 false := by decide
  rw [powerOn, nozzles, meters]
  rfl

/-- Without a configuration the view and the watch list are empty at power-on. -/
theorem viewOrdered_powerOn (s : State) : ViewOrdered (powerOn s) :=
  ⟨List.Pairwise.nil, Nat.zero_le _, fun _ member => absurd member List.not_mem_nil⟩

theorem watchSound_powerOn (s : State) : WatchSound (powerOn s) := rfl

theorem guardSound_powerOn (s : State) : GuardSound (powerOn s) := fun runs => Bool.noConfusion runs

/-- Settles O46: every relation holds after POWER_ON, and reset is POWER_ON over silent lines. -/
theorem resetIsSafe : Obligations.ResetIsSafe := by
  unfold Obligations.ResetIsSafe
  rw [← powerOn_unpowered]
  exact ⟨configSound_powerOn _, FieldLines.outputsFollow_powerOn _, HoseCourse.issuesAccounted_powerOn _,
    HoseCourse.healthSound_powerOn _, ServiceIntervals.noticesTrue_powerOn _, viewOrdered_powerOn _,
    ShiftClock.clockSound_powerOn _, PeersAndNet.peersSound_powerOn _, PitNet.radioSound_powerOn _,
    watchSound_powerOn _, guardSound_powerOn _⟩

end Sys2Proof.Machine.TerminalLink
end

-- Proofs of the family other: what a step takes, the queue of commands, and events that do not come about.

section
/-! Proofs of the family other. Every command completes and leaves the queue of waiting commands, and a step takes the
command at its front, or with none an event that has come about. -/

namespace Sys2Proof.Machine.CommandQueue

open Sys2Proof Sys2Proof.Machine Sys2Proof.Machine.ServiceIntervals Sys2Proof.Machine.ShiftClock

/-! ### Every command completes -/

/-- No meaning faults or refuses: each answers a next state at once, or on every branch of its checks. -/
theorem exec_completes (i : Instr) (s : State) : ∃ t, exec i s = .next t := by
  cases i with
  | beacon | tally | shiftClockSecond | missTimerExpiry | beaconDue | quietTimePassed | backoffSlotEnd =>
    simp only [exec, execBeacon, execTally, execShiftClockSecond, execMissTimerExpiry, execBeaconDue,
      execQuietTimePassed, execBackoffSlotEnd]
    (repeat' split) <;> exact ⟨_, rfl⟩
  | nozzleChange | stopLineChange | meterPulse | authTimerExpiry | primeWaitExpiry | startTimerExpiry
  | noFlowTimerExpiry | settleTimerExpiry | creepQuietTimerExpiry | overrunWindowExpiry =>
    simp only [exec, execNozzleChange, execStopLineChange, execMeterPulse, execAuthTimerExpiry, execPrimeWaitExpiry,
      execStartTimerExpiry, execNoFlowTimerExpiry, execSettleTimerExpiry, execCreepQuietTimerExpiry,
      execOverrunWindowExpiry]
    (repeat' split) <;> exact ⟨_, rfl⟩
  | _ => exact ⟨_, rfl⟩

/-! ### Requests leave the queue -/

section Requests

variable (s : State)

/-- A request served, or discarded with four responses held (R166), leaves the queue that the request leaves. -/
theorem pending_serve {s : State} {kind : Nat} {request : State → Reply} (h : (request s).1.pending = s.pending) :
    (serve kind s request).pending = s.pending := by
  rcases Nat.lt_or_ge s.link.responses.length responseRoom with room | full
  · rw [serve_taken _ _ _ room]
    exact h
  · rw [serve_discarded _ _ _ full]
    simp

theorem pending_loadConfig (part : Nat) (bytes : List Byte) : (loadConfig part bytes s).1.pending = s.pending := by
  rcases partsTaken_loadConfig part bytes s with ⟨store, -, e⟩ | ⟨p1, p2, -, -, e⟩ <;> simp [e]

theorem pending_start (shift time : Nat) : (start shift time s).1.pending = s.pending := by
  rcases start_cases shift time s with e | ⟨c, -, -, -, e⟩ <;> simp [e]

theorem pending_standby : (standby s).1.pending = s.pending := by
  rcases standby_cases s with e | e <;> simp [e]

theorem pending_restart : (restart s).1.pending = s.pending := by
  rcases restart_cases s with e | ⟨c, -, -, e⟩ <;> simp [e]

theorem pending_presentVehicle (hose v hours flag total preset : Nat) :
    (presentVehicle hose v hours flag total preset s).1.pending = s.pending := by
  rcases presentVehicle_cases hose v hours flag total preset s with e | ⟨c, h, p, x, k, -, e⟩ <;> simp [e]

theorem pending_stopHose (hose : Nat) : (stopHose hose s).1.pending = s.pending := by
  rcases stopHose_cases hose s with e | ⟨c, h, e⟩ <;> simp [e]

theorem pending_clearHoseFault (hose : Nat) : (clearHoseFault hose s).1.pending = s.pending := by
  rcases clearHoseFault_cases hose s with e | ⟨h, e⟩ <;> simp [e]

theorem pending_barRequest (barred : Bool) (v : Nat) : (barRequest barred v s).1.pending = s.pending := by
  rcases barRequest_cases barred v s with e | ⟨c, x, e⟩ <;> simp [e]

theorem pending_recordService (v type hours flag total : Nat) :
    (recordService v type hours flag total s).1.pending = s.pending := by
  rcases recordService_cases v type hours flag total s with e | ⟨c, x, e⟩ <;> simp [e]

theorem pending_stageAllowance (cls litres : Nat) : (stageAllowance cls litres s).1.pending = s.pending := by
  rcases stageAllowance_cases cls litres s with e | ⟨k, e⟩ <;> simp [e]

theorem pending_clearStaged (cls : Nat) : (clearStaged cls s).1.pending = s.pending := by
  rcases clearStaged_cases cls s with e | ⟨k, e⟩ <;> simp [e]

theorem pending_releaseRecord (number : Nat) : (releaseRecord number s).1.pending = s.pending := by
  rcases releaseRecord_cases number s with e | ⟨rest, e⟩ <;> simp [e]

theorem pending_ackNotice (source : Nat) : (ackNotice source s).1.pending = s.pending := by
  rcases ackNotice_cases source s with e | ⟨i, e⟩ <;> simp [e]

theorem pending_setNoticeEnables (mask : Nat) : (setNoticeEnables mask s).1.pending = s.pending := by
  rcases setNoticeEnables_cases mask s with e | e <;> simp [e]

end Requests

/-! ### Every command leaves the queue -/

theorem pending_ite {p : Prop} [Decidable p] {s t u : State} (ht : t.pending = s.pending) (hu : u.pending = s.pending) :
    (if p then t else u).pending = s.pending := by
  split
  · exact ht
  · exact hu

/-- A command's next state has the queue that the command was given: each operation of a command leaves it. -/
theorem exec_pending {i : Instr} {s t : State} (h : exec i s = .next t) : t.pending = s.pending := by
  cases i with
  | powerOn | responseSentWhole => exact (congrArg State.pending (next_inj h)).symm
  | loadConfig part bytes => rw [← next_inj h]; exact pending_serve (pending_loadConfig s part bytes)
  | start shift time => rw [← next_inj h]; exact pending_serve (pending_start s shift time)
  | standby => rw [← next_inj h]; exact pending_serve (pending_standby s)
  | restart => rw [← next_inj h]; exact pending_serve (pending_restart s)
  | readStatus | readWatchList | unknownRequestKind => rw [← next_inj h]; exact pending_serve rfl
  | presentVehicle hose v hours flag total preset =>
    rw [← next_inj h]; exact pending_serve (pending_presentVehicle s hose v hours flag total preset)
  | stopHose hose => rw [← next_inj h]; exact pending_serve (pending_stopHose s hose)
  | readHose hose => rw [← next_inj h]; exact pending_serve (by rw [fst_readHose])
  | clearHoseFault hose => rw [← next_inj h]; exact pending_serve (pending_clearHoseFault s hose)
  | readVehicle v => rw [← next_inj h]; exact pending_serve (by rw [fst_readVehicle])
  | barVehicle v => rw [← next_inj h]; exact pending_serve (pending_barRequest s true v)
  | clearBar v => rw [← next_inj h]; exact pending_serve (pending_barRequest s false v)
  | recordService v type hours flag total =>
    rw [← next_inj h]; exact pending_serve (pending_recordService s v type hours flag total)
  | stageAllowance cls litres => rw [← next_inj h]; exact pending_serve (pending_stageAllowance s cls litres)
  | clearStaged cls => rw [← next_inj h]; exact pending_serve (pending_clearStaged s cls)
  | readOldest => rw [← next_inj h]; exact pending_serve (by rw [fst_readOldest])
  | releaseRecord number => rw [← next_inj h]; exact pending_serve (pending_releaseRecord s number)
  | readPeers group => rw [← next_inj h]; exact pending_serve (by rw [fst_readPeers])
  | readNotices => rw [← next_inj h]; exact pending_serve (by simp [readNotices, accept])
  | ackNotice source => rw [← next_inj h]; exact pending_serve (pending_ackNotice s source)
  | setNoticeEnables mask => rw [← next_inj h]; exact pending_serve (pending_setNoticeEnables s mask)
  | linkFrameDiscard => rw [← next_inj h]; simp
  | beacon => rcases execBeacon_cases h with rfl | ⟨cause, rfl⟩ | ⟨c, i, -, -, -, rfl⟩ <;> simp
  | tally => rcases execTally_cases h with rfl | ⟨cause, rfl⟩ | ⟨c, i, -, -, -, rfl⟩ <;> simp
  | responseBacklogDiscard | radioFrameDrop | listenTimerExpiry | tallyDue | accessLimitExpiry | transmissionEnd
  | carrierDetectFall => rw [← next_inj h]; exact pending_ite (by simp) rfl
  | carrierDetectRise => rw [← next_inj h]; exact pending_ite rfl (by simp)
  | shiftClockSecond => rcases execShiftClockSecond_cases h with rfl | ⟨c, -, rfl⟩ <;> simp
  | missTimerExpiry => rcases execMissTimerExpiry_cases h with rfl | ⟨i, rfl⟩ <;> simp
  | beaconDue => rcases execBeaconDue_cases h with rfl | ⟨c, f, rfl⟩ <;> simp
  | quietTimePassed => rcases execQuietTimePassed_cases h with rfl | ⟨c, n, m, rfl⟩ | ⟨c, n, rfl⟩ <;> simp
  | backoffSlotEnd => rcases execBackoffSlotEnd_cases h with rfl | ⟨c, n, rfl⟩ <;> simp
  | nozzleChange => rcases execNozzleChange_cases h with rfl | ⟨c, k, rfl⟩ <;> simp
  | stopLineChange => rcases execStopLineChange_cases h with rfl | ⟨c, rfl⟩ <;> simp
  | meterPulse => rcases execMeterPulse_cases h with rfl | ⟨c, k, rfl⟩ <;> simp
  | authTimerExpiry => rcases execAuthTimerExpiry_cases h with rfl | ⟨k, rfl⟩ <;> simp
  | primeWaitExpiry => rcases execPrimeWaitExpiry_cases h with rfl | ⟨c, k, x, rfl⟩ <;> simp
  | startTimerExpiry => rcases execStartTimerExpiry_cases h with rfl | ⟨c, k, rfl⟩ <;> simp
  | noFlowTimerExpiry => rcases execNoFlowTimerExpiry_cases h with rfl | ⟨c, k, rfl⟩ <;> simp
  | settleTimerExpiry => rcases execSettleTimerExpiry_cases h with rfl | ⟨k, f, rfl⟩ <;> simp
  | creepQuietTimerExpiry => rcases execCreepQuietTimerExpiry_cases h with rfl | ⟨k, f, rfl⟩ <;> simp
  | overrunWindowExpiry => rcases execOverrunWindowExpiry_cases h with rfl | ⟨c, k, x, -, rfl⟩ <;> simp

/-- Settles O2: every command answers a next state, and none of its operations touches the queue. -/
theorem commandsKeepQueue : Obligations.CommandsKeepQueue := by
  intro i s
  obtain ⟨t, completes⟩ := exec_completes i s
  exact ⟨t, completes, exec_pending completes⟩

/-! ### What a step takes -/

/-- With an event come about, the one taken next is among the candidates (notes/assumptions/2.md). -/
theorem nextEvent_mem {s : State} (due : candidates s ≠ []) :
    ∃ x ∈ candidates s, nextEvent s = some (x.1, x.2.orderTaken) := by
  have chosen : Config.freeOrder s.model.orders % (candidates s).length < (candidates s).length :=
    Nat.mod_lt _ (List.length_pos_of_ne_nil due)
  refine ⟨_, List.getElem_mem chosen, ?_⟩
  simp only [nextEvent, List.getElem?_eq_getElem chosen, Option.map_some]

/-- Settles O1: the front of the queue is taken by the definition of a step, and at rest the free order selects one of the
candidates. -/
theorem stepTakesFrontCommand : Obligations.StepTakesFrontCommand := by
  refine ⟨fun i rest s => rfl, fun s empty due => ?_⟩
  obtain ⟨x, candidate, chosen⟩ := nextEvent_mem due
  refine ⟨x, candidate, ?_⟩
  simp only [step, empty, chosen]
  rfl

end Sys2Proof.Machine.CommandQueue
end

section
/-! Events that do not come about: at a hose that is not fitted, at an input that already has the state reported, at a
timer that does not run, and in another state of the transmitter or of the station
(notes/assumptions/6.md, 9.md and 12.md). -/

namespace Sys2Proof.Machine.IdleEvents

open Sys2Proof Sys2Proof.Machine Sys2Proof.Machine.ShiftClock

section Events

variable {s : State} {h : Fin 4}

/-! ### Events at a hose -/

/-- A field event finds no hose where none is fitted (R99), so that what else stands in its way is met at a hose found. -/
theorem fieldHose_or {p : Prop} (still : s.fitted h = false ∨ p) :
    s.fieldHose (h.val + 1) = none ∨ p ∧ ∃ c, s.fieldHose (h.val + 1) = some (c, h) := by
  cases hb : s.store.block with
  | none => exact .inl (by simp only [State.fieldHose, hb])
  | some c =>
    rw [fitted_eq hb] at still
    rcases Bool.eq_false_or_eq_true c.fitted[h] with fitted | unfitted
    · exact .inr ⟨still.resolve_left (by simp [fitted]), c, fieldHose_fitted hb fitted⟩
    · exact .inl (by simp only [State.fieldHose, hb, indexOf_succ, unfitted, Bool.false_eq_true, if_false])

/-- The test of a timer that runs in certain states of its hose or of the station. -/
theorem timer_stopped {p : Prop} {timer : Option Nat} (still : ¬ p ∨ timer = none) : ¬ (p ∧ timer.isSome = true) := by
  rintro ⟨state, runs⟩
  rcases still with other | stopped
  · exact other state
  · rw [stopped] at runs; cases runs

theorem exec_nozzleChange_same {b : Bool} (still : s.fitted h = false ∨ (s.hose h).nozzle.active = b) :
    exec (.nozzleChange (h.val + 1) b) s = .next s := by
  rcases fieldHose_or still with e | ⟨same, c, e⟩
  · simp only [exec, execNozzleChange, e]
  · simp only [exec, execNozzleChange, e, if_pos same]

theorem exec_meterPulse_unfitted (unfitted : s.fitted h = false) (ticks : Nat) :
    exec (.meterPulse (h.val + 1) ticks) s = .next s := by
  rcases fieldHose_or (p := False) (.inl unfitted) with e | ⟨no_hose, -⟩
  · simp only [exec, execMeterPulse, e]
  · exact no_hose.elim

theorem exec_stopLineChange_same {b : Bool} (still : s.store.block = none ∨ s.field.stop.active = b) :
    exec (.stopLineChange b) s = .next s := by
  cases hb : s.store.block with
  | none => simp only [exec, execStopLineChange, hb]
  | some c =>
    have same : s.field.stop.active = b := still.resolve_left (by simp [hb])
    simp only [exec, execStopLineChange, hb, if_pos same]

theorem exec_authTimerExpiry_stopped (still : s.fitted h = false ∨ (s.hose h).ctl.state ≠ .authorized ∨
    (s.hose h).ctl.authTimer = none) : exec (.authTimerExpiry (h.val + 1)) s = .next s := by
  rcases fieldHose_or still with e | ⟨stopped, c, e⟩
  · simp only [exec, execAuthTimerExpiry, e]
  · simp only [exec, execAuthTimerExpiry, e, if_neg (timer_stopped stopped)]

theorem exec_startTimerExpiry_stopped (still : s.fitted h = false ∨ (s.hose h).ctl.startTimer = none) :
    exec (.startTimerExpiry (h.val + 1)) s = .next s := by
  rcases fieldHose_or still with e | ⟨stopped, c, e⟩
  · simp only [exec, execStartTimerExpiry, e]
  · simp only [exec, execStartTimerExpiry, e, if_neg (timer_stopped (.inr stopped))]

theorem exec_noFlowTimerExpiry_stopped (still : s.fitted h = false ∨ (s.hose h).ctl.noFlowTimer = none) :
    exec (.noFlowTimerExpiry (h.val + 1)) s = .next s := by
  rcases fieldHose_or still with e | ⟨stopped, c, e⟩
  · simp only [exec, execNoFlowTimerExpiry, e]
  · simp only [exec, execNoFlowTimerExpiry, e, if_neg (timer_stopped (.inr stopped))]

/-- The test of a prime wait or an overrun window, as its command makes it before it looks for the issue. -/
theorem running_eq_false {state expected : HoseState} {timer : Option Nat} (still : state ≠ expected ∨ timer = none) :
    (state == expected && timer.isSome) = false := by
  rcases still with other | stopped
  · rw [beq_false_of_ne other, Bool.false_and]
  · rw [stopped, Option.isSome_none, Bool.and_false]

theorem exec_primeWaitExpiry_stopped (still : s.fitted h = false ∨ (s.hose h).ctl.state ≠ .starting ∨
    (s.hose h).ctl.primeTimer = none) : exec (.primeWaitExpiry (h.val + 1)) s = .next s := by
  rcases fieldHose_or still with e | ⟨stopped, c, e⟩
  · simp only [exec, execPrimeWaitExpiry, e]
  · simp only [exec, execPrimeWaitExpiry, e, running_eq_false stopped]

theorem exec_overrunWindowExpiry_stopped (still : s.fitted h = false ∨ (s.hose h).ctl.state ≠ .closing ∨
    (s.hose h).ctl.overrunTimer = none) : exec (.overrunWindowExpiry (h.val + 1)) s = .next s := by
  rcases fieldHose_or still with e | ⟨stopped, c, e⟩
  · simp only [exec, execOverrunWindowExpiry, e]
  · simp only [exec, execOverrunWindowExpiry, e, running_eq_false stopped]

/-! ### The clock and the peer table -/

theorem exec_missTimerExpiry_stopped {i : Fin 16} (stopped : s.net.peers[i].missTimer = none) :
    exec (.missTimerExpiry (i.val + 1)) s = .next s := by
  simp only [exec, execMissTimerExpiry, indexOf_succ, stopped, Option.isSome_none, Bool.false_eq_true, if_false]

theorem exec_listenTimerExpiry_stopped (still : s.net.state ≠ .listenIn ∨ s.net.listen = none) :
    exec .listenTimerExpiry s = .next s :=
  congrArg _ (if_neg (timer_stopped still))

theorem countSecond_stopped {c : ConfigBlock} (still : s.clock.set = false ∨ s.clock.held = true) :
    countSecond c s = s :=
  if_pos (by simpa using still)

theorem exec_shiftClockSecond_stopped (still : s.store.block = none ∨ s.clock.set = false ∨ s.clock.held = true) :
    exec .shiftClockSecond s = .next s := by
  cases hb : s.store.block with
  | none => simp only [exec, execShiftClockSecond, hb]
  | some c => rw [exec_shiftClockSecond hb, countSecond_stopped (still.resolve_left (by simp [hb]))]

/-! ### Schedules and channel access -/

theorem exec_beaconDue_stopped (stopped : s.radio.schedule = none) : exec .beaconDue s = .next s := by
  simp only [exec, execBeaconDue]
  split
  · next scheduled => rw [stopped] at scheduled; cases scheduled
  · rfl

theorem exec_tallyDue_stopped (still : s.radio.gapClock = none ∨ s.radio.dueTally.isSome = true ∨
    s.radio.queue = [] ∧ s.view.entries = []) : exec .tallyDue s = .next s := by
  have none_due : s.tallyCanFallDue = false := by
    rcases still with stopped | due | ⟨queue, entries⟩
    · simp [State.tallyCanFallDue, stopped]
    · simp [State.tallyCanFallDue, Option.isNone_eq_false_iff.mpr due]
    · simp [State.tallyCanFallDue, queue, entries]
  exact congrArg _ (if_neg (Bool.eq_false_iff.mp none_due))

theorem exec_quietTimePassed_other (still : s.store.block = none ∨ ∀ n frozen, s.radio.tx ≠ .quiet (some n) frozen) :
    exec .quietTimePassed s = .next s := by
  simp only [exec, execQuietTimePassed]
  split
  · next c n hb tx => exact absurd tx (still.resolve_left (by simp [hb]) n none)
  · next c n slots hb tx => exact absurd tx (still.resolve_left (by simp [hb]) n (some slots))
  · rfl

theorem exec_backoffSlotEnd_other (still : s.store.block = none ∨ s.radio.cd = true ∨
    ∀ slots n, s.radio.tx ≠ .countdown slots n) : exec .backoffSlotEnd s = .next s := by
  simp only [exec, execBackoffSlotEnd]
  split
  · next c slots n hb tx =>
    have asserted : s.radio.cd = true :=
      (still.resolve_left (by simp [hb])).resolve_right fun other => other slots n tx
    rw [if_pos asserted]
  · rfl

theorem exec_transmissionEnd_released (silent : ∀ f, s.radio.tx ≠ .sending f) : exec .transmissionEnd s = .next s := by
  have key : ¬ s.radio.tx.key = true := by
    cases tx : s.radio.tx with
    | sending f => exact absurd tx (silent f)
    | _ => exact Bool.false_ne_true
  exact congrArg _ (if_neg key)

theorem exec_carrierDetectRise_asserted (asserted : s.radio.cd = true) : exec .carrierDetectRise s = .next s :=
  congrArg _ (if_pos asserted)

theorem exec_carrierDetectFall_clear (clear : s.radio.cd = false) : exec .carrierDetectFall s = .next s :=
  congrArg _ (if_neg (Bool.eq_false_iff.mp clear))

theorem exec_accessLimitExpiry_stopped {frame : DueFrame} (stopped : s.radio.isDue frame = false) :
    exec (.accessLimitExpiry frame) s = .next s :=
  congrArg _ (if_neg (Bool.eq_false_iff.mp stopped))

/-! ### Frames in STANDBY -/

theorem exec_radioFrameDrop_standby (standby : s.net.state = .standby) (cause : DropCause) :
    exec (.radioFrameDrop cause) s = .next s :=
  congrArg _ (if_neg (Bool.eq_false_iff.mp (running_false standby)))

theorem exec_tally_standby (standby : s.net.state = .standby) (station : Nat) (frame : TallyFrame) :
    exec (.tally station frame) s = .next s := by
  simp only [exec, execTally, running_false standby]

theorem exec_beacon_standby (standby : s.net.state = .standby) (station : Nat) (pos : ClockPos) (interval : Nat) :
    exec (.beacon station pos interval) s = .next s := by
  simp only [exec, execBeacon, running_false standby]

end Events

/-- Settles O45: in each case the command's own check finds that its event has not come about. -/
theorem eventsThatDoNotArise : Obligations.EventsThatDoNotArise := fun _ =>
  ⟨fun _ _ => exec_nozzleChange_same, fun _ ticks unfitted => exec_meterPulse_unfitted unfitted ticks,
    fun _ => exec_stopLineChange_same, fun _ => exec_authTimerExpiry_stopped, fun _ => exec_primeWaitExpiry_stopped,
    fun _ => exec_startTimerExpiry_stopped, fun _ => exec_noFlowTimerExpiry_stopped,
    fun _ => exec_overrunWindowExpiry_stopped, fun _ => exec_missTimerExpiry_stopped, exec_listenTimerExpiry_stopped,
    exec_shiftClockSecond_stopped, exec_beaconDue_stopped, exec_tallyDue_stopped, exec_quietTimePassed_other,
    exec_backoffSlotEnd_other, exec_transmissionEnd_released, exec_carrierDetectRise_asserted,
    exec_carrierDetectFall_clear,
    fun stopped => exec_accessLimitExpiry_stopped (by rw [RadioBlock.isDue, stopped]; rfl),
    fun stopped => exec_accessLimitExpiry_stopped (by rw [RadioBlock.isDue, stopped]; rfl),
    fun standby => ⟨exec_radioFrameDrop_standby standby, exec_tally_standby standby, exec_beacon_standby standby⟩⟩

end Sys2Proof.Machine.IdleEvents
end

-- Proofs of the statements left open by the families before: the Vehicle View through every step, the merge of a tally, the
-- completion of an issue, LOAD_CONFIG, RESTART, and the requests of chapters 1, 8 and 11 that act on them.

section
/-! Origin lists (R4, R11, R13): what an amount rewritten and an entry inserted leave under each key, and that both keep the
order; and what the merge of received entries makes of a list. -/

namespace Sys2Proof.Machine.VehicleView

open Sys2Proof Sys2Proof.Machine

/-! ### Keys and their order -/

theorem keyIs_iff (station tag : Nat) (o : OriginEntry) :
    keyIs station tag o = true ↔ o.station = station ∧ o.tag = tag := by
  simp [keyIs]

theorem originBefore_iff (a b : OriginEntry) :
    originBefore a b = true ↔ a.station < b.station ∨ a.station = b.station ∧ a.tag < b.tag := by
  simp [originBefore]

theorem originBefore_trans {a b c : OriginEntry} (h : originBefore a b = true) (k : originBefore b c = true) :
    originBefore a c = true := by
  rw [originBefore_iff] at *; omega

theorem amountOf_cons (station tag : Nat) (o : OriginEntry) (l : List OriginEntry) :
    amountOf station tag (o :: l) =
      if o.station = station ∧ o.tag = tag then some o.amount else amountOf station tag l := by
  unfold amountOf
  by_cases key : o.station = station ∧ o.tag = tag
  · simp [key, (keyIs_iff station tag o).mpr key]
  · simp [key, Bool.eq_false_iff.mpr (mt (keyIs_iff station tag o).mp key)]

theorem amountOf_eq_none_iff (station tag : Nat) (l : List OriginEntry) :
    amountOf station tag l = none ↔ ∀ o ∈ l, ¬ (o.station = station ∧ o.tag = tag) := by
  simp [amountOf, keyIs]

/-! ### An amount rewritten -/

theorem amountOf_setAmount (station tag amount st k : Nat) (l : List OriginEntry) :
    amountOf st k (setAmount station tag amount l) =
      if st = station ∧ k = tag then (amountOf st k l).map fun _ => amount else amountOf st k l := by
  induction l with
  | nil => simp [setAmount, amountOf]
  | cons o l ih =>
    have head : setAmount station tag amount (o :: l) =
        (if keyIs station tag o then { o with amount := amount } else o) :: setAmount station tag amount l := rfl
    rw [head, amountOf_cons, amountOf_cons, ih]
    by_cases own : keyIs station tag o = true
    · obtain ⟨rfl, rfl⟩ := (keyIs_iff _ _ _).mp own
      by_cases key : o.station = st ∧ o.tag = k
      · obtain ⟨rfl, rfl⟩ := key; simp [own]
      · have other : ¬ (st = o.station ∧ k = o.tag) := fun e => key ⟨e.1.symm, e.2.symm⟩
        simp [own, key, other]
    · by_cases key : o.station = st ∧ o.tag = k
      · have other : ¬ (st = station ∧ k = tag) :=
          fun e => own ((keyIs_iff _ _ _).mpr ⟨key.1.trans e.1, key.2.trans e.2⟩)
        simp [own, key, other]
      · simp [own, key]

@[simp] theorem length_setAmount (station tag amount : Nat) (l : List OriginEntry) :
    (setAmount station tag amount l).length = l.length := List.length_map _

/-- An amount rewritten keeps the keys, and with them the order of the list. -/
theorem originsOrdered_setAmount {station tag amount : Nat} {l : List OriginEntry} (ordered : OriginsOrdered l) :
    OriginsOrdered (setAmount station tag amount l) := by
  obtain ⟨sorted, room⟩ := ordered
  refine ⟨List.pairwise_map.mpr (sorted.imp fun {a b} before => ?_), by simpa using room⟩
  rw [originBefore_iff] at before ⊢
  have keys : ∀ o : OriginEntry, (if keyIs station tag o then { o with amount := amount } else o).station = o.station ∧
      (if keyIs station tag o then { o with amount := amount } else o).tag = o.tag := by
    intro o; split <;> exact ⟨rfl, rfl⟩
  rwa [(keys a).1, (keys a).2, (keys b).1, (keys b).2]

/-! ### An entry inserted -/

@[simp] theorem length_insertOrigin (o : OriginEntry) (l : List OriginEntry) :
    (insertOrigin o l).length = l.length + 1 := by
  induction l with
  | nil => rfl
  | cons x l ih => unfold insertOrigin; split <;> simp [ih]

theorem mem_insertOrigin (o x : OriginEntry) (l : List OriginEntry) : x ∈ insertOrigin o l ↔ x = o ∨ x ∈ l := by
  induction l with
  | nil => simp [insertOrigin]
  | cons y l ih =>
    unfold insertOrigin
    split
    · exact List.mem_cons
    · simp only [List.mem_cons, ih]; tauto

theorem amountOf_insertOrigin {o : OriginEntry} {l : List OriginEntry} (absent : amountOf o.station o.tag l = none)
    (st k : Nat) : amountOf st k (insertOrigin o l) =
      if o.station = st ∧ o.tag = k then some o.amount else amountOf st k l := by
  induction l with
  | nil => exact amountOf_cons st k o []
  | cons x l ih =>
    rw [amountOf_cons] at absent
    split at absent
    · cases absent
    · next other =>
      unfold insertOrigin
      split
      · exact amountOf_cons st k o (x :: l)
      · rw [amountOf_cons, amountOf_cons, ih absent]
        by_cases own : o.station = st ∧ o.tag = k
        · have : ¬ (x.station = st ∧ x.tag = k) := by rwa [← own.1, ← own.2]
          simp [own, this]
        · simp [own]

/-- An entry inserted under a key that the list does not hold keeps the order. -/
theorem sorted_insertOrigin {o : OriginEntry} {l : List OriginEntry}
    (sorted : l.Pairwise fun a b => originBefore a b = true) (absent : amountOf o.station o.tag l = none) :
    (insertOrigin o l).Pairwise fun a b => originBefore a b = true := by
  induction l with
  | nil => exact List.pairwise_singleton _ _
  | cons x l ih =>
    obtain ⟨ahead, tail⟩ := List.pairwise_cons.mp sorted
    have apart := (amountOf_eq_none_iff _ _ _).mp absent
    unfold insertOrigin
    split
    · next before =>
      refine List.pairwise_cons.mpr ⟨fun y hy => ?_, sorted⟩
      rcases List.mem_cons.mp hy with rfl | hy
      · exact before
      · exact originBefore_trans before (ahead y hy)
    · next behind =>
      refine List.pairwise_cons.mpr ⟨fun y hy => ?_, ih tail ?_⟩
      · rcases (mem_insertOrigin o y l).mp hy with rfl | hy
        · have other := apart x (List.mem_cons_self ..)
          rw [originBefore_iff] at behind ⊢
          omega
        · exact ahead y hy
      · exact (amountOf_eq_none_iff _ _ _).mpr fun y hy => apart y (List.mem_cons_of_mem _ hy)

theorem originsOrdered_insertOrigin {o : OriginEntry} {l : List OriginEntry} (ordered : OriginsOrdered l)
    (absent : amountOf o.station o.tag l = none) (room : l.length < originRoom) :
    OriginsOrdered (insertOrigin o l) :=
  ⟨sorted_insertOrigin ordered.1 absent, by rw [length_insertOrigin]; exact room⟩

theorem originsOrdered_nil : OriginsOrdered [] := ⟨List.Pairwise.nil, Nat.zero_le _⟩

/-! ### Received entries merged (R13) -/

/-- A received entry has nothing more to bring to a list: its key is held with no smaller amount, or the list has no room
for it. -/
def Settled (o : OriginEntry) (l : List OriginEntry) : Prop :=
  (∃ a, amountOf o.station o.tag l = some a ∧ o.amount ≤ a) ∨
  (amountOf o.station o.tag l = none ∧ originRoom ≤ l.length)

/-- What the merge of one received entry does: it raises the amount held under its key, is inserted where there is room,
is skipped where there is none, or brings nothing. -/
theorem mergeOrigin_cases (m : MergeState) (o : OriginEntry) :
    (∃ a, amountOf o.station o.tag m.entry.origins = some a ∧ a < o.amount ∧ mergeOrigin m o = { m with
      entry := { m.entry with origins := setAmount o.station o.tag o.amount m.entry.origins }, changed := true }) ∨
    (amountOf o.station o.tag m.entry.origins = none ∧ m.entry.origins.length < originRoom ∧ mergeOrigin m o = { m with
      entry := { m.entry with origins := insertOrigin o m.entry.origins }, changed := true }) ∨
    (Settled o m.entry.origins ∧ ((amountOf o.station o.tag m.entry.origins).isSome = true ∧ mergeOrigin m o = m ∨
      amountOf o.station o.tag m.entry.origins = none ∧ mergeOrigin m o = { m with skipped := m.skipped + 1 })) := by
  cases held : amountOf o.station o.tag m.entry.origins with
  | some a =>
    by_cases more : a < o.amount
    · exact .inl ⟨a, rfl, more, by simp [mergeOrigin, held, more]⟩
    · exact .inr (.inr ⟨.inl ⟨a, held, Nat.le_of_not_lt more⟩, .inl ⟨rfl, by simp [mergeOrigin, held, more]⟩⟩)
  | none =>
    by_cases room : m.entry.origins.length < originRoom
    · exact .inr (.inl ⟨rfl, room, by simp [mergeOrigin, held, room]⟩)
    · exact .inr (.inr ⟨.inr ⟨held, Nat.le_of_not_lt room⟩, .inr ⟨rfl, by simp [mergeOrigin, held, room]⟩⟩)

/-- A received entry with nothing to bring changes nothing; it may be counted as skipped. -/
theorem mergeOrigin_settled {m : MergeState} {o : OriginEntry} (settled : Settled o m.entry.origins) :
    (mergeOrigin m o).entry = m.entry ∧ (mergeOrigin m o).changed = m.changed := by
  rcases mergeOrigin_cases m o with ⟨a, held, more, -⟩ | ⟨absent, room, -⟩ | ⟨-, ⟨-, e⟩ | ⟨-, e⟩⟩
  · rcases settled with ⟨b, other, less⟩ | ⟨other, -⟩ <;> rw [held] at other <;> cases other
    omega
  · rcases settled with ⟨b, other, -⟩ | ⟨-, full⟩
    · rw [absent] at other; cases other
    · omega
  · rw [e]; exact ⟨rfl, rfl⟩
  · rw [e]; exact ⟨rfl, rfl⟩

/-- What is settled stays settled through the merge of any received entry: no amount falls, and a full list stays as full
as it is. -/
theorem Settled.mergeOrigin {p : OriginEntry} {m : MergeState} (settled : Settled p m.entry.origins) (o : OriginEntry) :
    Settled p (mergeOrigin m o).entry.origins := by
  rcases mergeOrigin_cases m o with ⟨a, held, more, e⟩ | ⟨absent, room, e⟩ | ⟨-, ⟨-, e⟩ | ⟨-, e⟩⟩
  · simp only [Settled, e, amountOf_setAmount, length_setAmount]
    by_cases own : p.station = o.station ∧ p.tag = o.tag
    · rcases settled with ⟨b, other, less⟩ | ⟨other, -⟩ <;> rw [own.1, own.2, held] at other <;> cases other
      exact .inl ⟨o.amount, by simp [own, held], by omega⟩
    · simpa only [Settled, own, if_false] using settled
  · simp only [Settled, e, amountOf_insertOrigin absent, length_insertOrigin]
    rcases settled with ⟨b, other, less⟩ | ⟨-, full⟩
    · have own : ¬ (o.station = p.station ∧ o.tag = p.tag) := by
        rintro ⟨h, k⟩; rw [h, k, other] at absent; cases absent
      exact .inl ⟨b, by simpa only [own, if_false] using other, less⟩
    · omega
  · rw [e]; exact settled
  · rw [e]; exact settled

theorem settled_mergeOrigin_self (m : MergeState) (o : OriginEntry) :
    Settled o (Machine.mergeOrigin m o).entry.origins := by
  rcases mergeOrigin_cases m o with ⟨a, held, -, e⟩ | ⟨absent, -, e⟩ | ⟨settled, ⟨-, e⟩ | ⟨-, e⟩⟩
  · exact .inl ⟨o.amount, by rw [e, amountOf_setAmount]; simp [held], Nat.le_refl _⟩
  · exact .inl ⟨o.amount, by rw [e, amountOf_insertOrigin absent]; simp, Nat.le_refl _⟩
  · rw [e]; exact settled
  · rw [e]; exact settled

theorem Settled.foldl {p : OriginEntry} (l : List OriginEntry) {m : MergeState} (settled : Settled p m.entry.origins) :
    Settled p (l.foldl Machine.mergeOrigin m).entry.origins := by
  induction l generalizing m with
  | nil => exact settled
  | cons o l ih => exact ih (settled.mergeOrigin o)

/-- After a merge every received entry is settled. -/
theorem settled_foldl (l : List OriginEntry) (m : MergeState) :
    ∀ o ∈ l, Settled o (l.foldl Machine.mergeOrigin m).entry.origins := by
  induction l generalizing m with
  | nil => intro o ho; cases ho
  | cons x l ih =>
    intro o ho
    rcases List.mem_cons.mp ho with rfl | ho
    · exact (settled_mergeOrigin_self m o).foldl l
    · exact ih (Machine.mergeOrigin m x) o ho

/-- A merge of entries that are all settled changes nothing. -/
theorem foldl_settled (l : List OriginEntry) {m : MergeState} (settled : ∀ o ∈ l, Settled o m.entry.origins) :
    (l.foldl Machine.mergeOrigin m).entry = m.entry ∧ (l.foldl Machine.mergeOrigin m).changed = m.changed := by
  induction l generalizing m with
  | nil => exact ⟨rfl, rfl⟩
  | cons o l ih =>
    obtain ⟨entry, changed⟩ := mergeOrigin_settled (settled o (List.mem_cons_self ..))
    have rest := ih (m := Machine.mergeOrigin m o)
      (fun p hp => by rw [entry]; exact settled p (List.mem_cons_of_mem _ hp))
    exact ⟨rest.1.trans entry, rest.2.trans changed⟩

/-- A merge keeps an origin list in order. -/
theorem originsOrdered_mergeOrigin {m : MergeState} (ordered : OriginsOrdered m.entry.origins) (o : OriginEntry) :
    OriginsOrdered (Machine.mergeOrigin m o).entry.origins := by
  rcases mergeOrigin_cases m o with ⟨a, -, -, e⟩ | ⟨absent, room, e⟩ | ⟨-, ⟨-, e⟩ | ⟨-, e⟩⟩
  · rw [e]; exact originsOrdered_setAmount ordered
  · rw [e]; exact originsOrdered_insertOrigin ordered absent room
  · rw [e]; exact ordered
  · rw [e]; exact ordered

theorem originsOrdered_foldl (l : List OriginEntry) {m : MergeState} (ordered : OriginsOrdered m.entry.origins) :
    OriginsOrdered (l.foldl Machine.mergeOrigin m).entry.origins := by
  induction l generalizing m with
  | nil => exact ordered
  | cons o l ih => exact ih (originsOrdered_mergeOrigin ordered o)

end Sys2Proof.Machine.VehicleView
end

section
/-! The merge of a tally repeated (R13 to R17): each field takes what is greater, so that the second time none changes. -/

namespace Sys2Proof.Machine.VehicleView

open Sys2Proof Sys2Proof.Machine

theorem mergeRegister_again (l r : Option Reading) : mergeRegister (mergeRegister l r) r = mergeRegister l r := by
  cases r with
  | none => rfl
  | some r =>
    cases l with
    | none => exact if_neg (Nat.lt_irrefl _)
    | some l =>
      by_cases less : l.value < r.value
      · simp [mergeRegister, less]
      · simp [mergeRegister, less]

theorem pairBelow_irrefl (n o : Nat) : pairBelow n o n o = false := by simp [pairBelow]

/-- A service entry or bar that was taken, or that was not, is not taken again. -/
theorem serviceTaken_again (l r : ServiceEntry) : serviceTaken (if serviceTaken l r then r else l) r = false := by
  split
  · simp [serviceTaken, pairBelow_irrefl]
  · next kept => exact Bool.eq_false_iff.mpr kept

theorem barTaken_again (l r : Bar) : barTaken (if barTaken l r then r else l) r = false := by
  split
  · simp [barTaken, pairBelow_irrefl]
  · next kept => exact Bool.eq_false_iff.mpr kept

theorem mergeServices_again (l r : Vector ServiceEntry 4) : mergeServices (mergeServices l r) r = mergeServices l r := by
  ext i hi
  simp [mergeServices, serviceTaken_again]

/-- The merge of the origin lists alone: that of a tally of another shift leaves the entry (R12). -/
def mergeOrigins (shift : Nat) (f : TallyFrame) (m : MergeState) : MergeState :=
  if f.shift = shift then f.origins.foldl mergeOrigin m else m

theorem mergeTally_eq (shift : Nat) (f : TallyFrame) (created : Bool) (e : VehicleEntry) :
    mergeTally shift f created e =
      { mergeOrigins shift f ⟨e, created, 0⟩ with
        entry := { (mergeOrigins shift f ⟨e, created, 0⟩).entry with
          hours := mergeRegister e.hours f.hours, totaliser := mergeRegister e.totaliser f.totaliser
          services := mergeServices e.services f.services, bar := if barTaken e.bar f.bar then f.bar else e.bar }
        changed := (mergeOrigins shift f ⟨e, created, 0⟩).changed || mergeRegister e.hours f.hours != e.hours ||
          mergeRegister e.totaliser f.totaliser != e.totaliser || mergeServices e.services f.services != e.services ||
          barTaken e.bar f.bar } := rfl

theorem mergeOrigins_again (shift : Nat) (f : TallyFrame) (m n : MergeState)
    (same : n.entry.origins = (mergeOrigins shift f m).entry.origins) :
    (mergeOrigins shift f n).entry = n.entry ∧ (mergeOrigins shift f n).changed = n.changed := by
  unfold mergeOrigins at *
  split
  · next current =>
    rw [if_pos current] at same
    exact foldl_settled f.origins fun o ho => by rw [same]; exact settled_foldl f.origins m o ho
  · exact ⟨rfl, rfl⟩

/-- Settles O29: after the merge every received origin entry is settled, and no register, service entry or bar of the tally
is greater than what the entry then holds. -/
theorem mergeTwiceChangesNothing : Obligations.MergeTwiceChangesNothing := by
  unfold Obligations.MergeTwiceChangesNothing
  intro shift f created e
  obtain ⟨merged, first⟩ : ∃ x, x = (mergeTally shift f created e).entry := ⟨_, rfl⟩
  have hours : mergeRegister merged.hours f.hours = merged.hours := by rw [first]; exact mergeRegister_again _ _
  have totaliser : mergeRegister merged.totaliser f.totaliser = merged.totaliser := by
    rw [first]; exact mergeRegister_again _ _
  have services : mergeServices merged.services f.services = merged.services := by
    rw [first]; exact mergeServices_again _ _
  have bar : barTaken merged.bar f.bar = false := by rw [first]; exact barTaken_again _ _
  obtain ⟨entry, changed⟩ := mergeOrigins_again shift f ⟨e, created, 0⟩ ⟨merged, false, 0⟩ (by rw [first]; rfl)
  rw [← first, mergeTally_eq, entry, changed, hours, totaliser, services, bar]
  simp

end Sys2Proof.Machine.VehicleView
end

section
/-! What a command can do to the entries of the view: leave them, empty their origin lists, or store one entry that has grown
from the one the view held for its vehicle or from a new one. Both the order of the view (R1, R2, R4, R34) and the values that
never fall (R3, R5) rest on it. -/

namespace Sys2Proof.Machine.VehicleView

open Sys2Proof Sys2Proof.Machine Sys2Proof.Machine.ServiceIntervals

/-! ### An entry that has grown -/

/-- A register that is present stays present with no smaller reading (R5). -/
def RegisterRises (before after : Option Reading) : Prop := ∀ r, before = some r → ∃ r', after = some r' ∧ r.value ≤ r'.value

/-- The ordered values of an entry have not fallen (R3). -/
structure Rises (x y : VehicleEntry) : Prop where
  hours     : RegisterRises x.hours y.hours
  totaliser : RegisterRises x.totaliser y.totaliser
  epochs    : ∀ i : Fin 4, x.services[i].epoch ≤ y.services[i].epoch
  version   : x.bar.version ≤ y.bar.version

/-- An entry after a change of its vehicle: its number and class kept, its ordered values not fallen, its origin list kept in
order. -/
structure Grows (x y : VehicleEntry) : Prop extends Rises x y where
  number  : y.number = x.number
  cls     : y.cls = x.cls
  origins : OriginsOrdered x.origins → OriginsOrdered y.origins

theorem RegisterRises.refl (r : Option Reading) : RegisterRises r r := fun x h => ⟨x, h, Nat.le_refl _⟩

theorem RegisterRises.trans {a b c : Option Reading} (h : RegisterRises a b) (k : RegisterRises b c) :
    RegisterRises a c := fun x hx =>
  have ⟨y, hy, less⟩ := h x hx
  have ⟨z, hz, more⟩ := k y hy
  ⟨z, hz, less.trans more⟩

theorem Rises.refl (x : VehicleEntry) : Rises x x := ⟨.refl _, .refl _, fun _ => Nat.le_refl _, Nat.le_refl _⟩

theorem Rises.trans {x y z : VehicleEntry} (h : Rises x y) (k : Rises y z) : Rises x z :=
  ⟨h.hours.trans k.hours, h.totaliser.trans k.totaliser, fun i => (h.epochs i).trans (k.epochs i),
    h.version.trans k.version⟩

theorem rises_unissued (x : VehicleEntry) : Rises x (unissued x) :=
  ⟨.refl _, .refl _, fun _ => Nat.le_refl _, Nat.le_refl _⟩

theorem Rises.withUsage {x y : VehicleEntry} (h : Rises x y) (c : ConfigBlock) : Rises x (withUsage c y) :=
  ⟨h.hours, h.totaliser, h.epochs, h.version⟩

/-- An entry whose origin list alone is rewritten. -/
theorem grows_origins {x : VehicleEntry} {l : List OriginEntry} (ordered : OriginsOrdered x.origins → OriginsOrdered l) :
    Grows x { x with origins := l } := ⟨⟨.refl _, .refl _, fun _ => Nat.le_refl _, Nat.le_refl _⟩, rfl, rfl, ordered⟩

theorem registerRises_mergeRegister (l r : Option Reading) : RegisterRises l (mergeRegister l r) := by
  intro x hx
  subst hx
  cases r with
  | none => exact ⟨x, rfl, Nat.le_refl _⟩
  | some r =>
    by_cases less : x.value < r.value
    · exact ⟨r, by simp [mergeRegister, less], less.le⟩
    · exact ⟨x, by simp [mergeRegister, less], Nat.le_refl _⟩

theorem le_of_pairBelow {n o m p : Nat} (h : pairBelow n o m p = true) : n ≤ m := by
  simp only [pairBelow, Bool.or_eq_true, Bool.and_eq_true, decide_eq_true_eq, beq_iff_eq] at h
  omega

theorem grows_mergeTally (shift : Nat) (f : TallyFrame) (created : Bool) (e : VehicleEntry) :
    Grows e (mergeTally shift f created e).entry := by
  have kept : unissued (mergeOrigins shift f ⟨e, created, 0⟩).entry = unissued e := by
    unfold mergeOrigins
    split
    · exact unissued_mergeOrigins _ _
    · rfl
  have number := congrArg VehicleEntry.number kept
  have cls := congrArg VehicleEntry.cls kept
  rw [mergeTally_eq]
  refine ⟨⟨registerRises_mergeRegister _ _, registerRises_mergeRegister _ _, fun i => ?_, ?_⟩, number, cls,
    fun ordered => ?_⟩
  · simp only [mergeServices, Fin.getElem_fin, Vector.getElem_ofFn]
    split
    · next taken => exact le_of_pairBelow (Bool.and_eq_true_iff.mp taken).2
    · exact Nat.le_refl _
  · simp only
    split
    · next taken => exact le_of_pairBelow (Bool.and_eq_true_iff.mp taken).2
    · exact Nat.le_refl _
  · simp only [mergeOrigins]
    split
    · exact originsOrdered_foldl _ ordered
    · exact ordered

/-- A reading is taken only where it has risen (R26). -/
theorem registerRises_judged {register : Option Reading} {rise tolerance reading : Nat} {outcome : CheckOutcome}
    (now : ClockPos) (judged : ∀ r, register = some r → outcome = judgeReading r.value rise tolerance reading) :
    RegisterRises register (takeReading outcome now reading register) := by
  intro r present
  unfold takeReading
  split
  · next risen =>
    refine ⟨_, rfl, ?_⟩
    have more := (judgeReading_iff r.value rise tolerance reading).2.1.mp ((judged r present).symm.trans risen)
    exact more.1.le
  · exact ⟨r, present, Nat.le_refl _⟩

theorem registerRises_hours (c : ConfigBlock) (now : ClockPos) (register : Option Reading) (h : Nat) :
    RegisterRises register (takeReading (hoursCheck c now register h) now h register) := by
  cases register with
  | none => intro r hr; cases hr
  | some r => exact registerRises_judged now fun x hx => by cases hx; rfl

theorem registerRises_totaliser (c : ConfigBlock) (cls : Fin 8) (now : ClockPos) (register : Option Reading)
    (t : Option Nat) :
    RegisterRises register (takeOptional (totaliserCheck c cls now register t) now t register) := by
  cases t with
  | none => exact .refl _
  | some t =>
    cases register with
    | none => intro r hr; cases hr
    | some r => exact registerRises_judged now fun x hx => by cases hx; rfl

theorem grows_presentedEntry (c : ConfigBlock) (p : Presentation) (e : VehicleEntry) (s : State)
    (place : hasOwn s e.origins = true ∨ e.origins.length < originRoom) : Grows e (presentedEntry c p e s) := by
  refine ⟨⟨registerRises_hours _ _ _ _, registerRises_totaliser _ _ _ _ _, fun _ => Nat.le_refl _, Nat.le_refl _⟩, rfl, rfl,
    fun ordered => ?_⟩
  simp only [presentedEntry]
  split
  · exact ordered
  · next absent =>
    refine originsOrdered_insertOrigin ordered ?_ (place.resolve_left absent)
    simpa [amountOf, hasOwn] using absent

theorem grows_servicedEntry (c : ConfigBlock) (now : ClockPos) (r : ServiceRecord) (e : VehicleEntry) :
    Grows e (servicedEntry c now r e) := by
  refine ⟨⟨registerRises_hours _ _ _ _, registerRises_totaliser _ _ _ _ _, fun i => ?_, Nat.le_refl _⟩, rfl, rfl, id⟩
  simp only [servicedEntry, servicesAfter, Fin.getElem_fin, Vector.getElem_ofFn]
  split
  · exact Nat.le_succ _
  · exact Nat.le_refl _

theorem grows_barred (e : VehicleEntry) (b : Bool) (station : Nat) :
    Grows e { e with bar := ⟨b, e.bar.version + 1, station⟩ } :=
  ⟨⟨.refl _, .refl _, fun _ => Nat.le_refl _, Nat.le_succ _⟩, rfl, rfl, id⟩

/-! ### The entry that a change works on -/

/-- The entry that a change of vehicle `v` works on: its own, or a new one of its class where the view has room (R8, R9). -/
def WorksOn (c : ConfigBlock) (v : Nat) (s : State) (e : VehicleEntry) : Prop :=
  s.entry v = some e ∨
  (s.entry v = none ∧ s.view.entries.length < viewRoom ∧ ∃ cls, classOf c v = some cls ∧ e = newEntry v cls)

theorem worksOn_entryOrNew {c : ConfigBlock} {s : State} {v : Nat} {cls : Fin 8} (hc : classOf c v = some cls)
    (room : s.noRoomFor v = false) : WorksOn c v s (s.entryOrNew v cls) := by
  cases present : s.entry v with
  | some e => exact .inl (by rw [present, State.entryOrNew, present]; rfl)
  | none =>
    refine .inr ⟨present, ?_, cls, hc, by rw [State.entryOrNew, present]; rfl⟩
    have space := mt (noRoomFor_iff s v).mpr (Bool.eq_false_iff.mp room)
    exact Nat.lt_of_not_le fun full => space ⟨present, full⟩

theorem WorksOn.number {c : ConfigBlock} {v : Nat} {s : State} {e : VehicleEntry} (works : WorksOn c v s e) :
    e.number = v := by
  rcases works with present | ⟨-, -, cls, -, rfl⟩
  · exact number_of_entry present
  · rfl

/-! ### The course of the view -/

/-- What a command can do to the entries of the view, one act after another. -/
inductive ViewCourse : State → State → Prop
  | kept {s t : State} (block : t.store.block = s.store.block) (entries : t.view.entries = s.view.entries) :
    ViewCourse s t
  | shifted {s t : State} (block : t.store.block = s.store.block)
    (entries : t.view.entries = s.view.entries.map unissued) : ViewCourse s t
  | stored {s t : State} {c : ConfigBlock} {v : Nat} {x e : VehicleEntry} (hb : s.store.block = some c)
    (works : WorksOn c v s x) (grows : Grows x e) (block : t.store.block = s.store.block)
    (entries : t.view.entries = Machine.putEntry (withUsage c e) s.view.entries) : ViewCourse s t
  | trans {s t u : State} (first : ViewCourse s t) (second : ViewCourse t u) : ViewCourse s u

theorem ViewCourse.refl (s : State) : ViewCourse s s := .kept rfl rfl

/-! ### The values that never fall -/

theorem find_map_unissued (l : List VehicleEntry) (v : Nat) :
    findEntry (l.map unissued) v = (findEntry l v).map unissued := by
  rw [findEntry, List.find?_map]; rfl

/-- No act of the view removes an entry or lets its ordered values fall. -/
theorem rises_of_course {s t : State} (course : ViewCourse s t) {v : Nat} {e : VehicleEntry} (h : s.entry v = some e) :
    ∃ e', t.entry v = some e' ∧ Rises e e' := by
  induction course generalizing e with
  | kept block entries => exact ⟨e, by rw [State.entry, entries]; exact h, .refl e⟩
  | shifted block entries =>
    refine ⟨unissued e, ?_, rises_unissued e⟩
    rw [State.entry, entries, find_map_unissued]
    exact congrArg (Option.map unissued) h
  | @stored s t c w x y hb works grows block entries =>
    rw [State.entry, entries, findEntry_putEntry, number_withUsage, grows.number, works.number]
    split
    · next same =>
      subst same
      rcases works with present | ⟨absent, -⟩
      · rw [h] at present
        cases present
        exact ⟨_, rfl, grows.toRises.withUsage c⟩
      · rw [h] at absent; cases absent
    · exact ⟨e, h, .refl e⟩
  | trans first second ih1 ih2 =>
    obtain ⟨y, hy, rise⟩ := ih1 h
    obtain ⟨z, hz, more⟩ := ih2 hy
    exact ⟨z, hz, rise.trans more⟩

/-! ### The order of the view -/

theorem length_putEntry (e : VehicleEntry) (l : List VehicleEntry) :
    (Machine.putEntry e l).length ≤ l.length + 1 ∧
      (∀ x, findEntry l e.number = some x → Ascending l → (Machine.putEntry e l).length = l.length) := by
  induction l with
  | nil => exact ⟨Nat.le_refl _, fun x h => by cases h⟩
  | cons y l ih =>
    unfold Machine.putEntry
    split
    · next before =>
      refine ⟨Nat.le_refl _, fun x present ascending => ?_⟩
      have member := List.mem_of_find?_eq_some present
      have own : x.number = e.number := by simpa using List.find?_some present
      rcases List.mem_cons.mp member with rfl | member
      · omega
      · have := (List.pairwise_cons.mp ascending).1 x member; omega
    · split
      · exact ⟨Nat.le_succ _, fun _ _ _ => rfl⟩
      · next other =>
        refine ⟨Nat.succ_le_succ ih.1, fun x present ascending => ?_⟩
        have tail : findEntry l e.number = some x := by
          have differs : (y.number == e.number) = false := beq_false_of_ne fun same => other same.symm
          simpa [findEntry, differs] using present
        exact congrArg Nat.succ (ih.2 x tail (List.pairwise_cons.mp ascending).2)

theorem withUsage_unissued (c : ConfigBlock) (e : VehicleEntry) : withUsage c (unissued e) = unissued (withUsage c e) := rfl

/-- Every act of the view keeps it in order, within its room and with its usage. -/
theorem viewOrdered_of_course {s t : State} (course : ViewCourse s t) (ordered : ViewOrdered s) : ViewOrdered t := by
  induction course with
  | kept block entries => simpa only [ViewOrdered, block, entries] using ordered
  | shifted block entries =>
    obtain ⟨sorted, room, sound⟩ := ordered
    simp only [ViewOrdered, block, entries]
    refine ⟨List.pairwise_map.mpr sorted, by simpa using room, fun e he => ?_⟩
    obtain ⟨x, hx, rfl⟩ := List.mem_map.mp he
    obtain ⟨-, c, hb, cls, usage⟩ := sound x hx
    exact ⟨originsOrdered_nil, c, hb, cls, by rw [withUsage_unissued, usage]⟩
  | @stored s t c v x e hb works grows block entries =>
    obtain ⟨sorted, room, sound⟩ := ordered
    have own : OriginsOrdered x.origins ∧ classOf c v = some x.cls := by
      rcases works with present | ⟨-, -, cls, hc, rfl⟩
      · obtain ⟨origins, c', hb', cls, -⟩ := sound x (List.mem_of_find?_eq_some present)
        obtain rfl : c' = c := Option.some.inj (hb'.symm.trans hb)
        exact ⟨origins, number_of_entry present ▸ cls⟩
      · exact ⟨originsOrdered_nil, hc⟩
    have size := length_putEntry (withUsage c e) s.view.entries
    have number : (withUsage c e).number = v := grows.number.trans works.number
    rw [number] at size
    simp only [ViewOrdered, block, entries]
    refine ⟨ascending_putEntry sorted, ?_, fun y hy => ?_⟩
    · rcases works with present | ⟨-, space, -⟩
      · exact (size.2 x present sorted).trans_le room
      · exact size.1.trans space
    · rcases (mem_putEntry sorted).mp hy with rfl | ⟨-, hy⟩
      · exact ⟨grows.origins own.1, c, hb, by rw [number]; exact own.2.trans (congrArg some grows.cls.symm),
          withUsage_withUsage c e⟩
      · exact sound y hy
  | trans first second ih1 ih2 => exact ih2 (ih1 ordered)

end Sys2Proof.Machine.VehicleView
end

section
/-! The view through every command and every step (R1 to R5, R34). -/

namespace Sys2Proof.Machine.VehicleView

open Sys2Proof Sys2Proof.Machine Sys2Proof.Machine.ServiceIntervals Sys2Proof.Machine.ShiftClock

/-! ### Acts that leave the entries -/

theorem ViewCourse.of_frame {s t : State} (h : t.store = s.store ∧ t.view = s.view) : ViewCourse s t :=
  .kept (by rw [h.1]) (by rw [h.2])

theorem course_ite {p : Prop} [Decidable p] {s t u : State} (ht : p → ViewCourse s t) (hu : ViewCourse s u) :
    ViewCourse s (if p then t else u) := by
  split
  · next h => exact ht h
  · exact hu

theorem course_eachHose {f : Fin 4 → State → State} {c : ConfigBlock}
    (hf : ∀ h s, s.store.block = some c → ViewCourse s (f h s)) (block : ∀ h s, (f h s).store.block = s.store.block)
    {s : State} (hb : s.store.block = some c) : ViewCourse s (eachHose f s) := by
  have at0 := (block 0 s).trans hb
  have at1 := (block 1 _).trans at0
  have at2 := (block 2 _).trans at1
  exact (((hf 0 s hb).trans (hf 1 _ at0)).trans (hf 2 _ at1)).trans (hf 3 _ at2)

theorem ViewCourse.serve {kind : Nat} {s : State} {request : State → Reply} (course : ViewCourse s (request s).1) :
    ViewCourse s (serve kind s request) := by
  unfold Machine.serve
  split
  · exact .of_frame (by simp)
  · exact course.trans (.kept rfl rfl)

/-! ### One entry stored -/

theorem entries_storeEntry (c : ConfigBlock) (e : VehicleEntry) (s : State) :
    (storeEntry c e s).view.entries = Machine.putEntry (withUsage c e) s.view.entries := by
  unfold storeEntry
  dsimp only
  split <;> simp [State.putEntry]

section Stored

variable {c : ConfigBlock} {v : Nat} {x e : VehicleEntry} {s : State}

theorem course_storeEntry (hb : s.store.block = some c) (works : WorksOn c v s x) (grows : Grows x e) :
    ViewCourse s (storeEntry c e s) :=
  .stored hb works grows (by simp) (entries_storeEntry c e s)

theorem course_changeEntry (hb : s.store.block = some c) (works : WorksOn c v s x) (grows : Grows x e) :
    ViewCourse s (changeEntry c e s) :=
  (course_storeEntry hb works grows).trans (.kept rfl rfl)

theorem stationNumber_eq (hb : s.store.block = some c) : s.stationNumber = c.station := by
  rw [State.stationNumber, hb]

theorem course_charge (hb : s.store.block = some c) (delivered : Nat) : ViewCourse s (charge c v delivered s) := by
  unfold charge
  split
  · exact .refl s
  · next e present =>
    split
    · exact .refl s
    · split
      · exact course_changeEntry hb (.inl present) (grows_origins originsOrdered_setAmount)
      · next absent =>
        split
        · next room =>
          exact course_changeEntry hb (.inl present)
            (grows_origins fun ordered => originsOrdered_insertOrigin ordered absent room)
        · exact .kept rfl rfl

/-- A completion charges the vehicle, and touches no other entry (R140). -/
theorem course_complete (hb : s.store.block = some c) (h : Fin 4) (k : IssueContext) :
    ViewCourse s (complete c h k s) := by
  unfold complete
  refine ViewCourse.trans ?_ (.of_frame (by simp) :
    ViewCourse (charge c k.vehicle ((enterEnded c h k.limit s).hose h).meter.delivered (enterEnded c h k.limit s)) _)
  exact ViewCourse.trans (.of_frame (by simp)) (course_charge (by simpa using hb) _)

theorem course_restartHose (hb : s.store.block = some c) (h : Fin 4) : ViewCourse s (restartHose c h s) := by
  unfold restartHose
  split
  · exact .of_frame (by simp)
  · split
    · split
      · exact .refl s
      · next k context =>
        exact ViewCourse.trans (.of_frame (by simp)) (course_complete (by simpa using hb) h _)
    · exact .refl s

theorem course_restartStation (hb : s.store.block = some c) : ViewCourse s (restartStation c s) := by
  have noted : ViewCourse s (s.mapNotices restartEntry) := .of_frame (by simp)
  have hoses : ViewCourse (s.mapNotices restartEntry) (eachHose (restartHose c) (s.mapNotices restartEntry)) :=
    course_eachHose (fun h u hu => course_restartHose hu h) (fun h u => by simp) (by simpa using hb)
  have net : ViewCourse (eachHose (restartHose c) (s.mapNotices restartEntry)) (restartStation c s) :=
    .of_frame (by simp [restartStation])
  exact (noted.trans hoses).trans net

/-! ### Requests -/

theorem course_setBar (hb : s.store.block = some c) (works : WorksOn c v s e) (b : Bool) :
    ViewCourse s (setBar c b e s) := by
  have barred := course_changeEntry hb works (grows_barred e b c.station)
  unfold setBar
  dsimp only
  split
  · exact barred.trans (.of_frame (by simp))
  · exact barred

theorem course_barRequest (b : Bool) (v : Nat) (s : State) : ViewCourse s (barRequest b v s).1 := by
  unfold barRequest
  split
  · next c running hb =>
    split
    · exact .refl s
    · split
      · exact .refl s
      · next cls hc =>
        dsimp only
        split
        · exact .refl s
        · next room =>
          split
          · exact .refl s
          · exact course_setBar hb (worksOn_entryOrNew hc (Bool.eq_false_iff.mpr room)) b
  · exact .refl s

theorem course_recordAt (hb : s.store.block = some c) (works : WorksOn c v s e) (r : ServiceRecord) :
    ViewCourse s (recordAt c r e s).1 := by
  unfold recordAt
  dsimp only
  split
  · exact .refl s
  · exact .refl s
  · split
    · exact .refl s
    · exact course_changeEntry hb works (grows_servicedEntry c _ r e)

theorem course_recordService (v type hours flag total : Nat) (s : State) :
    ViewCourse s (recordService v type hours flag total s).1 := by
  unfold recordService
  split
  · next c running hb =>
    split
    · exact .refl s
    · split
      · exact .refl s
      · split
        · exact .refl s
        · split
          · exact .refl s
          · next cls hc =>
            split
            · exact .refl s
            · next room => exact course_recordAt hb (worksOn_entryOrNew hc (Bool.eq_false_iff.mpr room)) _
  · exact .refl s

theorem course_storePresented (hb : s.store.block = some c) (works : WorksOn c v s e) (p : Presentation)
    (place : hasOwn s e.origins = true ∨ e.origins.length < originRoom) : ViewCourse s (storePresented c p e s) := by
  unfold storePresented
  dsimp only
  split
  · exact course_changeEntry hb works (grows_presentedEntry c p e s place)
  · exact .refl s

theorem course_presentReadings (hb : s.store.block = some c) (works : WorksOn c v s e) (h : Fin 4) (p : Presentation) :
    ViewCourse s (presentReadings c h p e s).1 := by
  unfold presentReadings
  dsimp only
  split
  · exact .refl s
  · split
    · exact .refl s
    · split
      · exact .refl s
      · next place =>
        split
        · exact .refl s
        · refine (course_storePresented hb works p ?_).trans (.of_frame (by simp [accept, acceptPresentation]))
          simp only [Bool.and_eq_true, Bool.not_eq_true', decide_eq_true_eq, not_and, Nat.not_le] at place
          cases own : hasOwn s e.origins with
          | true => exact .inl rfl
          | false => exact .inr (place own)

/-- A vehicle that passes checks 10 to 12 has an entry or finds room for one (R128). -/
theorem room_of_vehicleRefusal (passes : vehicleRefusal v e s = none) : s.noRoomFor v = false := by
  unfold vehicleRefusal at passes
  split at passes
  · cases passes
  · split at passes
    · cases passes
    · next room => exact Bool.eq_false_iff.mpr room

theorem course_presentVehicle (hose v hours flag total preset : Nat) (s : State) :
    ViewCourse s (presentVehicle hose v hours flag total preset s).1 := by
  unfold presentVehicle
  split
  · next c running hb =>
    split
    · exact .refl s
    · split
      · exact .refl s
      · unfold presentAt
        split
        · exact .refl s
        · exact .refl s
        · next cls passes hc =>
          dsimp only
          split
          · exact .refl s
          · next vehicle => exact course_presentReadings hb (worksOn_entryOrNew hc (room_of_vehicleRefusal vehicle)) _ _
  · exact .refl s

/-! ### Frames and the clock -/

theorem course_shiftEffects (s : State) : ViewCourse s (shiftEffects s) := .shifted rfl rfl

theorem course_moveClock (c : ConfigBlock) (p : ClockPos) (s : State) : ViewCourse s (moveClock c p s) := by
  rw [moveClock_eq]
  split
  · exact ViewCourse.trans (.of_frame (by simp)) (course_shiftEffects _)
  · exact .of_frame (by simp)

theorem course_countSecond (c : ConfigBlock) (s : State) : ViewCourse s (countSecond c s) := by
  unfold countSecond
  dsimp only
  split
  · exact .refl s
  · split
    · exact .of_frame (by simp)
    · split
      · exact course_moveClock c _ s
      · exact .of_frame (by simp)

theorem course_startClock (c : ConfigBlock) (p : ClockPos) (s : State) : ViewCourse s (startClock c p s) := by
  unfold startClock
  split
  · exact .of_frame (by simp)
  · exact course_ite (fun _ => course_moveClock c p s) (.refl s)

theorem course_beaconAtClock (c : ConfigBlock) (p : ClockPos) (s : State) : ViewCourse s (beaconAtClock c p s) := by
  unfold beaconAtClock
  dsimp only
  split
  · exact .refl s
  · split
    · split
      · exact .refl s
      · exact course_moveClock c p s
    · exact .of_frame (by simp)

theorem course_tallyAtClock (c : ConfigBlock) (shift : Nat) (s : State) : ViewCourse s (tallyAtClock c shift s) :=
  course_ite (fun _ => course_moveClock c _ s) (.refl s)

theorem course_takeBeacon (c : ConfigBlock) (i : Fin 16) (p : ClockPos) (n : Nat) (s : State) :
    ViewCourse s (takeBeacon c i p n s) := by
  unfold takeBeacon
  split
  · exact .of_frame (by simp)
  · exact (course_beaconAtClock c p s).trans (.of_frame (by simp))

theorem course_storeWhen {u : State} (changed : Bool) (block : u.store.block = some c)
    (before : ViewCourse s u) (works : WorksOn c v u x) (grows : Grows x e) :
    ViewCourse s (if changed then storeEntry c e u else u) := by
  split
  · exact before.trans (course_storeEntry block works grows)
  · exact before

theorem WorksOn.congr {u : State} (works : WorksOn c v s e) (entries : u.view.entries = s.view.entries) :
    WorksOn c v u e := by
  simpa only [WorksOn, State.entry, entries] using works

theorem course_mergeIntoView (hb : s.store.block = some c) {f : TallyFrame} {cls : Fin 8}
    (hc : classOf c f.vehicle = some cls) (room : s.noRoomFor f.vehicle = false) :
    ViewCourse s (mergeIntoView c cls f s) := by
  have works := worksOn_entryOrNew hc room
  have ended : ∀ (p : Prop) [Decidable p] (u : State), ViewCourse s u →
      ViewCourse s (if p then barEndsIssue c f.vehicle u else u) := fun p _ u course => by
    split
    · exact course.trans (.of_frame (by simp))
    · exact course
  have report : ∀ a b (u : State), ViewCourse s u → ViewCourse s (mergeReport c f.vehicle a b u) :=
    fun a b u course => course.trans (.of_frame (by simp))
  unfold mergeIntoView
  refine report _ _ _ (ended _ _ ?_)
  exact course_storeWhen _ hb (.kept rfl rfl) (works.congr rfl) (grows_mergeTally ..)

theorem course_tallyAtView (hb : s.store.block = some c) (f : TallyFrame) : ViewCourse s (tallyAtView c f s) := by
  unfold tallyAtView
  split
  · exact .kept rfl rfl
  · next cls hc =>
    split
    · exact .kept rfl rfl
    · next room => exact course_mergeIntoView hb hc (Bool.eq_false_iff.mpr room)

theorem course_takeTally (hb : s.store.block = some c) (i : Fin 16) (f : TallyFrame) :
    ViewCourse s (takeTally c i f s) := by
  have viewed := (course_tallyAtClock c f.shift s).trans
    (course_tallyAtView (s := tallyAtClock c f.shift s) (by simpa using hb) f)
  unfold takeTally
  dsimp only
  split
  · exact viewed
  · exact viewed.trans (.of_frame (by simp))

theorem course_startStation (p : ClockPos) : ViewCourse s (startStation c p s) := by
  refine (course_startClock c p s).trans (.kept ?_ ?_)
  · rw [block_startStation]; simp
  · simp [startStation]

end Stored

end Sys2Proof.Machine.VehicleView
end

section
/-! Every command but POWER_ON and LOAD_CONFIG takes the course of the view; what a step makes of it. -/

namespace Sys2Proof.Machine.VehicleView

open Sys2Proof Sys2Proof.Machine Sys2Proof.Machine.ServiceIntervals Sys2Proof.Machine.ShiftClock

theorem course_start (shift time : Nat) (s : State) : ViewCourse s (start shift time s).1 := by
  rcases start_cases shift time s with e | ⟨c, hb, -, -, e⟩ <;> rw [e]
  · exact .refl s
  · exact course_startStation _

theorem course_restart (s : State) : ViewCourse s (restart s).1 := by
  rcases restart_cases s with e | ⟨c, -, hb, e⟩ <;> rw [e]
  · exact .refl s
  · exact course_restartStation hb

/-- The requests that leave every entry. -/
theorem course_standby (s : State) : ViewCourse s (standby s).1 := by
  rcases standby_cases s with e | e <;> rw [e]
  · exact .refl s
  · unfold standbyStation
    exact course_ite (fun _ => .of_frame (by simp)) (.refl s)

theorem course_stopHose (hose : Nat) (s : State) : ViewCourse s (stopHose hose s).1 := by
  rcases stopHose_cases hose s with e | ⟨c, h, e⟩ <;> rw [e]
  · exact .refl s
  · exact .of_frame (by simp)

theorem course_clearHoseFault (hose : Nat) (s : State) : ViewCourse s (clearHoseFault hose s).1 := by
  rcases clearHoseFault_cases hose s with e | ⟨h, e⟩ <;> rw [e]
  · exact .refl s
  · exact .of_frame (by simp)

theorem course_stageAllowance (cls litres : Nat) (s : State) : ViewCourse s (stageAllowance cls litres s).1 := by
  rcases stageAllowance_cases cls litres s with e | ⟨k, e⟩ <;> rw [e]
  · exact .refl s
  · exact .of_frame (by simp)

theorem course_clearStaged (cls : Nat) (s : State) : ViewCourse s (clearStaged cls s).1 := by
  rcases clearStaged_cases cls s with e | ⟨k, e⟩ <;> rw [e]
  · exact .refl s
  · exact .of_frame (by simp)

theorem course_releaseRecord (number : Nat) (s : State) : ViewCourse s (releaseRecord number s).1 := by
  rcases releaseRecord_cases number s with e | ⟨rest, e⟩ <;> rw [e]
  · exact .refl s
  · exact .of_frame (by simp [releaseOldest])

theorem course_ackNotice (source : Nat) (s : State) : ViewCourse s (ackNotice source s).1 := by
  rcases ackNotice_cases source s with e | ⟨i, e⟩ <;> rw [e]
  · exact .refl s
  · exact .of_frame (by simp)

theorem course_setNoticeEnables (mask : Nat) (s : State) : ViewCourse s (setNoticeEnables mask s).1 := by
  rcases setNoticeEnables_cases mask s with e | e <;> rw [e]
  · exact .refl s
  · exact .of_frame (by simp)

/-- The overrun window's end charges the vehicle of the issue that it completes (R140). -/
theorem course_execOverrunWindowExpiry {hose : Nat} {s t : State} (h : execOverrunWindowExpiry hose s = .next t) :
    ViewCourse s t := by
  unfold execOverrunWindowExpiry at h
  split at h
  · rw [← next_inj h]; exact .refl s
  · next c k at_ =>
    split at h
    · rw [← next_inj h]; exact course_complete (block_of_fieldHose at_) k _
    · rw [← next_inj h]; exact .refl s

/-- What every command but POWER_ON and LOAD_CONFIG does to the entries of the view. -/
theorem exec_viewCourse {i : Instr} {s t : State} (hp : i ≠ .powerOn) (hl : isLoadConfig i = false)
    (h : exec i s = .next t) : ViewCourse s t := by
  have still : ViewCourse s s := .refl s
  have framed : ∀ {u : State}, u.store = s.store ∧ u.view = s.view → ViewCourse s u := .of_frame
  cases i with
  | powerOn => exact absurd rfl hp
  | loadConfig => cases hl
  | start shift time => rw [← next_inj h]; exact (course_start shift time s).serve
  | standby => rw [← next_inj h]; exact (course_standby s).serve
  | restart => rw [← next_inj h]; exact (course_restart s).serve
  | readStatus => rw [← next_inj h]; exact ViewCourse.serve still
  | presentVehicle hose v hours flag total preset =>
    rw [← next_inj h]; exact (course_presentVehicle hose v hours flag total preset s).serve
  | stopHose hose => rw [← next_inj h]; exact (course_stopHose hose s).serve
  | readHose hose => rw [← next_inj h]; exact ViewCourse.serve (by rwa [fst_readHose])
  | clearHoseFault hose => rw [← next_inj h]; exact (course_clearHoseFault hose s).serve
  | readVehicle v => rw [← next_inj h]; exact ViewCourse.serve (by rwa [fst_readVehicle])
  | barVehicle v => rw [← next_inj h]; exact (course_barRequest true v s).serve
  | clearBar v => rw [← next_inj h]; exact (course_barRequest false v s).serve
  | recordService v type hours flag total =>
    rw [← next_inj h]; exact (course_recordService v type hours flag total s).serve
  | stageAllowance cls litres => rw [← next_inj h]; exact (course_stageAllowance cls litres s).serve
  | clearStaged cls => rw [← next_inj h]; exact (course_clearStaged cls s).serve
  | readWatchList => rw [← next_inj h]; exact ViewCourse.serve still
  | readOldest => rw [← next_inj h]; exact ViewCourse.serve (by rwa [fst_readOldest])
  | releaseRecord n => rw [← next_inj h]; exact (course_releaseRecord n s).serve
  | readPeers group => rw [← next_inj h]; exact ViewCourse.serve (by rwa [fst_readPeers])
  | readNotices => rw [← next_inj h]; exact ViewCourse.serve (framed (by simp [readNotices, accept]))
  | ackNotice n => rw [← next_inj h]; exact (course_ackNotice n s).serve
  | setNoticeEnables m => rw [← next_inj h]; exact (course_setNoticeEnables m s).serve
  | unknownRequestKind kind => rw [← next_inj h]; exact ViewCourse.serve still
  | linkFrameDiscard cause => rw [← next_inj h]; exact framed (by simp)
  | responseBacklogDiscard => rw [← next_inj h]; exact course_ite (fun _ => framed (by simp)) still
  | beacon n p k =>
    rcases execBeacon_cases h with rfl | ⟨cause, rfl⟩ | ⟨c, i, -, -, -, rfl⟩
    · exact still
    · exact framed (by simp)
    · exact course_takeBeacon c i p k s
  | tally n f =>
    rcases execTally_cases h with rfl | ⟨cause, rfl⟩ | ⟨c, i, -, hb, -, rfl⟩
    · exact still
    · exact framed (by simp)
    · exact course_takeTally hb i f
  | radioFrameDrop cause => rw [← next_inj h]; exact course_ite (fun _ => framed (by simp)) still
  | shiftClockSecond =>
    rcases execShiftClockSecond_cases h with rfl | ⟨c, -, rfl⟩
    · exact still
    · exact course_countSecond c s
  | missTimerExpiry n =>
    rcases execMissTimerExpiry_cases h with rfl | ⟨_, rfl⟩
    · exact still
    · exact framed (by simp)
  | beaconDue =>
    rcases execBeaconDue_cases h with rfl | ⟨_, _, rfl⟩
    · exact still
    · exact framed (by simp)
  | quietTimePassed =>
    rcases execQuietTimePassed_cases h with rfl | ⟨c, n, m, rfl⟩ | ⟨c, n, rfl⟩
    · exact still
    · exact framed (by simp)
    · exact framed (by simp)
  | backoffSlotEnd =>
    rcases execBackoffSlotEnd_cases h with rfl | ⟨_, _, rfl⟩
    · exact still
    · exact framed (by simp)
  | listenTimerExpiry | tallyDue | accessLimitExpiry frame | transmissionEnd | carrierDetectFall =>
    rw [← next_inj h]; exact course_ite (fun _ => framed (by simp)) still
  | carrierDetectRise => rw [← next_inj h]; exact course_ite (fun _ => still) (framed (by simp))
  | nozzleChange hose b =>
    rcases execNozzleChange_cases h with rfl | ⟨_, _, rfl⟩
    · exact still
    · exact framed (by simp)
  | stopLineChange b =>
    rcases execStopLineChange_cases h with rfl | ⟨_, rfl⟩
    · exact still
    · exact framed (by simp)
  | meterPulse hose ticks =>
    rcases execMeterPulse_cases h with rfl | ⟨_, _, rfl⟩
    · exact still
    · exact framed (by simp)
  | authTimerExpiry hose =>
    rcases execAuthTimerExpiry_cases h with rfl | ⟨_, rfl⟩
    · exact still
    · exact framed (by simp)
  | primeWaitExpiry hose =>
    rcases execPrimeWaitExpiry_cases h with rfl | ⟨_, _, _, rfl⟩
    · exact still
    · exact framed (by simp)
  | startTimerExpiry hose =>
    rcases execStartTimerExpiry_cases h with rfl | ⟨_, _, rfl⟩
    · exact still
    · exact framed (by simp)
  | noFlowTimerExpiry hose =>
    rcases execNoFlowTimerExpiry_cases h with rfl | ⟨_, _, rfl⟩
    · exact still
    · exact framed (by simp)
  | settleTimerExpiry hose =>
    rcases execSettleTimerExpiry_cases h with rfl | ⟨_, _, rfl⟩
    · exact still
    · exact framed (by simp)
  | creepQuietTimerExpiry hose =>
    rcases execCreepQuietTimerExpiry_cases h with rfl | ⟨_, _, rfl⟩
    · exact still
    · exact framed (by simp)
  | overrunWindowExpiry hose => exact course_execOverrunWindowExpiry h
  | responseSentWhole => rw [← next_inj h]; exact framed ⟨rfl, rfl⟩

/-- Settles O58: every other command takes the course of the view, whose acts let no ordered value fall. -/
theorem orderedFieldsNeverFall : Obligations.OrderedFieldsNeverFall := by
  unfold Obligations.OrderedFieldsNeverFall
  intro i s t v e powered loaded present step
  obtain ⟨e', stored, rise⟩ := rises_of_course (exec_viewCourse powered loaded step) present
  exact ⟨e', stored, rise.hours, rise.totaliser, rise.epochs, rise.version⟩

/-- A tick leaves the view (R2). -/
theorem view_tick (s : State) : (tick s).view = s.view := by
  simp only [tick]
  rw [linkByte_frame]
  split
  · rw [radioBit_frame]
  · rfl

/-- The shift change that a new configuration can bring empties no origin list in an empty view. -/
theorem view_clockUnderConfig {c : ConfigBlock} {s : State} (empty : s.view.entries = []) :
    (clockUnderConfig c s).view = s.view := by
  have emptied : { s.view with entries := s.view.entries.map unissued } = s.view := by rw [empty, List.map_nil, ← empty]
  unfold clockUnderConfig
  dsimp only
  split
  · rfl
  · split
    · rfl
    · rw [moveClock_eq, if_pos (Nat.lt_succ_self _)]
      exact emptied

/-- A new configuration empties the view and keeps its counters (R172). -/
theorem view_installConfig (c : ConfigBlock) (s : State) :
    (installConfig c s).view = { s.view with entries := [] } := by
  have hoses : ∀ u : State, (eachHose (hoseUnderConfig c) u).view = u.view :=
    eachHose_keeps (·.view) _ fun h u => by simp
  have filters : ∀ u : State, (restartFilters u).view = u.view := fun u => by simp
  have reported : ∀ u : State, (reportHoseOut u).view = u.view := fun u => by simp
  unfold installConfig
  dsimp only
  rw [reported, hoses, filters]
  exact view_clockUnderConfig rfl

/-- The order of the view rests on the configuration in force and the entries alone. -/
theorem viewOrdered_congr {s t : State} (ordered : ViewOrdered s) (block : t.store.block = s.store.block)
    (entries : t.view.entries = s.view.entries) : ViewOrdered t :=
  viewOrdered_of_course (.kept block entries) ordered

theorem viewOrdered_of_empty {s : State} (empty : s.view.entries = []) : ViewOrdered s := by
  simp [ViewOrdered, empty]

/-- A new configuration empties the view; otherwise LOAD_CONFIG leaves it under the configuration in force (R171). -/
theorem viewOrdered_loadConfig (part : Nat) (bytes : List Byte) {s : State} (ordered : ViewOrdered s) :
    ViewOrdered (loadConfig part bytes s).1 := by
  rcases partsTaken_loadConfig part bytes s with ⟨store, block, e⟩ | ⟨p1, p2, -, -, e⟩ <;> rw [e]
  · exact viewOrdered_congr ordered block rfl
  · exact viewOrdered_of_empty (by rw [view_installConfig])

theorem viewOrdered_serve {kind : Nat} {s : State} {request : State → Reply} (ordered : ViewOrdered s)
    (answered : ViewOrdered (request s).1) : ViewOrdered (serve kind s request) := by
  unfold Machine.serve
  split
  · exact viewOrdered_congr ordered (by simp) (by simp)
  · exact viewOrdered_congr answered rfl rfl

theorem exec_viewOrdered {i : Instr} {s t : State} (ordered : ViewOrdered s) (h : exec i s = .next t) :
    ViewOrdered t := by
  by_cases powered : i = .powerOn
  · subst powered
    rw [← next_inj h]
    exact TerminalLink.viewOrdered_powerOn s
  · cases loaded : isLoadConfig i with
    | false => exact viewOrdered_of_course (exec_viewCourse powered loaded h) ordered
    | true =>
      cases i with
      | loadConfig part bytes =>
        rw [← next_inj h]
        exact viewOrdered_serve ordered (viewOrdered_loadConfig part bytes ordered)
      | _ => cases loaded

/-- Settles O52: a step is a command or a tick; a command takes the course of the view or empties it, and a tick leaves it. -/
theorem stepKeepsView : Obligations.StepKeepsView := by
  unfold Obligations.StepKeepsView
  intro s t _ ordered h
  rcases step_cases s with ⟨c, rest, -, e⟩ | ⟨-, c, m, e⟩ | ⟨-, e⟩ <;> rw [e] at h
  · exact exec_viewOrdered (s := { s with pending := rest }) (viewOrdered_congr ordered rfl rfl) h
  · exact exec_viewOrdered (s := { s with model := m }) (viewOrdered_congr ordered rfl rfl) h
  · rw [← next_inj h]
    exact viewOrdered_congr ordered (by simp) (by rw [view_tick])

end Sys2Proof.Machine.VehicleView
end

section
/-! A tally of another shift meeting an origin-full counter above 65,535: the merge adds the entries it skipped, none, in the
saturating counter, and so brings the counter to 65,535 (R13, R17). -/

namespace Sys2Proof.Machine.VehicleView

open Sys2Proof Sys2Proof.Machine

/-- A running station whose origin-full counter stands above the saturation of its width. -/
def overfullCounter : State :=
  { Tests.joined with view := { Tests.joined.view with originFull := 65536 } }

/-- A tally of vehicle 877 from the shift before the clock's, with nothing in it. -/
def staleTally : TallyFrame := tallyOf 811 (newEntry 877 2)

theorem viewOrdered_overfullCounter : ViewOrdered overfullCounter := viewOrdered_of_empty rfl

theorem configSound_overfullCounter : ConfigSound overfullCounter := by
  refine ⟨fun c hb => ?_, fun _ => rfl, by unfold within; decide⟩
  obtain rfl : Tests.cfg = c := Option.some.inj hb
  exact Tests.inRange_cfg

theorem originFull_staleTally : (match exec (.tally 9 staleTally) overfullCounter with
    | .next t => t.view.originFull == 65535
    | _ => false) = true := by decide

/-- Refutes O28: no premise bounds the origin-full counter, and at 65,536 a tally of another shift, which skips nothing,
brings it down to 65,535. -/
theorem not_tallyMerged : ¬ Obligations.TallyMerged := by
  unfold Obligations.TallyMerged
  intro claim
  obtain ⟨t, e, step, -, -, -, -, -, stale, -⟩ := claim overfullCounter Tests.cfg 8 staleTally 2 (newEntry 877 2) [] 812
    (by decide) rfl configSound_overfullCounter viewOrdered_overfullCounter (by decide) (by decide) (fun _ => by decide)
    rfl rfl rfl
  have kept : t.view.originFull = 65536 := (stale (by decide)).2.1
  have counted := originFull_staleTally
  rw [show (9 : Nat) = (8 : Fin 16).val + 1 from rfl, step] at counted
  simp [kept] at counted

end Sys2Proof.Machine.VehicleView
end

section
/-! POWER_ON, READ_VEHICLE, and the frames that the station drops (R9, R23, R82, R177). -/

namespace Sys2Proof.Machine.VehicleView

open Sys2Proof Sys2Proof.Machine Sys2Proof.Machine.ServiceIntervals Sys2Proof.Machine.ShiftClock

/-! ### POWER_ON -/

theorem hose_powerOn (s : State) (h : Fin 4) : (powerOn s).hose h =
    Hose.powerOn (s.hose h).nozzle.level (s.hose h).meterInput.level := by
  simp [powerOn, State.powerOn, State.hose, mapTable]

/-- Settles O4: the power-on state, block by block. -/
theorem powerOnState : Obligations.PowerOnState := by
  unfold Obligations.PowerOnState
  intro s
  have tag : within 1 65535 (powerOn s).store.startTag := (TerminalLink.configSound_powerOn s).2.2
  have tables : ∀ k : Fin 8, (powerOn s).clock.active[k] = 0 ∧ (powerOn s).clock.staged[k] = none := fun k => by
    simp [powerOn, State.powerOn]
  have peers : ∀ i : Fin 16, (powerOn s).net.peers[i] = Peer.cleared := fun i => by simp [powerOn, State.powerOn]
  have notices : ∀ i : Fin 12, (powerOn s).notices.entries[i] = NoticeEntry.powerOn := fun i => by
    simp [powerOn, State.powerOn]
  refine ⟨powerOn s, rfl, rfl, rfl, rfl, rfl, tag, rfl, rfl, rfl, rfl, rfl, rfl, tables, rfl, rfl, rfl, peers,
    rfl, rfl, rfl, rfl, rfl, rfl, rfl, rfl, rfl, rfl, rfl, rfl, rfl, rfl, rfl, fun h => ?_, rfl, rfl, rfl, rfl, rfl,
    notices⟩
  rw [hose_powerOn]
  exact ⟨rfl, rfl, rfl, rfl, rfl, rfl, rfl, rfl⟩

/-! ### READ_VEHICLE -/

theorem exec_readVehicle {s t : State} {v : Nat} {r : Result} {payload : List Byte} (h : s.canAnswer)
    (e : readVehicle v s = (t, r, payload)) : exec (.readVehicle v) s = .next (t.respond 0x20 r payload) :=
  congrArg Host.Outcome.next (serve_answered h e)

/-- Settles O17: a number out of range or without an entry is refused, and an entry is answered field by field on the state as
it stands. -/
theorem readVehicleReports : Obligations.ReadVehicleReports := by
  unfold Obligations.ReadVehicleReports
  refine ⟨rfl, fun s v answers => ⟨fun out => ?_, fun low high absent => ?_, fun e low high present => ?_⟩⟩
  · exact exec_readVehicle answers (by simp [readVehicle, badVehicle_true out, refuse])
  · exact exec_readVehicle answers (by simp [readVehicle, badVehicle_false low high, absent, refuse])
  · have answered : readVehicle v s = (s, .ok, vehicleFields e) := by
      simp [readVehicle, badVehicle_false low high, present, accept]
    have origins : originField = fun o : OriginEntry => fieldBytes [(1, o.station), (2, o.tag), (4, o.amount)] :=
      funext PitNet.originField_eq
    rw [exec_readVehicle answers answered, vehicleFields, serviceReports_eq, PitNet.barField_eq, origins]
    cases e.hours with
    | none =>
      cases e.totaliser with
      | none => simp [registerField]
      | some r => simp [registerField]
    | some q =>
      cases e.totaliser with
      | none => simp [registerField]
      | some r => simp [registerField]

/-! ### Frames dropped -/

theorem exec_radioFrameDrop {s : State} (running : s.net.state ≠ .standby) (cause : DropCause) :
    exec (.radioFrameDrop cause) s = .next (countDrop cause s) :=
  congrArg Host.Outcome.next (if_pos (running_true running))

/-- Every cause but the CRC counts as malformed (R82). -/
theorem countDrop_malformed {cause : DropCause} (other : cause ≠ .crc) (s : State) : countDrop cause s =
    { s with radio := { s.radio with malformed := min 65535 (s.radio.malformed + 1) } } := by
  cases cause with
  | crc => exact absurd rfl other
  | _ => rfl

section Received

variable {s : State} {c : ConfigBlock}

theorem exec_tally_malformed (running : s.net.state ≠ .standby) (hb : s.store.block = some c) {n : Nat} {f : TallyFrame}
    (out : n = 0 ∨ 16 < n ∨ f.inRange c.shiftLength = false) : exec (.tally n f) s =
      .next { s with radio := { s.radio with malformed := min 65535 (s.radio.malformed + 1) } } := by
  change execTally n f s = _
  simp only [execTally, running_true running, hb]
  split
  · rfl
  · next i found =>
    have bad : f.inRange c.shiftLength = false := by
      rcases out with zero | high | bad
      · rw [indexOf_none (.inl zero)] at found; cases found
      · rw [indexOf_none (.inr high)] at found; cases found
      · exact bad
    rw [if_neg (by simp [bad])]
    rfl

theorem beaconInRange_false {l : Nat} {pos : ClockPos} {interval : Nat} (out : l ≤ pos.time ∨ 16777215 < pos.shift ∨
    interval < 5 ∨ 60 < interval) : beaconInRange l pos interval = false := by
  simp only [beaconInRange, u24Max, Bool.and_eq_false_iff, decide_eq_false_iff_not]
  omega

theorem exec_beacon_malformed (running : s.net.state ≠ .standby) (hb : s.store.block = some c) {n interval : Nat}
    {pos : ClockPos} (out : n = 0 ∨ 16 < n ∨ c.shiftLength ≤ pos.time ∨ 16777215 < pos.shift ∨ interval < 5 ∨
      60 < interval) : exec (.beacon n pos interval) s =
      .next { s with radio := { s.radio with malformed := min 65535 (s.radio.malformed + 1) } } := by
  change execBeacon n pos interval s = _
  simp only [execBeacon, running_true running, hb]
  split
  · rfl
  · next i found =>
    have bad : beaconInRange c.shiftLength pos interval = false := by
      rcases out with zero | high | bad
      · rw [indexOf_none (.inl zero)] at found; cases found
      · rw [indexOf_none (.inr high)] at found; cases found
      · exact beaconInRange_false bad
    rw [if_neg (by simp [bad])]
    rfl

/-! ### Tallies taken -/

theorem exec_tally (i : Fin 16) {f : TallyFrame} (running : s.net.state ≠ .standby) (hb : s.store.block = some c)
    (range : f.inRange c.shiftLength = true) : exec (.tally (i.val + 1) f) s = .next (takeTally c i f s) := by
  change execTally (i.val + 1) f s = _
  simp only [execTally, running_true running, hb, indexOf_succ, range, if_true]

/-- A tally one shift ahead has the effects of a shift change (R50, R51). -/
theorem tallyAtClock_ahead {shift : Nat} (ahead : shift = s.clock.pos.shift + 1) :
    tallyAtClock c shift s = shiftEffects (placeClock c ⟨shift, 0⟩ s) := by
  rw [tallyAtClock, if_pos ahead, moveClock_eq, if_pos (by simp [ahead])]

theorem tallyAtClock_other {shift : Nat} (other : shift ≠ s.clock.pos.shift + 1) : tallyAtClock c shift s = s :=
  if_neg other

/-- The clock after the tally that brings the next shift: at its first second, the staged allowances active (R51). -/
theorem clock_tally_ahead {i : Fin 16} {f : TallyFrame} (ahead : f.shift = s.clock.pos.shift + 1) :
    (takeTally c i f s).clock.pos = ⟨f.shift, 0⟩ ∧ (takeTally c i f s).clock.phase = 0 ∧
    (takeTally c i f s).clock.reject = s.clock.reject ∧ (takeTally c i f s).clock.set = s.clock.set ∧
    ∀ k : Fin 8, (takeTally c i f s).clock.active[k] = s.clock.staged[k].getD s.clock.active[k] ∧
      (takeTally c i f s).clock.staged[k] = none := by
  rw [clock_takeTally, tallyAtClock_ahead ahead]
  exact ⟨rfl, rfl, rfl, rfl, fun k => by simp [shiftEffects]⟩

theorem clock_tally_other {i : Fin 16} {f : TallyFrame} (other : f.shift ≠ s.clock.pos.shift + 1) :
    (takeTally c i f s).clock = s.clock := by
  rw [clock_takeTally, tallyAtClock_other other]

/-- A tally of the own number touches no peer, and any other the sender's entry alone (R64, R65). -/
theorem net_takeTally (i : Fin 16) (f : TallyFrame) :
    (i.val + 1 = c.station → (takeTally c i f s).net = s.net) ∧
    (i.val + 1 ≠ c.station → (takeTally c i f s).net =
      { s.net with peers := s.net.peers.set i s.net.peers[i].heard }) := by
  constructor
  · intro own
    simp [takeTally, own]
  · intro other
    simp [takeTally, other, State.mapPeer]

theorem peer_takeTally {i : Fin 16} (other : i.val + 1 ≠ c.station) (f : TallyFrame) :
    (takeTally c i f s).net.peers[i] = { s.net.peers[i] with
      frames := min 65535 (s.net.peers[i].frames + 1), since := some 0 } ∧
    ∀ j : Fin 16, j ≠ i → (takeTally c i f s).net.peers[j] = s.net.peers[j] := by
  rw [(net_takeTally i f).2 other]
  exact ⟨(PeersAndNet.getElem_set _ i i _).trans (if_pos rfl),
    fun j distinct => (PeersAndNet.getElem_set _ i j _).trans (if_neg distinct)⟩

theorem takeTally_view (i : Fin 16) (f : TallyFrame) :
    (takeTally c i f s).view = (tallyAtView c f (tallyAtClock c f.shift s)).view ∧
    (takeTally c i f s).notices = (tallyAtView c f (tallyAtClock c f.shift s)).notices ∧
    (takeTally c i f s).radio = (tallyAtView c f (tallyAtClock c f.shift s)).radio ∧
    (takeTally c i f s).watch = (tallyAtView c f (tallyAtClock c f.shift s)).watch ∧
    (takeTally c i f s).hoses = (tallyAtView c f (tallyAtClock c f.shift s)).hoses ∧
    (takeTally c i f s).field = (tallyAtView c f (tallyAtClock c f.shift s)).field ∧
    (takeTally c i f s).records = (tallyAtView c f (tallyAtClock c f.shift s)).records := by
  unfold takeTally
  dsimp only
  split
  · exact ⟨rfl, rfl, rfl, rfl, rfl, rfl, rfl⟩
  · simp

/-- The view a tally finds once the clock has examined it (R12, R51). -/
theorem view_tallyAtClock {shift : Nat} {ahead : Prop} {entries : List VehicleEntry}
    (means : ahead ↔ shift = s.clock.pos.shift + 1)
    (moved : ahead → entries = s.view.entries.map fun e => { e with origins := [] })
    (kept : ¬ ahead → entries = s.view.entries) :
    (tallyAtClock c shift s).view = { s.view with entries := entries } := by
  by_cases next_shift : shift = s.clock.pos.shift + 1
  · rw [tallyAtClock_ahead next_shift, moved (means.mpr next_shift)]
    rfl
  · rw [tallyAtClock_other next_shift, kept (mt means.mp next_shift)]

/-- A shift change brings no vehicle into the view and takes none out. -/
theorem noRoomFor_tallyAtClock {shift v : Nat} (full : s.entry v = none ∧ 256 ≤ s.view.entries.length) :
    (tallyAtClock c shift s).noRoomFor v = true := by
  rw [noRoomFor_iff]
  by_cases ahead : shift = s.clock.pos.shift + 1
  · have emptied : (tallyAtClock c shift s).view.entries = s.view.entries.map unissued := by
      rw [tallyAtClock_ahead ahead]; rfl
    have absent : (s.entry v).map unissued = none := by rw [full.1]; rfl
    rw [State.entry, emptied, find_map_unissued, List.length_map]
    exact ⟨absent, full.2⟩
  · rw [tallyAtClock_other ahead]
    exact full

/-- A tally of no class is counted, and nothing else of the view moves (R12 stage 2). -/
theorem tallyAtView_noClass {f : TallyFrame} (unknown : classOf c f.vehicle = none) (s : State) : tallyAtView c f s =
    { s with view := { s.view with noClass := min 65535 (s.view.noClass + 1) } } := by
  rw [tallyAtView, unknown]; rfl

/-- A tally that needs an entry in a full view is counted, and VIEW_FULL raised (R12 stage 3). -/
theorem tallyAtView_full {f : TallyFrame} {cls : Fin 8} (known : classOf c f.vehicle = some cls)
    (full : s.noRoomFor f.vehicle = true) : tallyAtView c f s =
      raise .viewFull { s with view := { s.view with viewFull := min 65535 (s.view.viewFull + 1) } } := by
  rw [tallyAtView, known]
  dsimp only
  rw [if_pos full]
  rfl

theorem raised_of_notices {src : NoticeSource} {s u t : State} (start : u.notices = s.notices)
    (after : t.notices = (raise src u).notices) : Raised src s t := by
  have raised := raised_raise src u
  rw [start] at raised
  rwa [Raised, after]

end Received

/-- Settles O30: a drop is counted; a tally is dealt with by the clock, and then by the view, which takes neither one of no
class nor one that finds no room. -/
theorem framesDropped : Obligations.FramesDropped := by
  unfold Obligations.FramesDropped
  intro s c running hb
  refine ⟨exec_radioFrameDrop running .crc, fun cause other => ?_, fun n f out => exec_tally_malformed running hb out,
    fun n pos interval out => exec_beacon_malformed running hb out,
    fun i f ahead entries range means moved kept unplaced => ?_⟩
  · rw [exec_radioFrameDrop running, countDrop_malformed other]
  · have entered := view_tallyAtClock (c := c) means moved kept
    obtain ⟨view, notices, radio, watch, hoses, field, records⟩ := takeTally_view (c := c) (s := s) i f
    have clock : (¬ ahead → (takeTally c i f s).clock = s.clock) ∧
        (ahead → (takeTally c i f s).clock.pos = ⟨f.shift, 0⟩ ∧ (takeTally c i f s).clock.phase = 0 ∧
          (takeTally c i f s).clock.reject = s.clock.reject ∧
          ∀ k : Fin 8, (takeTally c i f s).clock.active[k] = s.clock.staged[k].getD s.clock.active[k] ∧
            (takeTally c i f s).clock.staged[k] = none) := by
      refine ⟨fun still => clock_tally_other (mt means.mpr still), fun next_shift => ?_⟩
      obtain ⟨pos, phase, reject, -, allowances⟩ := clock_tally_ahead (c := c) (i := i) (means.mp next_shift)
      exact ⟨pos, phase, reject, allowances⟩
    have peers : i.val + 1 ≠ c.station → (takeTally c i f s).net.peers[i] = { s.net.peers[i] with
          frames := min 65535 (s.net.peers[i].frames + 1), since := some 0 } ∧
        (∀ j : Fin 16, j ≠ i → (takeTally c i f s).net.peers[j] = s.net.peers[j]) ∧
        (takeTally c i f s).net.state = s.net.state ∧ (takeTally c i f s).net.listen = s.net.listen ∧
        (takeTally c i f s).net.clash = s.net.clash := fun other => by
      obtain ⟨own, rest⟩ := peer_takeTally (s := s) other f
      have net := (net_takeTally (c := c) (s := s) i f).2 other
      exact ⟨own, rest, by rw [net], by rw [net], by rw [net]⟩
    have framed : (takeTally c i f s).radio = s.radio ∧ (takeTally c i f s).watch = s.watch ∧
        (takeTally c i f s).store = s.store ∧ KeepsForecourt s (takeTally c i f s) := by
      rw [radio, watch, KeepsForecourt, hoses, field, records]
      cases known : classOf c f.vehicle with
      | none => rw [tallyAtView_noClass known]; simp
      | some cls =>
        have full := unplaced.resolve_left (by rw [known]; exact nofun)
        rw [tallyAtView_full known (noRoomFor_tallyAtClock full)]
        simp
    refine ⟨takeTally c i f s, exec_tally i running hb range, fun unknown => ?_, fun known => ?_, clock.1, clock.2,
      (net_takeTally i f).1, peers, framed⟩
    · rw [notices, view, tallyAtView_noClass unknown, entered]
      exact ⟨by simp, rfl⟩
    · obtain ⟨cls, known⟩ := Option.ne_none_iff_exists'.mp known
      have full := unplaced.resolve_left (by rw [known]; exact nofun)
      have dropped := tallyAtView_full known (noRoomFor_tallyAtClock (c := c) (shift := f.shift) full)
      rw [dropped] at notices view
      refine ⟨raised_of_notices (by simp) notices, ?_⟩
      have raised : ∀ u : State, (raise .viewFull u).view = u.view := fun u => by simp
      rw [view, raised, entered]

end Sys2Proof.Machine.VehicleView
end

section
/-! PRESENT_VEHICLE accepted (R131, R132). -/

namespace Sys2Proof.Machine.VehicleView

open Sys2Proof Sys2Proof.Machine Sys2Proof.Machine.ServiceIntervals

section Presented

variable {s : State} {c : ConfigBlock} {h : Fin 4} {p : Presentation} {e : VehicleEntry}

/-- Past checks 13 to 16 a presentation is accepted. -/
theorem presentReadings_accepted {k : PresentCheck} (hk : k = presentCheck c p e s) (hours : k.hours ≠ .implausible)
    (totaliser : k.totaliser ≠ .implausible) (place : hasOwn s e.origins = true ∨ e.origins.length < 16)
    (enough : c.minimumIssue * 100 ≤ k.limit) :
    presentReadings c h p e s = (acceptPresentation c h p e k s, .ok, presentResponse c k) := by
  have room : (!hasOwn s e.origins && decide (originRoom ≤ e.origins.length)) = false := by
    rcases place with own | short
    · simp [own]
    · have fits : decide (originRoom ≤ e.origins.length) = false := decide_eq_false (Nat.not_le.mpr short)
      rw [fits, Bool.and_false]
  simp only [presentReadings, ← hk, hours, totaliser, room, Nat.not_lt.mpr enough, if_false, Bool.false_eq_true, accept]

/-- An entry of amount 0 leaves the shift total (R4). -/
theorem shiftTotal_insertOrigin_zero (station tag : Nat) (l : List OriginEntry) :
    shiftTotal (insertOrigin ⟨station, tag, 0⟩ l) = shiftTotal l := by
  induction l with
  | nil => rfl
  | cons x l ih =>
    unfold insertOrigin
    split
    · simp [shiftTotal]
    · simpa [shiftTotal] using ih

/-- The list of an accepted presentation holds the own origin entry, with the shift total that it had (R10, R131). -/
theorem origins_presentedEntry :
    hasOwn s (presentedEntry c p e s).origins = true ∧
    shiftTotal (presentedEntry c p e s).origins = shiftTotal e.origins := by
  unfold presentedEntry
  dsimp only
  split
  · next own => exact ⟨own, rfl⟩
  · next absent =>
    have member : ∀ o, o ∈ insertOwn s 0 e.origins ↔ o = ⟨s.stationNumber, s.store.startTag, 0⟩ ∨ o ∈ e.origins :=
      fun o => mem_insertOrigin _ o _
    refine ⟨?_, shiftTotal_insertOrigin_zero _ _ _⟩
    rw [hasOwn, List.any_eq_true]
    exact ⟨_, (member _).mpr (.inl rfl), (keyIs_iff _ _ _).mpr ⟨rfl, rfl⟩⟩

theorem totaliser_presentedEntry (v hours flag total preset : Nat) :
    (presentedEntry c ⟨v, hours, givenReading flag total, preset⟩ e s).totaliser =
      if flag ≠ 0 ∧ (presentCheck c ⟨v, hours, givenReading flag total, preset⟩ e s).totaliser = .rise
      then some ⟨total, s.clock.pos⟩ else e.totaliser := by
  unfold presentedEntry presentCheck givenReading
  by_cases given : flag = 0
  · simp [given, takeOptional]
  · simp [given, takeOptional, takeReading]

/-- The entry after an accepted presentation: as the view held it, or changed and queued (R20, R131). -/
theorem entry_storePresented {cls : Fin 8} (he : e = s.entryOrNew p.vehicle cls) :
    ∃ e', (storePresented c p e s).entry p.vehicle = some e' ∧
      (e' = presentedEntry c p e s ∨ e' = withUsage c (presentedEntry c p e s)) ∧
      (s.entry p.vehicle = some e' ∨ queued (storePresented c p e s).radio.queue p.vehicle = true) := by
  have number : (presentedEntry c p e s).number = p.vehicle := by rw [he]; exact number_entryOrNew ..
  unfold storePresented
  dsimp only
  split
  · refine ⟨withUsage c (presentedEntry c p e s), ?_, .inr rfl, .inr ?_⟩
    · rw [entry_changeEntry, if_pos number.symm]
    · have queued := queued_changeEntry c (presentedEntry c p e s) s
      rwa [number] at queued
  · next unchanged =>
    simp only [Bool.or_eq_true, not_or, Option.isNone_iff_eq_none, bne_iff_ne, ne_eq, not_not] at unchanged
    obtain ⟨present, same⟩ := unchanged
    obtain ⟨x, present⟩ := Option.ne_none_iff_exists'.mp present
    have own : x = e := by rw [he, State.entryOrNew, present]; rfl
    exact ⟨x, present, .inl (own.trans same.symm), .inl present⟩

/-- The hose of an accepted presentation (R131, R132). -/
theorem ctl_acceptPresentation (c : ConfigBlock) (h : Fin 4) (p : Presentation) (e : VehicleEntry) (k : PresentCheck)
    (s : State) : ((acceptPresentation c h p e k s).hose h).ctl.state = .authorized ∧
      ((acceptPresentation c h p e k s).hose h).ctl.authTimer = some (c.authTime * 100000) ∧
      (acceptPresentation c h p e k s).context h = some (contextOf c p e k s) := by
  simp [acceptPresentation, State.context, ctl_enterState, second]

theorem others_acceptPresentation (c : ConfigBlock) (p : Presentation) (e : VehicleEntry) (k : PresentCheck) (s : State)
    {j : Fin 4} (other : j ≠ h) : ((acceptPresentation c h p e k s).hose j).same (s.hose j) := by
  have stored : (storePresented c p e s).hose j = s.hose j := by simp [State.hose]
  refine Hose.same_of ?_
  simp [acceptPresentation, other, stored]

/-- The pump-run output is driven as the demand asks, to which an idle hose and an authorised one add nothing (R109). -/
theorem pumpRun_acceptPresentation (c : ConfigBlock) (p : Presentation) (e : VehicleEntry) (k : PresentCheck)
    (idle : (s.hose h).ctl.state = .idle) : (acceptPresentation c h p e k s).field.pumpRun = s.pumpDemand := by
  have driven : (acceptPresentation c h p e k s).field.pumpRun = (acceptPresentation c h p e k s).pumpDemand :=
    FieldLines.pumpRun_enterState _ _ _
  rw [driven, Bool.eq_iff_iff, FieldLines.pumpDemand_iff, FieldLines.pumpDemand_iff]
  refine exists_congr fun j => ?_
  by_cases own : j = h
  · subst own
    simp [(ctl_acceptPresentation c j p e k s).1, idle]
  · rw [(others_acceptPresentation c p e k s own).1]

end Presented

/-- Settles O13: every check passed, the presentation is accepted as one act. -/
theorem presentAccepted : Obligations.PresentAccepted := by
  unfold Obligations.PresentAccepted
  intro s c h v hours flag total preset cls e k answers running hb low high hours_top flag_top total_top preset_top fitted
    idle hung clear room hc free space he bar hk hours_ok total_ok place enough
  obtain ⟨p, hp⟩ : ∃ p : Presentation, p = ⟨v, hours, givenReading flag total, preset⟩ := ⟨_, rfl⟩
  have hk : k = presentCheck c p e s := by rw [hp]; exact hk
  have reached := presentVehicle_passed (h := h) (e := e) (preset := preset)
    ⟨running, hb, ⟨low, high⟩, fitted, idle, hung, clear, room, ⟨cls, hc, he⟩, free, space, bar⟩
    ⟨hours_top, flag_top, total_top⟩ preset_top
  rw [← hp, presentReadings_accepted hk hours_ok total_ok place enough] at reached
  obtain ⟨state, timer, context⟩ := ctl_acceptPresentation c h p e k s
  obtain ⟨e', stored, same, changed⟩ := entry_storePresented (c := c) (s := s) (e := e) (p := p) (by rw [hp]; exact he)
  obtain ⟨own, amounts⟩ := origins_presentedEntry (c := c) (s := s) (p := p) (e := e)
  have totaliser : (presentedEntry c p e s).totaliser = _ := hp ▸ totaliser_presentedEntry v hours flag total preset
  rw [← hk] at totaliser
  have fields : hasOwn s e'.origins = true ∧ shiftTotal e'.origins = shiftTotal e.origins ∧
      e'.hours = (if k.hours = .rise then some ⟨hours, s.clock.pos⟩ else e.hours) ∧
      e'.totaliser = (if flag ≠ 0 ∧ k.totaliser = .rise then some ⟨total, s.clock.pos⟩ else e.totaliser) ∧
      e'.services = e.services ∧ e'.bar = e.bar := by
    have presented : (presentedEntry c p e s).hours =
        if k.hours = .rise then some ⟨hours, s.clock.pos⟩ else e.hours := by rw [hk, hp]; rfl
    rcases same with rfl | rfl
    · exact ⟨own, amounts, presented, totaliser, rfl, rfl⟩
    · exact ⟨own, amounts, presented, totaliser, rfl, rfl⟩
  have response : presentResponse c k = fieldBytes [(4, k.limit), (1, k.bound.code), (4, k.limit - c.slowdown * 100),
      (1, k.worst.code), (1, (if k.hours = .regression then 1 else 0) + (if k.totaliser = .regression then 2 else 0))] := by
    have flags : readingFlags (decide (k.hours = .regression)) (decide (k.totaliser = .regression)) =
        (if k.hours = .regression then 1 else 0) + (if k.totaliser = .regression then 2 else 0) := by
      by_cases a : k.hours = .regression <;> by_cases b : k.totaliser = .regression <;> simp [readingFlags, a, b]
    simp [presentResponse, slowPointOf, flags]
  obtain ⟨held, amounts, hours_eq, totaliser_eq, services, barred⟩ := fields
  have records : (acceptPresentation c h p e k s).records =
      { s.records with reservations := s.records.reservations + 1 } := by simp [acceptPresentation, takeReservation]
  have entry : (acceptPresentation c h p e k s).entry p.vehicle = some e' := by
    simpa [acceptPresentation, State.entry] using stored
  have report : s.entry p.vehicle = some e' ∨
      queued (acceptPresentation c h p e k s).radio.queue p.vehicle = true := by
    simpa [acceptPresentation] using changed
  have others := fun j other => others_acceptPresentation (h := h) (j := j) c p e k s other
  have pump := pumpRun_acceptPresentation c p e k idle
  obtain ⟨-, store, clock, net, link, -⟩ := acceptPresentation_frame c h p e k s
  have frozen : contextOf c p e k s = contextOf c ⟨v, hours, givenReading flag total, preset⟩ e k s := by rw [hp]
  rw [frozen] at context
  rw [show p.vehicle = v by rw [hp]] at entry report
  rw [response] at reached
  generalize acceptPresentation c h p e k s = t at *
  refine ⟨_, e', exec_presentVehicle answers reached, ?_⟩
  simp only [State.context, hose_respond, entry_respond, respond_frame, link]
  exact ⟨state, timer, context, records, entry, held, amounts, hours_eq, totaliser_eq, services, barred, report, others,
    store, clock, net, pump, trivial⟩

end Sys2Proof.Machine.VehicleView
end

section
/-! BAR_VEHICLE and CLEAR_BAR (R21, R22), with what a bar turned barred does to the vehicle's issue. -/

namespace Sys2Proof.Machine.VehicleView

open Sys2Proof Sys2Proof.Machine Sys2Proof.Machine.ServiceIntervals

/-! ### The notices that the operations of an entry and of an issue move -/

section Notices

variable (j : Fin 12)

theorem notices_updateWatch (c : ConfigBlock) (e : VehicleEntry) (s : State) (watch : j ≠ 4) (overdue : j ≠ 11) :
    (updateWatch c e s).notices.entries[j] = s.notices.entries[j] := by
  have not_watch : j.val ≠ NoticeSource.watchChanged.index.val := fun h => watch (Fin.ext h)
  have not_overdue : j.val ≠ NoticeSource.overduePresent.index.val := fun h => overdue (Fin.ext h)
  simp only [updateWatch, Fin.getElem_fin, entries_report, if_neg not_overdue]
  split
  · rw [entries_raise, if_neg not_watch]
  · rfl

theorem notices_storeEntry (c : ConfigBlock) (e : VehicleEntry) (s : State) (watch : j ≠ 4) (overdue : j ≠ 11) :
    (storeEntry c e s).notices.entries[j] = s.notices.entries[j] := by
  unfold storeEntry
  dsimp only
  split
  · simp
  · rw [notices_updateWatch j _ _ _ watch overdue]
    simp

theorem notices_changeEntry (c : ConfigBlock) (e : VehicleEntry) (s : State) (watch : j ≠ 4) (overdue : j ≠ 11) :
    (changeEntry c e s).notices.entries[j] = s.notices.entries[j] := by
  rw [changeEntry, ← notices_storeEntry j c e s watch overdue]
  simp

theorem notices_cancel (h : Fin 4) (s : State) (guard : j ≠ 2) :
    (cancel h s).notices.entries[j] = s.notices.entries[j] :=
  notices_enterState _ _ _ j.val j.isLt fun e => guard (Fin.ext e)

theorem notices_close (c : ConfigBlock) (h : Fin 4) (r : EndReason) (s : State) (guard : j ≠ 2) :
    (close c h r s).notices.entries[j] = s.notices.entries[j] :=
  notices_enterState _ _ _ j.val j.isLt fun e => guard (Fin.ext e)

theorem notices_endIssue (c : ConfigBlock) (h : Fin 4) (r : EndReason) (s : State) (guard : j ≠ 2) :
    (endIssue c h r s).notices.entries[j] = s.notices.entries[j] := by
  unfold endIssue
  split
  · exact notices_cancel j h s guard
  · split
    · exact notices_close j c h r s guard
    · rfl

theorem notices_barEndsIssue (c : ConfigBlock) (v : Nat) (s : State) (guard : j ≠ 2) :
    (barEndsIssue c v s).notices.entries[j] = s.notices.entries[j] := by
  refine eachHose_keeps (fun u => u.notices.entries[j]) (barHose c v) (fun h u => ?_) s
  unfold barHose
  split
  · rfl
  · split
    · exact notices_endIssue j c h _ u guard
    · rfl

end Notices

/-! ### A bar turned barred (R22) -/

section Barred

variable (c : ConfigBlock) (v : Nat) (s : State)

/-- The committed records are kept; with no hose in AUTHORIZED so are the reservations. -/
theorem records_endIssue (h : Fin 4) (r : EndReason) :
    (endIssue c h r s).records.records = s.records.records ∧
    ((s.hose h).ctl.state ≠ .authorized → (endIssue c h r s).records = s.records) := by
  unfold endIssue
  split
  · next authorized =>
    rw [(HoseCourse.cancel_issue h s).2.2.1]
    exact ⟨rfl, fun other => absurd authorized other⟩
  · split
    · simp
    · exact ⟨rfl, fun _ => rfl⟩

/-- Where an issue ends, no hose comes to be AUTHORIZED. -/
theorem unauthorized_endIssue (h : Fin 4) (r : EndReason) (none_held : ∀ k, (s.hose k).ctl.state ≠ .authorized)
    (k : Fin 4) : ((endIssue c h r s).hose k).ctl.state ≠ .authorized := by
  by_cases own : k = h
  · subst own
    obtain ⟨-, closes, stays, -⟩ := FieldLines.endIssue_own (s := s) (c := c) (h := k) r
    cases issuing : (s.hose k).ctl.state.issuing with
    | true => rw [closes issuing]; exact nofun
    | false => rw [stays (none_held k) issuing]; exact none_held k
  · rw [(endIssue_others c r h k s own).1]
    exact none_held k

theorem records_barEndsIssue : (barEndsIssue c v s).records.records = s.records.records ∧
    ((∀ h : Fin 4, (s.hose h).ctl.state ≠ .authorized) → (barEndsIssue c v s).records = s.records) := by
  constructor
  · refine eachHose_keeps (fun u => u.records.records) (barHose c v) (fun h u => ?_) s
    unfold barHose
    split
    · rfl
    · split
      · exact (records_endIssue c u h _).1
      · rfl
  · intro none_held
    refine (eachHose_inv (fun u => (∀ h : Fin 4, (u.hose h).ctl.state ≠ .authorized) ∧ u.records = s.records)
      (barHose c v) (fun h u inv => ?_) s ⟨none_held, rfl⟩).2
    obtain ⟨free, kept⟩ := inv
    unfold barHose
    split
    · exact ⟨free, kept⟩
    · split
      · exact ⟨unauthorized_endIssue c u h _ free, ((records_endIssue c u h _).2 (free h)).trans kept⟩
      · exact ⟨free, kept⟩

variable {c v s} {h : Fin 4}

theorem same_trans {x y z : Hose} (a : x.same y) (b : y.same z) : x.same z := by
  obtain ⟨a1, a2, a3, a4, a5⟩ := a
  obtain ⟨b1, b2, b3, b4, b5⟩ := b
  exact ⟨a1.trans b1, a2.trans b2, a3.trans b3, a4.trans b4, a5.trans b5⟩

/-- A bar acts on one hose at a time: on each it finds that hose as it was. -/
theorem barEndsIssue_at (c : ConfigBlock) (v : Nat) (h : Fin 4) (s : State) :
    ∃ u, (u.hose h).same (s.hose h) ∧ ((barEndsIssue c v s).hose h).same ((barHose c v h u).hose h) := by
  obtain ⟨u, before, after⟩ := FieldLines.eachHose_at h
    (fun u => ((u.hose h).ctl, (u.hose h).meter, (u.hose h).health, (u.hose h).nozzle, (u.hose h).meterInput))
    (f := barHose c v) (fun k u other => by simp [barHose_others c v k h u other]) s
  simp only [Prod.mk.injEq] at before after
  exact ⟨u, before, after⟩

/-- A hose without an issue of the vehicle stands (R22). -/
theorem barEndsIssue_other (other : ∀ x, s.context h = some x → x.vehicle ≠ v) :
    ((barEndsIssue c v s).hose h).same (s.hose h) := by
  obtain ⟨u, before, after⟩ := barEndsIssue_at c v h s
  have untouched : barHose c v h u = u := by
    unfold barHose
    have context : u.context h = s.context h := congrArg HoseControl.context before.1
    rw [context]
    split
    · rfl
    · next x held => exact if_neg (other x held)
  rw [untouched] at after
  exact same_trans after before

/-- The vehicle's issue is cancelled in AUTHORIZED, closes with reason BARRED in STARTING to SLOWING, and stands in any other
state (R22). -/
theorem barEndsIssue_own {x : IssueContext} (held : s.context h = some x) (own : x.vehicle = v) :
    ((s.hose h).ctl.state = .authorized → (barEndsIssue c v s).context h = none ∧
      ((barEndsIssue c v s).hose h).ctl.authTimer = none ∧ ((barEndsIssue c v s).hose h).ctl.state =
        if (s.hose h).health.frozen = true then .outOfService else .idle) ∧
    ((s.hose h).ctl.state.issuing = true → ((barEndsIssue c v s).hose h).ctl.state = .closing ∧
      (barEndsIssue c v s).context h = some { x with endReason := some .barred }) ∧
    ((s.hose h).ctl.state ≠ .authorized → (s.hose h).ctl.state.issuing = false →
      ((barEndsIssue c v s).hose h).same (s.hose h)) := by
  obtain ⟨u, before, after⟩ := barEndsIssue_at c v h s
  have ⟨ctl, _, health, _⟩ := before
  have context : u.context h = some x := (congrArg HoseControl.context ctl).trans held
  have barred : barHose c v h u = endIssue c h .barred u := by
    unfold barHose
    rw [context]
    exact if_pos own
  rw [barred] at after
  refine ⟨fun authorized => ?_, fun issuing => ?_, fun other resting => ?_⟩
  · obtain ⟨cancelled, -⟩ := FieldLines.endIssue_own (s := u) (c := c) (h := h) .barred
    have now := after.1.trans (cancelled (by rw [ctl]; exact authorized))
    rw [State.context, now]
    refine ⟨rfl, rfl, ?_⟩
    rw [← health]
    rfl
  · obtain ⟨-, closed, -⟩ := FieldLines.endIssue_own (s := u) (c := c) (h := h) .barred
    have now := after.1.trans (closed (by rw [ctl]; exact issuing))
    rw [State.context, now]
    refine ⟨rfl, ?_⟩
    rw [show (u.hose h).ctl.context = some x from context]
    rfl
  · have untouched : endIssue c h .barred u = u := by
      rw [endIssue, ctl, if_neg other, resting]
      rfl
    rw [untouched] at after
    exact same_trans after before

end Barred

/-! ### The requests (R21) -/

section Request

variable {s : State} {c : ConfigBlock} {v : Nat} {cls : Fin 8} (barred : Bool)

/-- The kind that a bar request is answered under. -/
theorem exec_bar {t : State} {r : Result} {payload : List Byte} {cmd : Instr} {kind : Nat} {barred : Bool}
    (which : (cmd = .barVehicle v ∧ kind = 0x21 ∧ barred = true) ∨ (cmd = .clearBar v ∧ kind = 0x22 ∧ barred = false))
    (answers : s.canAnswer) (e : barRequest barred v s = (t, r, payload)) :
    exec cmd s = .next (t.respond kind r payload) := by
  rcases which with ⟨rfl, rfl, rfl⟩ | ⟨rfl, rfl, rfl⟩
  · exact congrArg Host.Outcome.next (serve_answered answers e)
  · exact congrArg Host.Outcome.next (serve_answered answers e)

theorem barRequest_standby (standby : s.net.state = .standby) : barRequest barred v s = (s, .notRunning, []) := by
  simp [barRequest, running_false standby, refuse]

theorem barRequest_outOfRange (running : s.net.state ≠ .standby) (hb : s.store.block = some c) (out : v = 0 ∨ 4095 < v) :
    barRequest barred v s = (s, .badRequest, []) := by
  simp [barRequest, running_true running, hb, badVehicle_true out, refuse]

theorem barRequest_unknown (running : s.net.state ≠ .standby) (hb : s.store.block = some c) (low : 1 ≤ v) (high : v ≤ 4095)
    (unknown : classOf c v = none) : barRequest barred v s = (s, .unknownClass, []) := by
  simp [barRequest, running_true running, hb, badVehicle_false low high, unknown, refuse]

/-- Past the checks of the vehicle, a bar request comes to those of the view and of the version. -/
theorem barRequest_known (running : s.net.state ≠ .standby) (hb : s.store.block = some c) (low : 1 ≤ v) (high : v ≤ 4095)
    (known : classOf c v = some cls) : barRequest barred v s =
      if s.noRoomFor v then refuse .viewFull s
      else if u16Max ≤ (s.entryOrNew v cls).bar.version then refuse .sequenceLimit s
      else accept (setBar c barred (s.entryOrNew v cls) s)
        (barField ⟨barred, (s.entryOrNew v cls).bar.version + 1, c.station⟩) := by
  simp [barRequest, running_true running, hb, badVehicle_false low high, known]

end Request

/-- The entry under the bar that a request asks for (R21). -/
def withBar (c : ConfigBlock) (barred : Bool) (e : VehicleEntry) : VehicleEntry :=
  { e with bar := ⟨barred, e.bar.version + 1, c.station⟩ }

/-- An accepted bar request: the entry stored, and where a clear bar turns barred the issue ended (R21, R22). -/
theorem setBar_eq (c : ConfigBlock) (barred : Bool) (e : VehicleEntry) (s : State) : setBar c barred e s =
    if barred = true ∧ e.bar.barred = false then
      barEndsIssue c e.number (changeEntry c (withBar c barred e) s)
    else changeEntry c (withBar c barred e) s := by
  cases barred <;> cases h : e.bar.barred <;> simp [setBar, withBar, h]

section Accepted

variable {c : ConfigBlock} {v : Nat} {barred : Bool} {e : VehicleEntry} {s : State}

theorem entry_setBar (number : e.number = v) (w : Nat) : (setBar c barred e s).entry w =
    if w = v then some (withUsage c (withBar c barred e)) else s.entry w := by
  have changed := entry_changeEntry c (withBar c barred e) s w
  rw [show (withBar c barred e).number = v from number] at changed
  rw [setBar_eq]
  split
  · simpa [State.entry] using changed
  · exact changed

theorem queued_setBar (number : e.number = v) : queued (setBar c barred e s).radio.queue v = true := by
  have reported := queued_changeEntry c (withBar c barred e) s
  rw [show (withBar c barred e).number = v from number] at reported
  rw [setBar_eq]
  split
  · simpa using reported
  · exact reported

theorem records_setBar : (setBar c barred e s).records.records = s.records.records ∧
    ((∀ h : Fin 4, (s.hose h).ctl.state ≠ .authorized) → (setBar c barred e s).records = s.records) := by
  rw [setBar_eq]
  split
  · obtain ⟨kept, resting⟩ := records_barEndsIssue c e.number
      (changeEntry c (withBar c barred e) s)
    exact ⟨kept.trans (by simp), fun free => (resting (by simpa [State.hose] using free)).trans (by simp)⟩
  · simp

theorem notices_setBar (j : Fin 12) (guard : j ≠ 2) (watch : j ≠ 4) (overdue : j ≠ 11) :
    (setBar c barred e s).notices.entries[j] = s.notices.entries[j] := by
  have changed := notices_changeEntry j c (withBar c barred e) s watch overdue
  rw [setBar_eq]
  split
  · exact (notices_barEndsIssue j c _ _ guard).trans changed
  · exact changed

theorem hose_changeEntry (c : ConfigBlock) (e : VehicleEntry) (s : State) (h : Fin 4) :
    (changeEntry c e s).hose h = s.hose h := by
  simp [State.hose]

/-- What an accepted bar request does to the hoses (R22). -/
theorem hoses_setBar (number : e.number = v) (h : Fin 4) :
    (∀ x, s.context h = some x → x.vehicle = v → barred = true → e.bar.barred = false →
      ((s.hose h).ctl.state = .authorized → (setBar c barred e s).context h = none ∧
        ((setBar c barred e s).hose h).ctl.authTimer = none ∧ ((setBar c barred e s).hose h).ctl.state =
          if (s.hose h).health.frozen = true then .outOfService else .idle) ∧
      ((s.hose h).ctl.state.issuing = true → ((setBar c barred e s).hose h).ctl.state = .closing ∧
        (setBar c barred e s).context h = some { x with endReason := some .barred }) ∧
      ((s.hose h).ctl.state ≠ .authorized → (s.hose h).ctl.state.issuing = false →
        ((setBar c barred e s).hose h).same (s.hose h))) ∧
    ((barred = false ∨ e.bar.barred = true ∨ (∀ x, s.context h = some x → x.vehicle ≠ v)) →
      ((setBar c barred e s).hose h).same (s.hose h)) := by
  have kept := hose_changeEntry c (withBar c barred e) s h
  have context := congrArg (fun x => x.ctl.context) kept
  rw [setBar_eq]
  constructor
  · intro x held own bars clear
    have ends := barEndsIssue_own (c := c) (context.trans held) own
    rw [kept] at ends
    rw [if_pos ⟨bars, clear⟩, number]
    exact ends
  · intro stands
    split
    · next turns =>
      have other : ∀ x, s.context h = some x → x.vehicle ≠ v := by
        rcases stands with clears | was | other
        · rw [turns.1] at clears; cases clears
        · rw [turns.2] at was; cases was
        · exact other
      have same := barEndsIssue_other (c := c) (v := v) (fun x held => other x (context.symm.trans held))
      rw [kept] at same
      rwa [number]
    · exact kept ▸ ⟨rfl, rfl, rfl, rfl, rfl⟩

end Accepted

/-- Settles O18: the checks in order, and the acceptance. -/
theorem barRequests : Obligations.BarRequests := by
  unfold Obligations.BarRequests
  intro s c v barred cmd kind answers which
  refine ⟨fun standby => exec_bar which answers (barRequest_standby barred standby),
    fun running hb out => exec_bar which answers (barRequest_outOfRange barred running hb out),
    fun running hb low high unknown => exec_bar which answers (barRequest_unknown barred running hb low high unknown),
    fun cls e running hb low high known he => ?_⟩
  have reached := barRequest_known barred running hb low high known
  rw [← he] at reached
  refine ⟨fun absent full => exec_bar which answers ?_, fun room top => exec_bar which answers ?_, fun room below => ?_⟩
  · rw [reached, if_pos ((noRoomFor_iff s v).mpr ⟨absent, full⟩)]; rfl
  · rw [reached, noRoomFor_false room, if_neg nofun, if_pos top]; rfl
  · rw [noRoomFor_false room, if_neg nofun, if_neg (Nat.not_le.mpr below)] at reached
    have number : e.number = v := he ▸ number_entryOrNew s v cls
    have answered := exec_bar which answers reached
    obtain ⟨-, store, clock, net, link, -⟩ := setBar_frame c barred e s
    obtain ⟨committed, records⟩ := records_setBar (c := c) (barred := barred) (e := e) (s := s)
    have entries := entry_setBar (c := c) (barred := barred) (s := s) number
    have hoses := hoses_setBar (c := c) (barred := barred) (s := s) number
    have notices := notices_setBar (c := c) (barred := barred) (e := e) (s := s)
    have reported := queued_setBar (c := c) (barred := barred) (s := s) number
    generalize setBar c barred e s = t at *
    refine ⟨_, _, answered, (entries v).trans (if_pos rfl), rfl, rfl, rfl, rfl, rfl, reported,
      fun w other => (entries w).trans (if_neg other), fun h => (hoses h).1, records, notices, fun h => (hoses h).2, store,
      clock, net, committed, ?_⟩
    simp [link, PitNet.barField_eq]

end Sys2Proof.Machine.VehicleView
end

section
/-! The completion of an issue (R140, R141): the hose in ENDED, its health events and its drip input (R150 to R152), the
charge (R11), the record (R159, R160), and the notices that they move. -/

namespace Sys2Proof.Machine.VehicleView

open Sys2Proof Sys2Proof.Machine Sys2Proof.Machine.ServiceIntervals Sys2Proof.Machine.Metering

/-! ### Health events in ENDED -/

/-- A health after one event: a count that is not frozen one higher, and frozen from the threshold on (R150, R151). -/
def struck (threshold : Nat) (x : Health) : Health :=
  if x.frozen then x
  else { x with count := min 15 (x.count + 1), frozen := decide (threshold ≤ min 15 (x.count + 1)) }

/-- A health after the events of a completion, as its two causes are met, and its drip input (R140, R152). -/
def completedHealth (c : ConfigBlock) (flag beyond noStart : Bool) (delivered : Nat) (x : Health) : Health :=
  let y := if beyond then struck c.healthThreshold x else x
  let z := if noStart then struck c.healthThreshold y else y
  if (flag || beyond || noStart) || z.frozen then z else dripped (c.dripVolume * 100) delivered z

theorem struck_frozen {threshold : Nat} {x : Health} (frozen : x.frozen = true) : struck threshold x = x :=
  if_pos frozen

theorem struck_counts (threshold : Nat) {x : Health} (counts : x.frozen = false) : struck threshold x =
    { x with count := min 15 (x.count + 1), frozen := decide (threshold ≤ min 15 (x.count + 1)) } := by
  rw [struck, counts, if_neg nofun]

/-- A hose in ENDED after health events: the mark of its context and its health (R150). -/
def afterEvents (k : IssueContext) (flag : Bool) (y : Health) (x : Hose) : Hose :=
  { x with ctl := { x.ctl with context := some { k with healthEvent := flag } }, health := y }

theorem parts_afterEvents (k : IssueContext) (flag : Bool) (y : Health) (x : Hose) :
    (afterEvents k flag y x).meter = x.meter ∧ (afterEvents k flag y x).health = y ∧
    (afterEvents k flag y x).nozzle = x.nozzle := ⟨rfl, rfl, rfl⟩

/-- An entry of a condition was told that it is true, or not told anything. -/
def Told (e e' : NoticeEntry) : Prop := e' = e ∨ e' = e.reported true

theorem Told.trans {e f g : NoticeEntry} (a : Told e f) (b : Told f g) : Told e g := by
  rcases a with rfl | rfl
  · exact b
  · rcases b with rfl | rfl
    · exact .inr rfl
    · exact .inr (by simp [NoticeEntry.reported])

/-- An entry of an occurrence was raised, or left. -/
def Nudged (e e' : NoticeEntry) : Prop := e' = e ∨ e' = e.raised

theorem Nudged.trans {e f g : NoticeEntry} (a : Nudged e f) (b : Nudged f g) : Nudged e g := by
  rcases a with rfl | rfl
  · exact b
  · rcases b with rfl | rfl
    · exact .inr rfl
    · exact .inr (by simp [NoticeEntry.raised])

theorem Told.condition {e e' : NoticeEntry} (told : Told e e') (was : e.condition = true) : e'.condition = true := by
  rcases told with rfl | rfl
  · exact was
  · rfl

theorem report_other {src : NoticeSource} {j : Fin 12} (other : j ≠ src.index) (b : Bool) (s : State) :
    (report src b s).notices.entries[j] = s.notices.entries[j] :=
  (entries_report src b s j.val j.isLt).trans (if_neg fun e => other (Fin.ext e))

theorem raise_other {src : NoticeSource} {j : Fin 12} (other : j ≠ src.index) (s : State) :
    (raise src s).notices.entries[j] = s.notices.entries[j] :=
  (entries_raise src s j.val j.isLt).trans (if_neg fun e => other (Fin.ext e))

section Ended

variable {c : ConfigBlock} {h : Fin 4} {s : State}

/-- A health event in ENDED moves the health of its hose alone, and reports HOSE_OUT where the count freezes (R145, R154). -/
theorem healthEvent_ended (ended : (s.hose h).ctl.state = .ended) :
    (healthEvent c h s).hose h = { s.hose h with health := struck c.healthThreshold (s.hose h).health } ∧
    (healthEvent c h s).records = s.records ∧
    (∀ j : Fin 12, j ≠ 8 → (healthEvent c h s).notices.entries[j] = s.notices.entries[j]) ∧
    Told s.notices.entries[8] (healthEvent c h s).notices.entries[8] ∧
    ((s.hose h).health.frozen = false → ((healthEvent c h s).hose h).health.frozen = true →
      (healthEvent c h s).notices.entries[8].condition = true) := by
  cases counts : (s.hose h).health.frozen with
  | true =>
    rw [healthEvent_frozen c h s counts, struck_frozen counts]
    exact ⟨rfl, rfl, fun _ _ => rfl, .inl rfl, nofun⟩
  | false =>
    by_cases reached : c.healthThreshold ≤ min 15 ((s.hose h).health.count + 1)
    · have stands : freezeAction c h (countFrozen h s) = countFrozen h s :=
        (freezeAction_own c h _).2.2.2.1 (.inr (.inl (by rw [hose_countFrozen]; exact ended)))
      have frozen : anyTable (countFrozen h s).hoses (·.health.frozen) = true := by
        rw [anyTable_hoses]
        exact ⟨h, by rw [hose_countFrozen]⟩
      have condition := healthEvent_hoseOut counts reached
      rw [healthEvent_freezes c h s counts reached, stands, reportHoseOut, frozen] at condition ⊢
      rw [struck_counts _ counts]
      refine ⟨by simp [hose_countFrozen, reached], by simp [countFrozen], fun j other => ?_, .inr ?_, fun _ _ => condition⟩
      · exact report_other other _ _
      · rw [entries_report]
        rfl
    · rw [healthEvent_counted c h s counts (Nat.not_le.mp reached), struck_counts _ counts]
      refine ⟨by simp [reached, counts], rfl, fun _ _ => rfl, .inl rfl, fun _ frozen => ?_⟩
      simp [counts] at frozen

/-- A health event of the issue, where its cause is met: its mark, and the event (R150). -/
theorem issueEvent_ended {k : IssueContext} (b : Bool) (ended : (s.hose h).ctl.state = .ended)
    (held : s.context h = some k) {t : State} (after : t = if b then issueHealthEvent c h s else s) :
    t.hose h = afterEvents k (k.healthEvent || b)
      (if b then struck c.healthThreshold (s.hose h).health else (s.hose h).health) (s.hose h) ∧
    t.records = s.records ∧
    (∀ j : Fin 12, j ≠ 8 → t.notices.entries[j] = s.notices.entries[j]) ∧
    Told s.notices.entries[8] t.notices.entries[8] ∧
    ((s.hose h).health.frozen = false → (t.hose h).health.frozen = true → t.notices.entries[8].condition = true) := by
  have context : (s.hose h).ctl.context = some k := held
  cases b with
  | false =>
    have same : t = s := after
    have hose : s.hose h = afterEvents k k.healthEvent (s.hose h).health (s.hose h) := by rw [afterEvents, ← context]
    rw [same]
    refine ⟨by simpa using hose, rfl, fun _ _ => rfl, .inl rfl, fun counts frozen => ?_⟩
    rw [counts] at frozen
    cases frozen
  | true =>
    have event : t = healthEvent c h (markIssue h s) := after
    have marked : (markIssue h s).hose h =
        { s.hose h with ctl := { (s.hose h).ctl with context := some { k with healthEvent := true } } } := by
      simp [markIssue, context]
    have moved := healthEvent_ended (c := c) (s := markIssue h s) (h := h) (by rw [marked]; exact ended)
    rw [marked] at moved
    rw [event]
    obtain ⟨hose, records, others, told, out⟩ := moved
    refine ⟨by simpa [afterEvents] using hose, records.trans (by simp), fun j other => (others j other).trans (by simp), ?_, out⟩
    simpa using told

/-- The health stage of a completion, in ENDED with the context `k` (R140, R150 to R152). -/
theorem completionHealth_ended {k : IssueContext} (a b : Bool) (n : Nat) (ended : (s.hose h).ctl.state = .ended)
    (held : s.context h = some k) :
    (completionHealth c h a b n s).hose h = afterEvents k (k.healthEvent || a || b)
      (completedHealth c k.healthEvent a b n (s.hose h).health) (s.hose h) ∧
    (completionHealth c h a b n s).records = s.records ∧
    (∀ j : Fin 12, j ≠ 8 → (completionHealth c h a b n s).notices.entries[j] = s.notices.entries[j]) ∧
    Told s.notices.entries[8] (completionHealth c h a b n s).notices.entries[8] ∧
    ((s.hose h).health.frozen = false → ((completionHealth c h a b n s).hose h).health.frozen = true →
      (completionHealth c h a b n s).notices.entries[8].condition = true) := by
  obtain ⟨u, hu⟩ : ∃ u, u = if a then issueHealthEvent c h s else s := ⟨_, rfl⟩
  obtain ⟨w, hw⟩ : ∃ w, w = if b then issueHealthEvent c h u else u := ⟨_, rfl⟩
  obtain ⟨hose1, records1, others1, told1, out1⟩ := issueEvent_ended a ended held hu
  have held1 : u.context h = some { k with healthEvent := k.healthEvent || a } := by rw [State.context, hose1]; rfl
  obtain ⟨hose2, records2, others2, told2, out2⟩ := issueEvent_ended b (by rw [hose1]; exact ended) held1 hw
  have held2 : w.context h = some { k with healthEvent := k.healthEvent || a || b } := by rw [State.context, hose2]; rfl
  have stage : completionHealth c h a b n s = drip c h n (k.healthEvent || a || b) w := by
    simp only [completionHealth, ← hu, ← hw, held2]
  have told : Told s.notices.entries[8] w.notices.entries[8] := told1.trans told2
  have condition : (s.hose h).health.frozen = false → (w.hose h).health.frozen = true →
      w.notices.entries[8].condition = true := fun counts frozen => by
    cases first : (u.hose h).health.frozen with
    | true => exact told2.condition (out1 counts first)
    | false => exact out2 first frozen
  have others : ∀ j : Fin 12, j ≠ 8 → w.notices.entries[j] = s.notices.entries[j] :=
    fun j other => (others2 j other).trans (others1 j other)
  have after : w.hose h = afterEvents k (k.healthEvent || a || b) (w.hose h).health (s.hose h) := by
    rw [hose2, hose1]; rfl
  have health : (w.hose h).health = if b then struck c.healthThreshold (u.hose h).health else (u.hose h).health := by
    rw [hose2]; rfl
  have first : (u.hose h).health = if a then struck c.healthThreshold (s.hose h).health else (s.hose h).health := by
    rw [hose1]; rfl
  rw [stage]
  refine ⟨?_, (by simp [records1, records2]), fun j other => ?_, by simpa using told, fun counts frozen => ?_⟩
  · rw [completedHealth, ← first, ← health, drip]
    split
    · exact after
    · rw [hose_mapHealth, if_pos rfl, after]
      rfl
  · rw [← others j other]
    simp
  · have kept : ((drip c h n (k.healthEvent || a || b) w).hose h).health.frozen = (w.hose h).health.frozen := by
      unfold drip
      split
      · rfl
      · rw [hose_mapHealth, if_pos rfl]
        rfl
    rw [kept] at frozen
    simpa using condition counts frozen

end Ended

end Sys2Proof.Machine.VehicleView
end

section
namespace Sys2Proof.Machine.VehicleView

open Sys2Proof Sys2Proof.Machine Sys2Proof.Machine.ServiceIntervals Sys2Proof.Machine.Metering

/-! ### The charge (R11) -/

theorem view_changeEntry (c : ConfigBlock) (e : VehicleEntry) (s : State) : (changeEntry c e s).view =
    { s.view with entries := Machine.putEntry (withUsage c e) s.view.entries } := by
  have stored : (storeEntry c e s).view = { s.view with entries := Machine.putEntry (withUsage c e) s.view.entries } := by
    unfold storeEntry
    dsimp only
    split <;> simp [State.putEntry]
  simpa [changeEntry] using stored

theorem radio_changeEntry (c : ConfigBlock) (e : VehicleEntry) (s : State) : (changeEntry c e s).radio =
    { s.radio with queue := queueWith e.number s.radio.queue } := by
  simp [changeEntry, vehicleChanged, queueChanged_eq_queueWith]

/-- A change that leaves the worst usage leaves the watch list, and the notices with it (R34). -/
theorem changeEntry_watchless {c : ConfigBlock} {e : VehicleEntry} (s : State) (same : (withUsage c e).worst = e.worst) :
    (changeEntry c e s).watch = s.watch ∧ (changeEntry c e s).notices = s.notices := by
  simp [changeEntry, storeEntry, same, State.putEntry]

/-- The entry with a volume charged to the own amount, or inserted as it (R11). -/
def charged (station tag delivered : Nat) (e : VehicleEntry) : VehicleEntry :=
  match amountOf station tag e.origins with
  | some a => { e with origins := setAmount station tag (satAdd u32Max a delivered) e.origins }
  | none => { e with origins := insertOrigin ⟨station, tag, delivered⟩ e.origins }

theorem charged_keeps (station tag delivered : Nat) (e : VehicleEntry) :
    charged station tag delivered e = { e with origins := (charged station tag delivered e).origins } := by
  unfold charged
  split <;> rfl

/-- A volume that finds its place is charged as R11 says. -/
theorem chargedTo_charged (c : ConfigBlock) (tag delivered : Nat) (e : VehicleEntry) :
    ChargedTo c tag delivered e (withUsage c (charged c.station tag delivered e)) := by
  have usage := withUsage_withUsage c (charged c.station tag delivered e)
  have fields : ∀ l, withUsage c { e with origins := l } = { withUsage c e with origins := l } := fun _ => rfl
  rw [charged_keeps] at usage ⊢
  rw [ChargedTo, fields] at *
  refine ⟨?_, ?_, rfl, rfl, rfl, rfl, usage⟩
  · unfold charged
    cases held : amountOf c.station tag e.origins with
    | some a => simp [amountOf_setAmount, held, satAdd, u32Max]
    | none => simp [amountOf_insertOrigin, held]
  · intro st k other
    unfold charged
    cases held : amountOf c.station tag e.origins with
    | some a => simp [amountOf_setAmount, other]
    | none =>
      have key : ¬ (c.station = st ∧ tag = k) := fun same => other ⟨same.1.symm, same.2.symm⟩
      simp [amountOf_insertOrigin, held, key]

section Charge

variable {c : ConfigBlock} {s : State} {v delivered : Nat} {e : VehicleEntry}

theorem charge_nothing (c : ConfigBlock) (v : Nat) (s : State) : charge c v 0 s = s := by
  unfold charge
  split
  · rfl
  · exact if_pos rfl

theorem charge_absent (absent : s.entry v = none) : charge c v delivered s = s := by
  rw [charge, absent]

theorem charge_noPlace (hb : s.store.block = some c) (present : s.entry v = some e) (some_volume : 0 < delivered)
    (full : e.noPlace c.station s.store.startTag) : charge c v delivered s =
      { s with view := { s.view with originFull := min 65535 (s.view.originFull + 1) } } := by
  rw [charge, present]
  simp only [Nat.pos_iff_ne_zero.mp some_volume, if_false, stationNumber_eq hb, full.1, Nat.not_lt.mpr full.2]
  rfl

theorem charge_placed (hb : s.store.block = some c) (present : s.entry v = some e) (some_volume : 0 < delivered)
    (place : ¬ e.noPlace c.station s.store.startTag) : charge c v delivered s =
      changeEntry c (charged c.station s.store.startTag delivered e) s := by
  rw [charge, present]
  simp only [Nat.pos_iff_ne_zero.mp some_volume, if_false, stationNumber_eq hb, charged]
  cases held : amountOf c.station s.store.startTag e.origins with
  | some a => rfl
  | none =>
    have room : e.origins.length < originRoom := Nat.lt_of_not_le fun full => place ⟨held, full⟩
    simp only [room, if_true, insertOwn, stationNumber_eq hb]

/-- A charge touches the entry of its vehicle alone. -/
theorem entry_charge_other {w : Nat} (other : w ≠ v) : (charge c v delivered s).entry w = s.entry w := by
  unfold charge
  split
  · rfl
  · next e present =>
    have number := number_of_entry present
    split
    · rfl
    · split
      · rw [entry_changeEntry]
        exact if_neg fun own => other (own.trans number)
      · split
        · rw [entry_changeEntry]
          exact if_neg fun own => other (own.trans number)
        · rfl

theorem notices_charge (j : Fin 12) (watch : j ≠ 4) (overdue : j ≠ 11) :
    (charge c v delivered s).notices.entries[j] = s.notices.entries[j] := by
  unfold charge
  split
  · rfl
  · split
    · rfl
    · split
      · exact notices_changeEntry j _ _ _ watch overdue
      · split
        · exact notices_changeEntry j _ _ _ watch overdue
        · rfl

/-- A charge leaves the usage of the entry, so that it leaves the watch list and the notices too (R34). -/
theorem charge_watchless (sound : ∀ e, s.entry v = some e → withUsage c e = e) :
    (charge c v delivered s).watch = s.watch ∧ (charge c v delivered s).notices = s.notices := by
  unfold charge
  split
  · exact ⟨rfl, rfl⟩
  · next e present =>
    have worst : ∀ l, (withUsage c { e with origins := l }).worst = e.worst :=
      fun _ => (rfl : _ = (withUsage c e).worst).trans (congrArg VehicleEntry.worst (sound e present))
    split
    · exact ⟨rfl, rfl⟩
    · split
      · exact changeEntry_watchless s (worst _)
      · split
        · exact changeEntry_watchless s (worst _)
        · exact ⟨rfl, rfl⟩

end Charge

/-! ### The stages of a completion -/

/-- The meter at entry to ENDED (R121, R140). -/
def endedMeter (c : ConfigBlock) (limit : Nat) (m : Meter) : Meter :=
  (m.measureOverrun limit (c.overrunAllowance * 10)).enterClosing

theorem endedMeter_eq (c : ConfigBlock) (limit : Nat) (m : Meter) : endedMeter c limit m =
    { m with overrun := m.delivered - limit, overrunOver := decide (c.overrunAllowance * 10 < m.delivered - limit)
             settle := none, fastCount := 0, slowCount := 0 } := rfl

theorem nudged_guardEval (s : State) : Nudged s.notices.entries[2] (guardEval s).notices.entries[2] := by
  unfold guardEval
  split
  · exact .inl rfl
  · dsimp only
    split
    · refine .inr ?_
      rw [entries_raise]
      simp [eachHose, NoticeSource.index]
    · exact .inl rfl

theorem nudged_enterState (h : Fin 4) (st : HoseState) {s u : State} (same : u.notices = s.notices) :
    Nudged s.notices.entries[2] (enterState h st u).notices.entries[2] := by
  have guard := nudged_guardEval (drivePump (driveValves h (u.mapCtl h fun x => { x with state := st })))
  rw [← same]
  simpa [enterState] using guard

section Stages

variable (c : ConfigBlock) (h : Fin 4) (n : Nat) (s : State)

theorem enterEnded_own : ((enterEnded c h n s).hose h).ctl = { (s.hose h).ctl with
      state := .ended
      context := (s.hose h).ctl.context.map (IssueContext.withVolumes (endedMeter c n (s.hose h).meter))
      primeTimer := none, startTimer := none, noFlowTimer := none, overrunTimer := none
      mainValve := false, slowValve := false } ∧
    ((enterEnded c h n s).hose h).meter = endedMeter c n (s.hose h).meter ∧
    ((enterEnded c h n s).hose h).health = (s.hose h).health ∧
    ((enterEnded c h n s).hose h).nozzle = (s.hose h).nozzle := by
  simp [enterEnded, ctl_enterState, parts_enterState, mainValveOf, slowValveOf, endedMeter]

theorem notices_enterEnded (j : Fin 12) (guard : j ≠ 2) :
    (enterEnded c h n s).notices.entries[j] = s.notices.entries[j] :=
  notices_enterState _ _ _ j.val j.isLt fun e => guard (Fin.ext e)

theorem nudged_enterEnded : Nudged s.notices.entries[2] (enterEnded c h n s).notices.entries[2] := by
  unfold enterEnded
  exact nudged_enterState h .ended (by simp)

/-- A completion up to its record: the hose in ENDED, the volume charged, the record committed and ISSUE_ENDED raised. -/
def recorded (x : IssueContext) : State :=
  raise .issueEnded (commitRecord h (x.withVolumes (endedMeter c x.limit (s.hose h).meter))
    (charge c x.vehicle (s.hose h).meter.delivered (enterEnded c h x.limit s)))

theorem complete_eq (x : IssueContext) : complete c h x s = examineNozzle h (completionHealth c h
    (endedMeter c x.limit (s.hose h).meter).overrunOver (x.endReason == some .noStart) (s.hose h).meter.delivered
    (recorded c h s x)) := by
  have meter := (enterEnded_own c h x.limit s).2.1
  simp only [complete, meter, recorded]
  rfl

theorem hose_recorded (x : IssueContext) : (recorded c h s x).hose h = (enterEnded c h x.limit s).hose h := by
  simp [recorded]

theorem records_recorded (x : IssueContext) : (recorded c h s x).records =
    { records := s.records.records ++ [recordOf s.records.next (h.val + 1)
        (x.withVolumes (endedMeter c x.limit (s.hose h).meter)) s.clock.pos]
      reservations := s.records.reservations - 1, next := (s.records.next + 1) % 65536 } := by
  simp [recorded, commitRecord, reportWaiting]

/-- The notices of a completion up to its record. -/
theorem notices_recorded (x : IssueContext) :
    (recorded c h s x).notices.entries[0] = s.notices.entries[0].raised ∧
    (recorded c h s x).notices.entries[10] = s.notices.entries[10].reported true ∧
    Nudged s.notices.entries[2] (recorded c h s x).notices.entries[2] ∧
    (∀ j : Fin 12, j ≠ 0 → j ≠ 2 → j ≠ 4 → j ≠ 10 → j ≠ 11 →
      (recorded c h s x).notices.entries[j] = s.notices.entries[j]) ∧
    (∀ j : Fin 12, j = 4 ∨ j = 11 → (recorded c h s x).notices.entries[j] =
      (charge c x.vehicle (s.hose h).meter.delivered (enterEnded c h x.limit s)).notices.entries[j]) := by
  obtain ⟨u, hu⟩ : ∃ u, u = charge c x.vehicle (s.hose h).meter.delivered (enterEnded c h x.limit s) := ⟨_, rfl⟩
  have nonempty : ∀ (l : List IssueRecord) r, (!(l ++ [r]).isEmpty) = true := fun l r => by simp
  obtain ⟨w, waiting, kept⟩ : ∃ w, recorded c h s x = raise .issueEnded (report .recordsWaiting true w) ∧
      w.notices = u.notices := by
    rw [recorded, ← hu, commitRecord, reportWaiting]
    dsimp only
    rw [nonempty]
    exact ⟨_, rfl, rfl⟩
  have before : ∀ j : Fin 12, j ≠ 2 → j ≠ 4 → j ≠ 11 → w.notices.entries[j] = s.notices.entries[j] :=
    fun j guard watch overdue => by
      rw [kept, hu, notices_charge j watch overdue, notices_enterEnded c h x.limit s j guard]
  have nudged : Nudged s.notices.entries[2] w.notices.entries[2] := by
    have same : w.notices.entries[2] = (enterEnded c h x.limit s).notices.entries[2] := by
      rw [kept, hu]
      exact notices_charge (2 : Fin 12) (by decide) (by decide)
    rw [same]
    exact nudged_enterEnded c h x.limit s
  have at0 : w.notices.entries[0] = s.notices.entries[0] := before 0 (by decide) (by decide) (by decide)
  have at10 : w.notices.entries[10] = s.notices.entries[10] := before 10 (by decide) (by decide) (by decide)
  rw [← hu, waiting]
  refine ⟨?_, ?_, ?_, fun j ended guard watch wait overdue => ?_, fun j which => ?_⟩
  · rw [entries_raise, entries_report, at0]
    rfl
  · rw [entries_raise, entries_report, at10]
    rfl
  · rw [entries_raise, entries_report]
    exact nudged
  · rw [raise_other ended, report_other wait]
    exact before j guard watch overdue
  · have others : j ≠ 0 ∧ j ≠ 10 := by rcases which with rfl | rfl <;> decide
    rw [raise_other others.1, report_other others.2, kept]

end Stages

end Sys2Proof.Machine.VehicleView
end

section
namespace Sys2Proof.Machine.VehicleView

open Sys2Proof Sys2Proof.Machine Sys2Proof.Machine.ServiceIntervals Sys2Proof.Machine.Metering

/-! ### The completion as a whole (R140, R141) -/

theorem examineNozzle_lifted {h : Fin 4} {s : State} (lifted : (s.hose h).nozzle.active = true) : examineNozzle h s = s := by
  rw [examineNozzle, lifted, if_neg (by simp)]

theorem examineNozzle_hung {h : Fin 4} {s : State} (ended : (s.hose h).ctl.state = .ended)
    (hung : (s.hose h).nozzle.active = false) : examineNozzle h s = leaveEnded h s :=
  if_pos ⟨ended, hung⟩

/-- The nozzle's examination leaves meter and health. -/
theorem parts_examineNozzle (h : Fin 4) (s : State) : ((examineNozzle h s).hose h).meter = (s.hose h).meter ∧
    ((examineNozzle h s).hose h).health = (s.hose h).health := by
  unfold examineNozzle
  split
  · simp [leaveEnded, parts_enterState]
  · exact ⟨rfl, rfl⟩

theorem notices_examineNozzle (j : Fin 12) (guard : j ≠ 2) (h : Fin 4) (s : State) :
    (examineNozzle h s).notices.entries[j] = s.notices.entries[j] := by
  unfold examineNozzle
  split
  · exact notices_enterState _ _ _ j.val j.isLt fun e => guard (Fin.ext e)
  · rfl

theorem nudged_examineNozzle (h : Fin 4) (s : State) :
    Nudged s.notices.entries[2] (examineNozzle h s).notices.entries[2] := by
  unfold examineNozzle
  split
  · unfold leaveEnded
    exact nudged_enterState h _ (by simp)
  · exact .inl rfl

section Complete

variable {c : ConfigBlock} {h : Fin 4} {s : State} {x : IssueContext}

/-- The state of a completion before the nozzle is examined. -/
def beforeNozzle (c : ConfigBlock) (h : Fin 4) (s : State) (x : IssueContext) : State :=
  completionHealth c h (endedMeter c x.limit (s.hose h).meter).overrunOver (x.endReason == some .noStart)
    (s.hose h).meter.delivered (recorded c h s x)

theorem complete_beforeNozzle (c : ConfigBlock) (h : Fin 4) (s : State) (x : IssueContext) :
    complete c h x s = examineNozzle h (beforeNozzle c h s x) := complete_eq c h s x

/-- What the health stage finds: the hose in ENDED with its volumes copied. -/
theorem recorded_ended (held : s.context h = some x) : ((recorded c h s x).hose h).ctl.state = .ended ∧
    (recorded c h s x).context h = some (x.withVolumes (endedMeter c x.limit (s.hose h).meter)) := by
  have context : (s.hose h).ctl.context = some x := held
  rw [State.context, hose_recorded, (enterEnded_own c h x.limit s).1, context]
  exact ⟨rfl, rfl⟩

theorem hose_beforeNozzle (held : s.context h = some x) : (beforeNozzle c h s x).hose h =
    afterEvents (x.withVolumes (endedMeter c x.limit (s.hose h).meter))
      (x.healthEvent || (endedMeter c x.limit (s.hose h).meter).overrunOver || x.endReason == some .noStart)
      (completedHealth c x.healthEvent (endedMeter c x.limit (s.hose h).meter).overrunOver
        (x.endReason == some .noStart) (s.hose h).meter.delivered (s.hose h).health)
      ((enterEnded c h x.limit s).hose h) := by
  obtain ⟨ended, context⟩ := recorded_ended (c := c) held
  obtain ⟨hose, -⟩ := completionHealth_ended (c := c) (endedMeter c x.limit (s.hose h).meter).overrunOver
    (x.endReason == some .noStart) (s.hose h).meter.delivered ended context
  have flag : (x.withVolumes (endedMeter c x.limit (s.hose h).meter)).healthEvent = x.healthEvent := rfl
  rw [hose_recorded, (enterEnded_own c h x.limit s).2.2.1, flag] at hose
  exact hose

/-- The meter and the health of a completed issue's hose, and where the nozzle leaves it (R121, R140, R141). -/
theorem complete_own (held : s.context h = some x) :
    ((complete c h x s).hose h).meter = endedMeter c x.limit (s.hose h).meter ∧
    ((complete c h x s).hose h).health = completedHealth c x.healthEvent
      (endedMeter c x.limit (s.hose h).meter).overrunOver (x.endReason == some .noStart) (s.hose h).meter.delivered
      (s.hose h).health ∧
    ((s.hose h).nozzle.active = true → ((complete c h x s).hose h).ctl.state = .ended ∧
      (complete c h x s).context h = some { x.withVolumes (endedMeter c x.limit (s.hose h).meter) with
        healthEvent := x.healthEvent || (endedMeter c x.limit (s.hose h).meter).overrunOver ||
          x.endReason == some .noStart }) ∧
    ((s.hose h).nozzle.active = false → (complete c h x s).context h = none ∧
      ((complete c h x s).hose h).ctl.state =
        if ((complete c h x s).hose h).health.frozen = true then .outOfService else .idle) := by
  have hose := hose_beforeNozzle (c := c) held
  obtain ⟨ctl, meter, -, nozzle⟩ := enterEnded_own c h x.limit s
  obtain ⟨kept_meter, kept_health⟩ := parts_examineNozzle h (beforeNozzle c h s x)
  have active : ((beforeNozzle c h s x).hose h).nozzle.active = (s.hose h).nozzle.active := by
    rw [hose, (parts_afterEvents _ _ _ _).2.2, nozzle]
  have ended : ((beforeNozzle c h s x).hose h).ctl.state = .ended := by
    rw [hose, afterEvents, ctl]
  rw [complete_beforeNozzle, kept_meter, kept_health]
  have meter_eq : ((beforeNozzle c h s x).hose h).meter = endedMeter c x.limit (s.hose h).meter := by
    rw [hose, (parts_afterEvents _ _ _ _).1, meter]
  refine ⟨meter_eq, by rw [hose, (parts_afterEvents _ _ _ _).2.1], fun lifted => ?_, fun hung => ?_⟩
  · rw [examineNozzle_lifted (active.trans lifted), State.context, hose]
    exact ⟨by rw [← ended, hose], rfl⟩
  · rw [examineNozzle_hung ended (active.trans hung)]
    exact ⟨(FieldLines.leaveEnded_own h _).1, (FieldLines.leaveEnded_own h _).2.1⟩

theorem records_complete (held : s.context h = some x) : (complete c h x s).records =
    { records := s.records.records ++ [recordOf s.records.next (h.val + 1)
        (x.withVolumes (endedMeter c x.limit (s.hose h).meter)) s.clock.pos]
      reservations := s.records.reservations - 1, next := (s.records.next + 1) % 65536 } := by
  obtain ⟨ended, context⟩ := recorded_ended (c := c) held
  obtain ⟨-, records, -⟩ := completionHealth_ended (c := c) (endedMeter c x.limit (s.hose h).meter).overrunOver
    (x.endReason == some .noStart) (s.hose h).meter.delivered ended context
  rw [complete_beforeNozzle, ← records_recorded, ← records, ← beforeNozzle]
  simp

/-- A completion does to the view, the watch list and the radio what the charge does. -/
theorem complete_charges (c : ConfigBlock) (h : Fin 4) (s : State) (x : IssueContext) :
    (complete c h x s).view = (charge c x.vehicle (s.hose h).meter.delivered (enterEnded c h x.limit s)).view ∧
    (complete c h x s).watch = (charge c x.vehicle (s.hose h).meter.delivered (enterEnded c h x.limit s)).watch ∧
    (complete c h x s).radio = (charge c x.vehicle (s.hose h).meter.delivered (enterEnded c h x.limit s)).radio := by
  simp [complete_eq, recorded]

/-- The notices of a completion (R107, R154, R159, R162). -/
theorem notices_complete (held : s.context h = some x) :
    (complete c h x s).notices.entries[0] = s.notices.entries[0].raised ∧
    (complete c h x s).notices.entries[10] = s.notices.entries[10].reported true ∧
    Nudged s.notices.entries[2] (complete c h x s).notices.entries[2] ∧
    Told s.notices.entries[8] (complete c h x s).notices.entries[8] ∧
    (∀ j : Fin 12, j ≠ 0 → j ≠ 2 → j ≠ 4 → j ≠ 8 → j ≠ 10 → j ≠ 11 →
      (complete c h x s).notices.entries[j] = s.notices.entries[j]) ∧
    (∀ j : Fin 12, j = 4 ∨ j = 11 → (complete c h x s).notices.entries[j] =
      (charge c x.vehicle (s.hose h).meter.delivered (enterEnded c h x.limit s)).notices.entries[j]) ∧
    ((s.hose h).health.frozen = false → ((complete c h x s).hose h).health.frozen = true →
      (complete c h x s).notices.entries[8].condition = true) := by
  obtain ⟨ended, context⟩ := recorded_ended (c := c) held
  obtain ⟨-, -, others, told, out⟩ := completionHealth_ended (c := c) (endedMeter c x.limit (s.hose h).meter).overrunOver
    (x.endReason == some .noStart) (s.hose h).meter.delivered ended context
  rw [hose_recorded, (enterEnded_own c h x.limit s).2.2.1] at out
  obtain ⟨at0, at10, nudged, rest, unwatched⟩ := notices_recorded c h s x
  rw [complete_beforeNozzle, (parts_examineNozzle h _).2, beforeNozzle]
  generalize completionHealth c h (endedMeter c x.limit (s.hose h).meter).overrunOver (x.endReason == some .noStart)
    (s.hose h).meter.delivered (recorded c h s x) = w at *
  have last := fun j guard => notices_examineNozzle j guard h w
  have same8 : (recorded c h s x).notices.entries[8] = s.notices.entries[8] :=
    rest 8 (by decide) (by decide) (by decide) (by decide) (by decide)
  refine ⟨?_, ?_, ?_, ?_, fun j j0 j2 j4 j8 j10 j11 => ?_, fun j which => ?_, fun counts frozen => ?_⟩
  · have kept : (examineNozzle h w).notices.entries[0] = w.notices.entries[0] := last 0 (by decide)
    have before : w.notices.entries[0] = (recorded c h s x).notices.entries[0] := others 0 (by decide)
    rw [kept, before]
    exact at0
  · have kept : (examineNozzle h w).notices.entries[10] = w.notices.entries[10] := last 10 (by decide)
    have before : w.notices.entries[10] = (recorded c h s x).notices.entries[10] := others 10 (by decide)
    rw [kept, before]
    exact at10
  · have kept : w.notices.entries[2] = (recorded c h s x).notices.entries[2] := others 2 (by decide)
    rw [← kept] at nudged
    exact nudged.trans (nudged_examineNozzle h w)
  · have kept : (examineNozzle h w).notices.entries[8] = w.notices.entries[8] := last 8 (by decide)
    rw [kept, ← same8]
    exact told
  · rw [last j j2, others j j8]
    exact rest j j0 j2 j4 j10 j11
  · have distinct : j ≠ 2 ∧ j ≠ 8 := by rcases which with rfl | rfl <;> decide
    rw [last j distinct.1, others j distinct.2]
    exact unwatched j which
  · have kept : (examineNozzle h w).notices.entries[8] = w.notices.entries[8] := last 8 (by decide)
    rw [kept]
    exact out counts frozen

end Complete

end Sys2Proof.Machine.VehicleView
end

section
namespace Sys2Proof.Machine.VehicleView

open Sys2Proof Sys2Proof.Machine Sys2Proof.Machine.ServiceIntervals Sys2Proof.Machine.Metering

/-! ### The health that a completion leaves (R150 to R152) -/

section Health

variable (c : ConfigBlock) (flag beyond noStart : Bool) (delivered : Nat) (x : Health)

theorem completedHealth_frozen (frozen : x.frozen = true) : completedHealth c flag beyond noStart delivered x = x := by
  cases beyond <;> cases noStart <;> simp [completedHealth, struck_frozen frozen, frozen]

theorem completedHealth_drips (counts : x.frozen = false) : completedHealth c false false false delivered x =
    { x with accumulator := (x.accumulator + delivered) % (c.dripVolume * 100)
             count := x.count - (x.accumulator + delivered) / (c.dripVolume * 100) } := by
  simp [completedHealth, counts, dripped]

theorem completedHealth_marked : completedHealth c true false false delivered x = x := by
  simp [completedHealth]

theorem completedHealth_one (counts : x.frozen = false) (room : x.count < 15) (single : beyond ≠ noStart) :
    completedHealth c flag beyond noStart delivered x =
      { x with count := x.count + 1, frozen := decide (c.healthThreshold ≤ x.count + 1) } := by
  have added : min 15 (x.count + 1) = x.count + 1 := by omega
  cases beyond with
  | false =>
    obtain rfl : noStart = true := by simpa using single
    simp [completedHealth, struck_counts _ counts, added]
  | true =>
    obtain rfl : noStart = false := by simpa using single
    simp [completedHealth, struck_counts _ counts, added]

theorem completedHealth_two (counts : x.frozen = false) (room : x.count < 14) :
    completedHealth c flag true true delivered x = if c.healthThreshold ≤ x.count + 1
      then { x with count := x.count + 1, frozen := decide (c.healthThreshold ≤ x.count + 1) }
      else { x with count := x.count + 2, frozen := decide (c.healthThreshold ≤ x.count + 2) } := by
  have first : min 15 (x.count + 1) = x.count + 1 := by omega
  have second : min 15 (x.count + 1 + 1) = x.count + 2 := by omega
  rw [completedHealth, if_pos rfl, struck_counts _ counts, first]
  by_cases reached : c.healthThreshold ≤ x.count + 1
  · simp [struck, reached]
  · simp [struck, reached, second]

end Health

/-! ### The end of the overrun window -/

section Window

variable {s : State} {c : ConfigBlock} {h : Fin 4} {x : IssueContext}

theorem overrunWindow_comesAbout {n : Nat} (hb : s.store.block = some c) (fitted : c.fitted[h] = true)
    (closing : (s.hose h).ctl.state = .closing) (held : s.context h = some x)
    (runs : (s.hose h).ctl.overrunTimer = some n) :
    ComesAbout (.overrunWindowExpiry (h.val + 1)) s ↔ n = 0 := by
  have brings : ∀ k, .overrunWindowExpiry (h.val + 1) ∈ hoseDue c s k ↔ h.val = k.val ∧ (c.fitted[k] = true ∧
      (s.hose k).ctl.state = .closing ∧ (s.context k).isSome = true ∧ (s.hose k).ctl.overrunTimer = some 0) := fun k => by
    by_cases at_k : c.fitted[k] = true <;>
      simp [hoseDue, at_k, runOut_iff, and_comm, and_left_comm, State.context]
  rw [comesAbout_numbered hb rfl brings]
  simp [fitted, closing, held, runs]

theorem exec_overrunWindowExpiry (hb : s.store.block = some c) (fitted : c.fitted[h] = true)
    (closing : (s.hose h).ctl.state = .closing) (held : s.context h = some x)
    (runs : (s.hose h).ctl.overrunTimer.isSome = true) :
    exec (.overrunWindowExpiry (h.val + 1)) s = .next (complete c h x s) := by
  have taken : execOverrunWindowExpiry (h.val + 1) s = .next (complete c h x s) := by
    simp [execOverrunWindowExpiry, fieldHose_fitted hb fitted, closing, runs, held]
  exact taken

/-- What a completion does to view, watch list and radio where nothing was delivered, where the volume finds no place, and
where it is charged (R11, R20). -/
theorem view_complete {e : VehicleEntry} {delivered : Nat} (hb : s.store.block = some c)
    (present : s.entry x.vehicle = some e) (volume : delivered = (s.hose h).meter.delivered) :
    (delivered = 0 → (complete c h x s).view = s.view ∧ (complete c h x s).watch = s.watch ∧
      (complete c h x s).radio = s.radio) ∧
    (0 < delivered → e.noPlace c.station s.store.startTag →
      (complete c h x s).view = { s.view with originFull := min 65535 (s.view.originFull + 1) } ∧
      (complete c h x s).watch = s.watch ∧ (complete c h x s).radio = s.radio) ∧
    (0 < delivered → ¬ e.noPlace c.station s.store.startTag → ∃ e', (complete c h x s).entry x.vehicle = some e' ∧
      ChargedTo c s.store.startTag delivered e e' ∧ (complete c h x s).view.originFull = s.view.originFull ∧
      (complete c h x s).radio = { s.radio with queue := queueWith x.vehicle s.radio.queue }) := by
  obtain ⟨u, hu⟩ : ∃ u, u = enterEnded c h x.limit s := ⟨_, rfl⟩
  have store : u.store = s.store := by simp [hu]
  have view : u.view = s.view := by simp [hu]
  have watch : u.watch = s.watch := by simp [hu]
  have radio : u.radio = s.radio := by simp [hu]
  have at_u : u.entry x.vehicle = some e := by rw [State.entry, view]; exact present
  have block : u.store.block = some c := by rw [store]; exact hb
  obtain ⟨view_eq, watch_eq, radio_eq⟩ := complete_charges c h s x
  rw [← hu, ← volume] at view_eq watch_eq radio_eq
  rw [← store, ← view, ← watch, ← radio, view_eq, watch_eq, radio_eq]
  refine ⟨fun nothing => ?_, fun some_volume full => ?_, fun some_volume place => ?_⟩
  · rw [nothing, charge_nothing]
    exact ⟨rfl, rfl, rfl⟩
  · rw [charge_noPlace block at_u some_volume full]
    exact ⟨rfl, rfl, rfl⟩
  · have number : (charged c.station u.store.startTag delivered e).number = x.vehicle := by
      rw [charged_keeps, ← number_of_entry present]
    refine ⟨_, ?_, chargedTo_charged c u.store.startTag delivered e, ?_, ?_⟩
    · rw [State.entry, view_eq, ← State.entry, charge_placed block at_u some_volume place, entry_changeEntry, number,
        if_pos rfl]
    · rw [charge_placed block at_u some_volume place, view_changeEntry]
    · rw [charge_placed block at_u some_volume place, radio_changeEntry, number]

theorem entry_complete_other {w : Nat} (other : w ≠ x.vehicle) : (complete c h x s).entry w = s.entry w := by
  rw [State.entry, (complete_charges c h s x).1, ← State.entry, entry_charge_other other, State.entry, State.entry]
  simp

end Window

/-- Settles O44: the window runs out, and its end completes the issue. -/
theorem overrunWindowCompletes : Obligations.OverrunWindowCompletes := by
  unfold Obligations.OverrunWindowCompletes
  intro s c h x n delivered excess beyond noStart health e own hb fitted closing runs held volume measured judged
    not_started was present own_amount _ low
  refine ⟨fun rest => ⟨_, step_atRest rest, ?_⟩, overrunWindow_comesAbout hb fitted closing held runs, complete c h x s,
    recordOf s.records.next (h.val + 1) { x with delivered := delivered, overrun := excess } s.clock.pos,
    exec_overrunWindowExpiry hb fitted closing held (by rw [runs]; rfl), ?_⟩
  · rw [ctl_tick, HoseControl.tick, runs]
    rfl
  obtain ⟨meter, health_eq, lifted, hung⟩ := complete_own (c := c) held
  obtain ⟨ended, waiting, -, -, -, -, out⟩ := notices_complete (c := c) held
  obtain ⟨nothing, no_place, placed⟩ := view_complete (c := c) (h := h) hb present volume
  have records := records_complete (c := c) held
  have overran : (endedMeter c x.limit (s.hose h).meter).overrunOver = beyond := by
    rw [endedMeter_eq, judged, measured, volume]
  have cause : (x.endReason == some .noStart) = noStart := by
    rw [not_started, Bool.eq_iff_iff, beq_iff_eq, decide_eq_true_iff]
  have meter_fields : endedMeter c x.limit (s.hose h).meter = { (s.hose h).meter with
      overrun := excess, overrunOver := beyond, settle := none, fastCount := 0, slowCount := 0 } := by
    rw [endedMeter_eq, judged, measured, volume]
  have volumes : x.withVolumes (endedMeter c x.limit (s.hose h).meter) =
      { x with delivered := delivered, overrun := excess } := by
    rw [meter_fields, volume]; rfl
  have next_number : (s.records.next + 1) % 65536 = if s.records.next = 65535 then 0 else s.records.next + 1 := by
    split <;> omega
  rw [volumes, next_number] at records
  rw [volumes, overran, cause] at lifted
  rw [overran, cause, ← was, ← volume] at health_eq
  have others : ∀ j : Fin 4, j ≠ h → ((complete c h x s).hose j).same (s.hose j) :=
    fun j other => Hose.same_of (complete_others c x h j s other)
  have frozen_out : health.frozen = false → ((complete c h x s).hose h).health.frozen = true →
      (complete c h x s).notices.entries[8].condition = true := by rw [was]; exact out
  have raised : Raised .issueEnded s (complete c h x s) := congrArg NoticeEntry.pending ended
  have told : (complete c h x s).notices.entries[10].condition = true := congrArg NoticeEntry.condition waiting
  obtain ⟨-, store, clock, net, -⟩ := complete_frame c h x s
  have elsewhere := fun w other => entry_complete_other (c := c) (h := h) (s := s) (x := x) (w := w) other
  generalize complete c h x s = t at *
  refine ⟨records, rfl, elsewhere, nothing, fun some_volume absent full => no_place some_volume ⟨own_amount ▸ absent, full⟩,
    fun some_volume place => ?charged, raised, told, meter.trans meter_fields, lifted, hung, fun frozen => ?frozen,
    fun unmarked within_allowance flowed counts _ => ?drips, fun marked within_allowance flowed => ?marked,
    fun one two counts room h_one h_two => ⟨fun single => ?one, fun both_beyond both_start => ?two⟩, frozen_out, others,
    store, clock, net⟩
  case charged =>
    have finds : ¬ e.noPlace c.station s.store.startTag := fun full => by
      obtain ⟨absent, full⟩ := full
      rcases place with held_own | short
      · rw [own_amount, absent] at held_own; cases held_own
      · exact absurd short (Nat.not_lt.mpr full)
    obtain ⟨e', stored, ⟨amount, amounts, hours, totaliser, services, bar, usage⟩, counter, radio⟩ := placed some_volume finds
    refine ⟨e', stored, ?_, amounts, hours, totaliser, services, bar, usage, counter, radio⟩
    rw [← own_amount] at amount
    cases own with
    | none => exact amount
    | some a => exact amount
  case frozen => rw [health_eq, completedHealth_frozen c _ _ _ _ _ frozen]
  case drips => rw [health_eq, unmarked, within_allowance, flowed, completedHealth_drips c _ _ counts]
  case marked => rw [health_eq, marked, within_allowance, flowed, completedHealth_marked]
  case one => rw [health_eq, completedHealth_one c _ _ _ _ _ counts (by omega) single, h_one]
  case two =>
    rw [health_eq, both_beyond, both_start, completedHealth_two c _ _ _ counts room, h_one, h_two]
    simp

end Sys2Proof.Machine.VehicleView
end

section
/-! RESTART, one hose after another (R146, R175). -/

namespace Sys2Proof.Machine.VehicleView

open Sys2Proof Sys2Proof.Machine Sys2Proof.Machine.ServiceIntervals Sys2Proof.Machine.Metering

/-! ### Notices raised and reported -/

/-- A table that raises and reports alone have made of another (R167, R168). -/
inductive Notified (n : NoticeBlock) : NoticeBlock → Prop
  | refl : Notified n n
  | entry {s t : State} {i : Fin 12} {f : NoticeEntry → NoticeEntry} (before : Notified n s.notices)
    (keeps : ∀ e, (f e).enabled = e.enabled ∧ (f e).awaiting = e.awaiting)
    (after : t.notices = (s.mapNotice i f).notices) : Notified n t.notices

/-- The enables and the waits stand, and so does an attention output that follows the pending flags. -/
theorem Notified.keeps {n m : NoticeBlock} (course : Notified n m) :
    (∀ j : Fin 12, m.entries[j].enabled = n.entries[j].enabled ∧ m.entries[j].awaiting = n.entries[j].awaiting) ∧
    (n.attention = anyTable n.entries (·.pending) → m.attention = anyTable m.entries (·.pending)) := by
  induction course with
  | refl => exact ⟨fun _ => ⟨rfl, rfl⟩, id⟩
  | @entry s t i f before keeps after ih =>
    rw [after]
    refine ⟨fun j => ?_, fun _ => rfl⟩
    rw [Fin.getElem_fin, entries_mapNotice]
    split
    · exact ⟨(keeps _).1.trans (ih.1 j).1, (keeps _).2.trans (ih.1 j).2⟩
    · exact ih.1 j

section

variable {n : NoticeBlock} {s : State}

theorem Notified.raise (before : Notified n s.notices) (src : NoticeSource) : Notified n (raise src s).notices :=
  .entry (i := src.index) (f := NoticeEntry.raised) before (fun _ => ⟨rfl, rfl⟩) rfl

theorem Notified.report (before : Notified n s.notices) (src : NoticeSource) (b : Bool) :
    Notified n (report src b s).notices :=
  .entry (i := src.index) (f := NoticeEntry.reported b) before (fun _ => ⟨rfl, rfl⟩) rfl

theorem Notified.of_same {t : State} (before : Notified n s.notices) (same : t.notices = s.notices) :
    Notified n t.notices := same ▸ before

theorem Notified.enterState (before : Notified n s.notices) (h : Fin 4) (st : HoseState) :
    Notified n (enterState h st s).notices := by
  unfold Machine.enterState guardEval
  split
  · exact before.of_same (by simp)
  · dsimp only
    split
    · exact Notified.raise (before.of_same (by simp [eachHose])) _
    · exact before.of_same (by simp)

theorem Notified.cancel (before : Notified n s.notices) (h : Fin 4) : Notified n (cancel h s).notices := by
  unfold Machine.cancel
  exact Notified.enterState (before.of_same (by simp)) _ _

theorem Notified.changeEntry (before : Notified n s.notices) (c : ConfigBlock) (e : VehicleEntry) :
    Notified n (changeEntry c e s).notices := by
  have listed : Notified n (updateWatch c (withUsage c e) (s.putEntry (withUsage c e))).notices := by
    unfold updateWatch
    dsimp only
    refine Notified.report ?_ _ _
    split
    · exact Notified.raise (before.of_same rfl) _
    · exact before
  refine Notified.of_same (s := storeEntry c e s) ?_ (by simp [Machine.changeEntry])
  unfold storeEntry
  dsimp only
  split
  · exact before
  · exact listed

theorem Notified.charge (before : Notified n s.notices) (c : ConfigBlock) (v delivered : Nat) :
    Notified n (charge c v delivered s).notices := by
  unfold Machine.charge
  split
  · exact before
  · split
    · exact before
    · split
      · exact before.changeEntry c _
      · split
        · exact before.changeEntry c _
        · exact before

theorem Notified.close (before : Notified n s.notices) (c : ConfigBlock) (h : Fin 4) (r : EndReason) :
    Notified n (close c h r s).notices := by
  unfold Machine.close
  exact Notified.enterState (before.of_same (by simp)) _ _

theorem Notified.healthEvent (before : Notified n s.notices) (c : ConfigBlock) (h : Fin 4) :
    Notified n (healthEvent c h s).notices := by
  have acts : ∀ {u : State}, Notified n u.notices → Notified n (freezeAction c h u).notices := fun {u} noted => by
    have marked : Notified n (markIssue h u).notices := noted.of_same (by simp)
    unfold freezeAction
    split
    · exact noted.enterState h _
    · exact noted.cancel h
    case h_3 | h_4 | h_5 => exact marked.close c h _
    all_goals exact noted
  unfold Machine.healthEvent
  split
  · exact before
  · dsimp only
    split
    · exact Notified.report (acts (before.of_same (by simp))) _ _
    · exact before.of_same (by simp)

theorem Notified.completionHealth (before : Notified n s.notices) (c : ConfigBlock) (h : Fin 4) (a b : Bool)
    (delivered : Nat) : Notified n (completionHealth c h a b delivered s).notices := by
  have event : ∀ (b : Bool) {u : State}, Notified n u.notices →
      Notified n (if b then issueHealthEvent c h u else u).notices := fun b u noted => by
    split
    · exact Notified.healthEvent (noted.of_same (by simp)) c h
    · exact noted
  have both := event b (event a before)
  unfold Machine.completionHealth
  dsimp only
  split
  · exact both
  · exact both.of_same (by simp)

theorem Notified.enterEnded (before : Notified n s.notices) (c : ConfigBlock) (h : Fin 4) (limit : Nat) :
    Notified n (enterEnded c h limit s).notices := by
  unfold Machine.enterEnded
  exact Notified.enterState (before.of_same (by simp)) _ _

theorem Notified.commitRecord (before : Notified n s.notices) (h : Fin 4) (x : IssueContext) :
    Notified n (commitRecord h x s).notices := by
  unfold Machine.commitRecord reportWaiting
  exact Notified.report (before.of_same rfl) _ _

theorem Notified.recorded (before : Notified n s.notices) (c : ConfigBlock) (h : Fin 4) (x : IssueContext) :
    Notified n (recorded c h s x).notices := by
  have charged := (before.enterEnded c h x.limit).charge c x.vehicle (s.hose h).meter.delivered
  exact (charged.commitRecord h _).raise _

theorem Notified.examineNozzle (before : Notified n s.notices) (h : Fin 4) :
    Notified n (examineNozzle h s).notices := by
  unfold Machine.examineNozzle
  split
  · unfold leaveEnded
    exact Notified.enterState (before.of_same (by simp)) _ _
  · exact before

/-- A completion raises and reports, and does no more to the Notice Table. -/
theorem Notified.complete (before : Notified n s.notices) (c : ConfigBlock) (h : Fin 4) (x : IssueContext) :
    Notified n (complete c h x s).notices := by
  rw [complete_eq]
  exact ((before.recorded c h x).completionHealth c h _ _ _).examineNozzle h

end

/-! ### One hose at RESTART (R146) -/

/-- The entry is charged under the context of the RESTART, which names the same vehicle and limit. -/
def restartContext (x : IssueContext) : IssueContext := { x with endReason := some .restart }

section Restart

variable {c : ConfigBlock} {h : Fin 4} {s : State}

theorem restartHose_authorized (authorized : (s.hose h).ctl.state = .authorized) : restartHose c h s = cancel h s :=
  if_pos authorized

theorem restartHose_completes {x : IssueContext} (completes : s.completesAtRestart h = true)
    (held : s.context h = some x) : restartHose c h s =
      complete c h (restartContext x) (s.mapContext h restartContext) := by
  simp only [State.completesAtRestart, Bool.and_eq_true, bne_iff_ne, ne_eq] at completes
  obtain ⟨reserved, other⟩ := completes
  have in_issue : ((s.hose h).ctl.state.issuing || (s.hose h).ctl.state == .closing) = true := by
    cases state : (s.hose h).ctl.state <;> simp_all [HoseState.reserved, HoseState.inFlight, HoseState.issuing]
  rw [restartHose, if_neg other, if_pos in_issue, held]
  rfl

theorem restartHose_resting (resting : (s.hose h).ctl.state.reserved = false) : restartHose c h s = s := by
  cases state : (s.hose h).ctl.state <;>
    simp_all [restartHose, HoseState.reserved, HoseState.inFlight, HoseState.issuing]

/-- The turn of a hose at RESTART: an authorisation cancelled, an issue completed, or nothing done. -/
theorem restartHose_cases (c : ConfigBlock) (h : Fin 4) (s : State) :
    ((s.hose h).ctl.state = .authorized ∧ restartHose c h s = cancel h s) ∨
    (∃ x, s.completesAtRestart h = true ∧ s.context h = some x ∧
      restartHose c h s = complete c h (restartContext x) (s.mapContext h restartContext)) ∨
    restartHose c h s = s := by
  by_cases authorized : (s.hose h).ctl.state = .authorized
  · exact .inl ⟨authorized, restartHose_authorized authorized⟩
  · cases completes : s.completesAtRestart h with
    | false => exact .inr (.inr (restartHose_resting (by simpa [State.completesAtRestart, authorized] using completes)))
    | true =>
      cases held : s.context h with
      | some x => exact .inr (.inl ⟨x, rfl, rfl, restartHose_completes completes held⟩)
      | none => exact .inr (.inr (by simp [restartHose, authorized, held]))

end Restart

end Sys2Proof.Machine.VehicleView
end

section
namespace Sys2Proof.Machine.VehicleView

open Sys2Proof Sys2Proof.Machine Sys2Proof.Machine.ServiceIntervals Sys2Proof.Machine.Metering

/-! ### What RESTART does to one hose -/

section Hose

variable {c : ConfigBlock} {h : Fin 4} {s : State} {x : IssueContext}

theorem context_restartContext (held : s.context h = some x) :
    (s.mapContext h restartContext).context h = some (restartContext x) := by
  rw [State.context] at held ⊢
  rw [hose_mapContext, if_pos rfl, held]
  rfl

theorem parts_restartContext (h : Fin 4) (s : State) :
    ((s.mapContext h restartContext).hose h).meter = (s.hose h).meter ∧
    ((s.mapContext h restartContext).hose h).health = (s.hose h).health ∧
    ((s.mapContext h restartContext).hose h).nozzle = (s.hose h).nozzle := by
  simp

/-- A completed issue's hose (R121, R140, R141): the reason that RESTART put for NO_START is no health event of its own. -/
theorem own_restartHose (completes : s.completesAtRestart h = true) (held : s.context h = some x) :
    ((restartHose c h s).hose h).meter = endedMeter c x.limit (s.hose h).meter ∧
    ((restartHose c h s).hose h).health = completedHealth c x.healthEvent
      (endedMeter c x.limit (s.hose h).meter).overrunOver false (s.hose h).meter.delivered (s.hose h).health ∧
    ((s.hose h).nozzle.active = true → ((restartHose c h s).hose h).ctl.state = .ended ∧
      (restartHose c h s).context h = some { (restartContext x).withVolumes (endedMeter c x.limit (s.hose h).meter) with
        healthEvent := x.healthEvent || (endedMeter c x.limit (s.hose h).meter).overrunOver }) ∧
    ((s.hose h).nozzle.active = false → (restartHose c h s).context h = none ∧
      ((restartHose c h s).hose h).ctl.state =
        if ((restartHose c h s).hose h).health.frozen = true then .outOfService else .idle) := by
  obtain ⟨meter, health, nozzle⟩ := parts_restartContext h s
  have own := complete_own (c := c) (context_restartContext held)
  have no_start : ((restartContext x).endReason == some .noStart) = false := rfl
  rw [meter, health, nozzle, no_start, Bool.or_false] at own
  rw [restartHose_completes completes held]
  exact own

/-- The volume of a completed issue is charged as R11 says. -/
theorem view_restartHose {e : VehicleEntry} (hb : s.store.block = some c) (completes : s.completesAtRestart h = true)
    (held : s.context h = some x) (present : s.entry x.vehicle = some e) :
    ((s.hose h).meter.delivered = 0 → (restartHose c h s).view = s.view) ∧
    (0 < (s.hose h).meter.delivered → e.noPlace c.station s.store.startTag → (restartHose c h s).view =
      { s.view with originFull := min 65535 (s.view.originFull + 1) }) ∧
    (0 < (s.hose h).meter.delivered → ¬ e.noPlace c.station s.store.startTag →
      ∃ e', (restartHose c h s).entry x.vehicle = some e' ∧
        ChargedTo c s.store.startTag (s.hose h).meter.delivered e e' ∧
        (restartHose c h s).view.originFull = s.view.originFull) := by
  obtain ⟨meter, -⟩ := parts_restartContext h s
  have store : (s.mapContext h restartContext).store = s.store := by simp
  have view : (s.mapContext h restartContext).view = s.view := by simp
  obtain ⟨nothing, full, placed⟩ := view_complete (c := c) (h := h) (x := restartContext x) (e := e)
    (s := s.mapContext h restartContext) (by rw [store, hb]) (by rw [State.entry, view]; exact present) rfl
  rw [meter, view] at nothing
  rw [meter, view, store] at full placed
  rw [restartHose_completes completes held]
  exact ⟨fun none_moved => (nothing none_moved).1, fun some_volume no_place => (full some_volume no_place).1,
    fun some_volume place => (placed some_volume place).imp fun e' found => ⟨found.1, found.2.1, found.2.2.1⟩⟩

/-- A vehicle with no entry is charged nothing. -/
theorem view_restartHose_absent (completes : s.completesAtRestart h = true) (held : s.context h = some x)
    (absent : s.entry x.vehicle = none) : (restartHose c h s).view = s.view := by
  rw [restartHose_completes completes held, (complete_charges c h _ (restartContext x)).1, charge_absent]
  · simp
  · simpa [State.entry, restartContext] using absent

/-- A charge moves the entries of the view and its origin-full counter. -/
theorem view_charge (c : ConfigBlock) (v delivered : Nat) (s : State) : (charge c v delivered s).view = { s.view with
    entries := (charge c v delivered s).view.entries, originFull := (charge c v delivered s).view.originFull } := by
  unfold charge
  split
  · rfl
  · split
    · rfl
    · split
      · rw [view_changeEntry]
      · split
        · rw [view_changeEntry]
        · rfl

theorem counters_restartHose (c : ConfigBlock) (h : Fin 4) (s : State) : (restartHose c h s).view = { s.view with
    entries := (restartHose c h s).view.entries, originFull := (restartHose c h s).view.originFull } := by
  rcases restartHose_cases c h s with ⟨-, turn⟩ | ⟨x, -, -, turn⟩ | turn <;> rw [turn]
  · simp
  · rw [(complete_charges c h _ (restartContext x)).1, view_charge]
    simp

/-- RESTART charges no vehicle but that of an issue it completes. -/
theorem entry_restartHose_other {w : Nat}
    (other : ∀ x, s.completesAtRestart h = true → s.context h = some x → x.vehicle ≠ w) :
    (restartHose c h s).entry w = s.entry w := by
  rcases restartHose_cases c h s with ⟨-, turn⟩ | ⟨x, completes, held, turn⟩ | turn <;> rw [turn]
  · simp [State.entry]
  · rw [entry_complete_other (x := restartContext x) (other x completes held).symm]
    simp [State.entry]

/-- A hose whose issue is not completed leaves the view, the watch list and the committed records. -/
theorem restartHose_idle (rests : s.completesAtRestart h = false) :
    (restartHose c h s).view = s.view ∧ (restartHose c h s).watch = s.watch ∧
    (restartHose c h s).records.records = s.records.records ∧ (restartHose c h s).records.next = s.records.next := by
  by_cases authorized : (s.hose h).ctl.state = .authorized
  · rw [restartHose_authorized authorized, (HoseCourse.cancel_issue h s).2.2.1]
    simp
  · have resting : (s.hose h).ctl.state.reserved = false := by
      simpa [State.completesAtRestart, authorized] using rests
    rw [restartHose_resting resting]
    exact ⟨rfl, rfl, rfl, rfl⟩

/-- An issue completed is committed under the next number (R159, R160). -/
theorem records_restartHose (completes : s.completesAtRestart h = true) (held : s.context h = some x) :
    (restartHose c h s).records.records = s.records.records ++ [{ restartRecord s 0 h x with number := s.records.next }] ∧
    (restartHose c h s).records.next = (s.records.next + 1) % 65536 := by
  obtain ⟨meter, -⟩ := parts_restartContext h s
  have records : (s.mapContext h restartContext).records = s.records := by simp
  have clock : (s.mapContext h restartContext).clock = s.clock := by simp
  rw [restartHose_completes completes held, records_complete (context_restartContext held), records, clock, meter]
  exact ⟨rfl, rfl⟩

/-- With the usage of every entry true to its registers, RESTART leaves the watch list and its notices (R34). -/
theorem restartHose_watchless (usage : ∀ v e, s.entry v = some e → withUsage c e = e) :
    (restartHose c h s).watch = s.watch ∧
    ∀ j : Fin 12, j = 4 ∨ j = 11 → (restartHose c h s).notices.entries[j] = s.notices.entries[j] := by
  have apart : ∀ {j : Fin 12}, j = 4 ∨ j = 11 → j ≠ 2 := by rintro j (rfl | rfl) <;> decide
  rcases restartHose_cases c h s with ⟨-, turn⟩ | ⟨x, completes, held, turn⟩ | turn <;> rw [turn]
  · exact ⟨by simp, fun j which => notices_cancel j h s (apart which)⟩
  · obtain ⟨u, hu⟩ : ∃ u, u = s.mapContext h restartContext := ⟨_, rfl⟩
    have view : (enterEnded c h x.limit u).view = s.view := by simp [hu]
    obtain ⟨watch, notices⟩ := charge_watchless (c := c) (s := enterEnded c h x.limit u) (v := x.vehicle)
      (delivered := (u.hose h).meter.delivered)
      (fun e present => usage x.vehicle e (by rwa [State.entry, view] at present))
    have held' := context_restartContext held
    rw [← hu] at held' ⊢
    obtain ⟨-, -, -, -, -, unwatched, -⟩ := notices_complete (c := c) held'
    obtain ⟨-, charged, -⟩ := complete_charges c h u (restartContext x)
    refine ⟨(charged.trans watch).trans (by simp [hu]), fun j which => (unwatched j which).trans ?_⟩
    have stands : (enterEnded c h x.limit u).notices.entries[j] = s.notices.entries[j] := by
      rw [notices_enterEnded c h x.limit u j (apart which), hu]
      simp
    exact (congrArg (fun n => n.entries[j]) notices).trans stands
  · exact ⟨rfl, fun _ _ => rfl⟩

end Hose

/-! ### The notices that the hoses move at RESTART -/

/-- What the hoses do to the Notice Table beside the watch list (R107, R154, R162). -/
structure HosesTell (n m : Vector NoticeEntry 12) : Prop where
  guard   : Nudged n[2] m[2]
  out     : Told n[8] m[8]
  waiting : Told n[10] m[10]
  others  : ∀ j : Fin 12, j ≠ 0 → j ≠ 2 → j ≠ 4 → j ≠ 8 → j ≠ 10 → j ≠ 11 → m[j] = n[j]

theorem HosesTell.refl (n : Vector NoticeEntry 12) : HosesTell n n :=
  ⟨.inl rfl, .inl rfl, .inl rfl, fun _ _ _ _ _ _ _ => rfl⟩

theorem HosesTell.trans {n m k : Vector NoticeEntry 12} (a : HosesTell n m) (b : HosesTell m k) : HosesTell n k :=
  ⟨a.guard.trans b.guard, a.out.trans b.out, a.waiting.trans b.waiting, fun j j0 j2 j4 j8 j10 j11 =>
    (b.others j j0 j2 j4 j8 j10 j11).trans (a.others j j0 j2 j4 j8 j10 j11)⟩

section Notices

variable {c : ConfigBlock} {h : Fin 4} {s : State}

theorem nudged_cancel (h : Fin 4) (s : State) : Nudged s.notices.entries[2] (cancel h s).notices.entries[2] := by
  unfold cancel
  exact nudged_enterState h _ (by simp)

/-- The notices of one hose's turn: ISSUE_ENDED is raised exactly for a completed issue. -/
theorem notices_restartHose (accounted : s.completesAtRestart h = true → ∃ x, s.context h = some x) :
    HosesTell s.notices.entries (restartHose c h s).notices.entries ∧
    (restartHose c h s).notices.entries[0] =
      if s.completesAtRestart h then s.notices.entries[0].raised else s.notices.entries[0] := by
  cases completes : s.completesAtRestart h with
  | true =>
    obtain ⟨x, held⟩ := accounted completes
    have before : (s.mapContext h restartContext).notices = s.notices := by simp
    obtain ⟨raised, waiting, guard, out, others, -, -⟩ := notices_complete (c := c) (context_restartContext held)
    rw [before] at raised waiting guard out others
    rw [restartHose_completes completes held]
    exact ⟨⟨guard, out, .inr waiting, others⟩, raised⟩
  | false =>
    by_cases authorized : (s.hose h).ctl.state = .authorized
    · have kept := fun j => notices_cancel j h s
      rw [restartHose_authorized authorized]
      have guard := nudged_cancel h s
      generalize cancel h s = t at *
      refine ⟨⟨guard, .inl ?_, .inl ?_, fun j _ guarded _ _ _ _ => kept j guarded⟩, ?_⟩
      · exact kept 8 (by decide)
      · exact kept 10 (by decide)
      · exact kept 0 (by decide)
    · have resting : (s.hose h).ctl.state.reserved = false := by
        simpa [State.completesAtRestart, authorized] using completes
      rw [restartHose_resting resting]
      exact ⟨.refl _, rfl⟩

theorem Notified.restartHose {n : NoticeBlock} (before : Notified n s.notices) (c : ConfigBlock) (h : Fin 4) :
    Notified n (restartHose c h s).notices := by
  rcases restartHose_cases c h s with ⟨-, turn⟩ | ⟨x, -, -, turn⟩ | turn <;> rw [turn]
  · exact before.cancel h
  · exact Notified.complete (before.of_same (by simp)) c h _
  · exact before

end Notices

end Sys2Proof.Machine.VehicleView
end

section
namespace Sys2Proof.Machine.VehicleView

open Sys2Proof Sys2Proof.Machine Sys2Proof.Machine.ServiceIntervals Sys2Proof.Machine.Metering

/-! ### The hoses taken one after another (R146) -/

/-- The hoses of a list taken by RESTART, in its order. -/
def restarted (c : ConfigBlock) (l : List (Fin 4)) (u : State) : State := l.foldl (fun u h => restartHose c h u) u

theorem eachHose_restarted (c : ConfigBlock) (u : State) : eachHose (restartHose c) u = restarted c hoseIndices u := by
  simp [eachHose, restarted, hoseIndices]

theorem restarted_cons (c : ConfigBlock) (h : Fin 4) (l : List (Fin 4)) (u : State) :
    restarted c (h :: l) u = restarted c l (restartHose c h u) := rfl

/-- A state on the way through RESTART from `s`: the hoses still to be taken are as they were. -/
structure Restarting (s : State) (l : List (Fin 4)) (u : State) : Prop where
  nodup : l.Nodup
  store : u.store = s.store
  clock : u.clock = s.clock
  asWas : ∀ h ∈ l, (u.hose h).same (s.hose h)

/-- Each vehicle is in one issue of those that RESTART completes (R126). -/
def VehiclesApart (s : State) : Prop :=
  ∀ h j x y, h ≠ j → s.completesAtRestart h = true → s.completesAtRestart j = true →
    s.context h = some x → s.context j = some y → x.vehicle ≠ y.vehicle

/-- A completed issue whose volume finds no place in its vehicle's entry (R11). -/
def FindsNoPlace (c : ConfigBlock) (s : State) (h : Fin 4) : Prop :=
  s.completesAtRestart h = true ∧ 0 < (s.hose h).meter.delivered ∧
    ∃ x e, s.context h = some x ∧ s.entry x.vehicle = some e ∧ e.noPlace c.station s.store.startTag

section Run

variable {c : ConfigBlock} {s u : State} {h : Fin 4} {l : List (Fin 4)}

theorem completesAtRestart_same (same : (u.hose h).same (s.hose h)) :
    u.completesAtRestart h = s.completesAtRestart h ∧ u.context h = s.context h ∧
    (u.hose h).meter.delivered = (s.hose h).meter.delivered := by
  obtain ⟨ctl, meter, -⟩ := same
  rw [State.completesAtRestart, State.completesAtRestart, State.context, State.context, ctl, meter]
  exact ⟨rfl, rfl, rfl⟩

theorem Restarting.next (run : Restarting s (h :: l) u) : Restarting s l (restartHose c h u) := by
  obtain ⟨apart, nodup⟩ := List.nodup_cons.mp run.nodup
  obtain ⟨-, store, clock, -⟩ := restartHose_frame c h u
  refine ⟨nodup, store.trans run.store, clock.trans run.clock, fun k hk => ?_⟩
  have other : k ≠ h := fun e => apart (e ▸ hk)
  exact same_trans (Hose.same_of (restartHose_others c h k u other)) (run.asWas k (List.mem_cons_of_mem h hk))

theorem Restarting.head (run : Restarting s (h :: l) u) : u.completesAtRestart h = s.completesAtRestart h ∧
    u.context h = s.context h ∧ (u.hose h).meter.delivered = (s.hose h).meter.delivered :=
  completesAtRestart_same (run.asWas h List.mem_cons_self)

/-- The records that RESTART commits: one for each completed issue, in the order of the hoses (R159, R160). -/
theorem records_restarted (accounted : ∀ h, s.completesAtRestart h = true → ∃ x, s.context h = some x)
    (run : Restarting s l u) : ∃ new, (restarted c l u).records.records = u.records.records ++ new ∧
      new.map (·.hose) = (l.filter s.completesAtRestart).map (·.val + 1) ∧
      (∀ r ∈ new, r.endReason = some .restart) ∧
      ∀ n, u.records.next = (s.records.next + n) % 65536 →
        (restarted c l u).records.next = (s.records.next + (n + new.length)) % 65536 ∧
        new = ((l.filter s.completesAtRestart).zipIdx n).filterMap fun p =>
          (s.context p.1).map (restartRecord s p.2 p.1) := by
  induction l generalizing u with
  | nil => exact ⟨[], by simp [restarted], rfl, by simp, fun n numbered => ⟨numbered, rfl⟩⟩
  | cons h l ih =>
    obtain ⟨new, committed, hoses, reasons, numbers⟩ := ih (run.next (c := c))
    obtain ⟨state, context, delivered⟩ := run.head
    rw [restarted_cons]
    cases completes : s.completesAtRestart h with
    | false =>
      obtain ⟨-, -, records, next⟩ := restartHose_idle (c := c) (state.trans completes)
      rw [records] at committed
      rw [next] at numbers
      have left_out : (h :: l).filter s.completesAtRestart = l.filter s.completesAtRestart :=
        List.filter_cons_of_neg (by rw [completes]; exact nofun)
      rw [left_out]
      exact ⟨new, committed, hoses, reasons, numbers⟩
    | true =>
      obtain ⟨x, held⟩ := accounted h completes
      obtain ⟨records, next⟩ := records_restartHose (c := c) (state.trans completes) (context.trans held)
      rw [records, List.append_assoc] at committed
      have taken : (h :: l).filter s.completesAtRestart = h :: l.filter s.completesAtRestart :=
        List.filter_cons_of_pos completes
      have record : ∀ n, u.records.next = (s.records.next + n) % 65536 →
          { restartRecord u 0 h x with number := u.records.next } = restartRecord s n h x := fun n numbered => by
        simp only [restartRecord, delivered, run.clock, numbered]
      refine ⟨_, committed, ?_, ?_, fun n numbered => ?_⟩
      · rw [taken, List.map_append, hoses]
        rfl
      · rintro r hr
        rcases List.mem_append.mp hr with own | later
        · rw [List.mem_singleton.mp own]
          rfl
        · exact reasons r later
      · have following : (restartHose c h u).records.next = (s.records.next + (n + 1)) % 65536 := by
          rw [next, numbered]
          omega
        obtain ⟨next_number, rest⟩ := numbers (n + 1) following
        refine ⟨by rw [next_number, List.length_append, List.length_singleton]; congr 1; omega, ?_⟩
        rw [record n numbered, taken, List.zipIdx_cons, List.filterMap_cons_some (b := restartRecord s n h x), ← rest]
        · rfl
        · rw [held]
          rfl

/-- RESTART keeps the entry of a vehicle that no completed issue names. -/
theorem entry_restarted_other {w : Nat} (run : Restarting s l u)
    (other : ∀ h ∈ l, ∀ x, s.completesAtRestart h = true → s.context h = some x → x.vehicle ≠ w) :
    (restarted c l u).entry w = u.entry w := by
  induction l generalizing u with
  | nil => rfl
  | cons h l ih =>
    obtain ⟨state, context, -⟩ := run.head
    rw [restarted_cons, ih run.next fun k hk => other k (List.mem_cons_of_mem h hk)]
    refine entry_restartHose_other fun x completes held => other h List.mem_cons_self x ?_ ?_
    · rw [← state]; exact completes
    · rw [← context]; exact held

/-- RESTART charges each completed issue of a vehicle of its own as R11 says. -/
theorem entry_restarted_own {x : IssueContext} {e : VehicleEntry} (hb : s.store.block = some c) (run : Restarting s l u)
    (mem : h ∈ l) (apart : VehiclesApart s) (completes : s.completesAtRestart h = true) (held : s.context h = some x)
    (present : u.entry x.vehicle = some e) :
    ((s.hose h).meter.delivered = 0 ∨ e.noPlace c.station s.store.startTag →
      (restarted c l u).entry x.vehicle = some e) ∧
    (0 < (s.hose h).meter.delivered → ¬ e.noPlace c.station s.store.startTag →
      ∃ e', (restarted c l u).entry x.vehicle = some e' ∧
        ChargedTo c s.store.startTag (s.hose h).meter.delivered e e') := by
  induction l generalizing u with
  | nil => cases mem
  | cons k l ih =>
    obtain ⟨fresh, -⟩ := List.nodup_cons.mp run.nodup
    obtain ⟨state, context, delivered⟩ := run.head
    rw [restarted_cons]
    by_cases own : h = k
    · subst own
      have later : (restarted c l (restartHose c h u)).entry x.vehicle = (restartHose c h u).entry x.vehicle :=
        entry_restarted_other run.next fun j hj y completes_j held_j =>
          (apart h j x y (fun e => fresh (e ▸ hj)) completes completes_j held held_j).symm
      obtain ⟨nothing, full, placed⟩ := view_restartHose (by rw [run.store]; exact hb) (state.trans completes)
        (context.trans held) present
      rw [delivered, run.store] at full placed
      rw [delivered] at nothing
      rw [later]
      refine ⟨fun kept => ?_, fun some_volume place => ?_⟩
      · rcases Nat.eq_zero_or_pos (s.hose h).meter.delivered with none_moved | some_volume
        · rw [State.entry, nothing none_moved]
          exact present
        · rw [State.entry, full some_volume (kept.resolve_left (Nat.pos_iff_ne_zero.mp some_volume))]
          exact present
      · exact (placed some_volume place).imp fun e' found => ⟨found.1, found.2.1⟩
    · refine ih run.next ((List.mem_cons.mp mem).resolve_left own) ?_
      rw [← present]
      refine entry_restartHose_other fun y completes_k held_k => ?_
      rw [state] at completes_k
      rw [context] at held_k
      exact (apart h k x y own completes completes_k held held_k).symm

/-- RESTART counts the volumes that found no place, and touches the view in its entries besides (R11). -/
theorem view_restarted [DecidablePred (FindsNoPlace c s)] (hb : s.store.block = some c) (run : Restarting s l u) (apart : VehiclesApart s)
    (accounted : ∀ h, s.completesAtRestart h = true → ∃ x, s.context h = some x)
    (entries : ∀ h ∈ l, ∀ x, s.completesAtRestart h = true → s.context h = some x →
      u.entry x.vehicle = s.entry x.vehicle) (low : u.view.originFull ≤ 65535) :
    (restarted c l u).view = { u.view with
      entries := (restarted c l u).view.entries
      originFull := min 65535 (u.view.originFull + (l.filter (FindsNoPlace c s)).length) } := by
  induction l generalizing u with
  | nil =>
    have stands : min 65535 u.view.originFull = u.view.originFull := Nat.min_eq_right low
    simp [restarted, stands]
  | cons h l ih =>
    obtain ⟨fresh, -⟩ := List.nodup_cons.mp run.nodup
    obtain ⟨state, context, delivered⟩ := run.head
    have later : ∀ k ∈ l, ∀ x, s.completesAtRestart k = true → s.context k = some x →
        (restartHose c h u).entry x.vehicle = s.entry x.vehicle := fun k hk x completes held => by
      rw [← entries k (List.mem_cons_of_mem h hk) x completes held]
      refine entry_restartHose_other fun y completes_h held_h => ?_
      rw [state] at completes_h
      rw [context] at held_h
      exact apart h k y x (fun e => fresh (e ▸ hk)) completes_h completes held_h held
    rw [restarted_cons]
    by_cases full : FindsNoPlace c s h
    · obtain ⟨completes, some_volume, x, e, held, present, no_place⟩ := id full
      rw [← delivered] at some_volume
      have at_u := (entries h List.mem_cons_self x completes held).trans present
      have counted := (view_restartHose (by rw [run.store]; exact hb) (state.trans completes) (context.trans held) at_u).2.1
        some_volume (by rw [run.store]; exact no_place)
      have one_more : ((h :: l).filter (FindsNoPlace c s)).length = (l.filter (FindsNoPlace c s)).length + 1 := by
        rw [List.filter_cons_of_pos (by simpa using full), List.length_cons]
      rw [ih run.next later (by rw [counted]; exact Nat.min_le_left _ _), counted, one_more]
      dsimp only
      congr 1
      omega
    · have counter : (restartHose c h u).view.originFull = u.view.originFull := by
        cases completes : s.completesAtRestart h with
        | false => rw [(restartHose_idle (state.trans completes)).1]
        | true =>
          obtain ⟨x, held⟩ := accounted h completes
          have completes_u := state.trans completes
          have held_u := context.trans held
          cases at_u : u.entry x.vehicle with
          | none => rw [view_restartHose_absent completes_u held_u at_u]
          | some e =>
            have present := (entries h List.mem_cons_self x completes held).symm.trans at_u
            obtain ⟨nothing, -, placed⟩ := view_restartHose (by rw [run.store]; exact hb) completes_u held_u at_u
            rw [delivered] at nothing placed
            rcases Nat.eq_zero_or_pos (s.hose h).meter.delivered with none_moved | some_volume
            · rw [nothing none_moved]
            · obtain ⟨-, -, -, kept⟩ := placed some_volume fun no_place =>
                full ⟨completes, some_volume, x, e, held, present, run.store ▸ no_place⟩
              exact kept
      have no_more : (h :: l).filter (FindsNoPlace c s) = l.filter (FindsNoPlace c s) :=
        List.filter_cons_of_neg (by simpa using full)
      rw [ih run.next later (by rw [counter]; exact low), counters_restartHose, counter, no_more]

end Run

end Sys2Proof.Machine.VehicleView
end

section
namespace Sys2Proof.Machine.VehicleView

open Sys2Proof Sys2Proof.Machine Sys2Proof.Machine.ServiceIntervals Sys2Proof.Machine.Metering

/-! ### The station at RESTART (R146, R175) -/

/-- An issue that RESTART completes holds its context. -/
theorem held_of_completes {s : State} {h : Fin 4} (account : IssuesAccounted s) (completes : s.completesAtRestart h = true) :
    ∃ x, s.context h = some x := by
  obtain ⟨contexts, -⟩ := account
  rw [← Option.isSome_iff_exists, contexts]
  cases state : (s.hose h).ctl.state <;>
    simp_all [State.completesAtRestart, HoseState.reserved, HoseState.inFlight]

section Notices

variable {c : ConfigBlock} {s u : State} {l : List (Fin 4)}

/-- The notices of the hoses' turns: ISSUE_ENDED is raised when an issue was completed (R162). -/
theorem notices_restarted (account : ∀ h, s.completesAtRestart h = true → ∃ x, s.context h = some x)
    (run : Restarting s l u) : HosesTell u.notices.entries (restarted c l u).notices.entries ∧
      (restarted c l u).notices.entries[0] =
        if l.any s.completesAtRestart then u.notices.entries[0].raised else u.notices.entries[0] := by
  induction l generalizing u with
  | nil => exact ⟨.refl _, rfl⟩
  | cons h l ih =>
    obtain ⟨state, context, -⟩ := run.head
    obtain ⟨later, raised_later⟩ := ih (run.next (c := c))
    obtain ⟨first, raised⟩ := notices_restartHose (c := c) (s := u) (h := h) fun completes => by
      rw [context]
      exact account h (state.symm.trans completes)
    rw [restarted_cons]
    refine ⟨first.trans later, ?_⟩
    rw [raised_later, raised, state, List.any_cons]
    cases s.completesAtRestart h <;> cases l.any s.completesAtRestart <;> simp [NoticeEntry.raised]

theorem Notified.restarted {n : NoticeBlock} (before : Notified n u.notices) (c : ConfigBlock) (l : List (Fin 4)) :
    Notified n (restarted c l u).notices := by
  induction l generalizing u with
  | nil => exact before
  | cons h l ih => exact ih (before.restartHose c h)

/-- With the view in order the hoses' turns leave the watch list and its notices (R34). -/
theorem restarted_watchless (hb : u.store.block = some c) (ordered : ViewOrdered u) :
    (restarted c l u).watch = u.watch ∧
    ∀ j : Fin 12, j = 4 ∨ j = 11 → (restarted c l u).notices.entries[j] = u.notices.entries[j] := by
  induction l generalizing u with
  | nil => exact ⟨rfl, fun _ _ => rfl⟩
  | cons h l ih =>
    obtain ⟨watch, notices⟩ := restartHose_watchless (c := c) (h := h) (s := u) fun v e present => by
      obtain ⟨-, c', hb', -, usage⟩ := ordered.2.2 e (List.mem_of_find?_eq_some present)
      obtain rfl : c' = c := Option.some.inj (hb'.symm.trans hb)
      exact usage
    obtain ⟨watch_later, notices_later⟩ := ih (u := restartHose c h u) (by simpa using hb)
      (viewOrdered_of_course (course_restartHose hb h) ordered)
    exact ⟨watch_later.trans watch, fun j which => (notices_later j which).trans (notices j which)⟩

/-- An enabled condition sampled at RESTART stays pending exactly while it is true. -/
theorem Told.sampled {e f : NoticeEntry} {i : Fin 12} (condition : isCondition i = true)
    (told : Told (restartEntry i e) f) : f.pending = (f.enabled && f.condition) := by
  rcases told with rfl | rfl
  · simp [restartEntry, condition]
  · cases on : e.enabled <;> cases was : e.condition <;> simp [restartEntry, condition, NoticeEntry.reported, on, was]

end Notices

/-- The station of a RESTART when its hoses have been taken. -/
def hosesRestarted (c : ConfigBlock) (s : State) : State := restarted c hoseIndices (s.mapNotices restartEntry)

theorem restartStation_eq (c : ConfigBlock) (s : State) :
    restartStation c s = startSchedules (enterListenIn c ((hosesRestarted c s).mapRadio restartRadio)) := by
  rw [restartStation, eachHose_restarted]
  rfl

section Station

variable {c : ConfigBlock} {s : State}

theorem restarting_start (s : State) : Restarting s hoseIndices (s.mapNotices restartEntry) where
  nodup := by decide
  store := by simp
  clock := by simp
  asWas := fun h _ => by
    rw [hose_congr (s := s) (by simp)]
    exact ⟨rfl, rfl, rfl, rfl, rfl⟩

/-- What RESTART does once its hoses have been taken touches the net, the radio and the notice of the net state alone. -/
theorem restartStation_hoses (c : ConfigBlock) (s : State) : (restartStation c s).view = (hosesRestarted c s).view ∧
    (restartStation c s).watch = (hosesRestarted c s).watch ∧
    (restartStation c s).records = (hosesRestarted c s).records ∧
    ∀ h, (restartStation c s).hose h = (hosesRestarted c s).hose h := by
  rw [restartStation_eq]
  refine ⟨by simp, by simp, by simp, hose_congr (by simp)⟩

theorem net_hosesRestarted (c : ConfigBlock) (s : State) : (hosesRestarted c s).net = s.net := by
  rw [hosesRestarted, ← eachHose_restarted, eachHose_keeps (fun u : State => u.net) _ (by intro h u; simp)]
  simp

/-- The radio of RESTART, its schedule drawn in 0..1000 ms (R87, R92, R98). -/
theorem radio_restartStation (c : ConfigBlock) (s : State) : ∃ d, d ≤ 1000 ∧
    (restartStation c s).radio.queue = [] ∧ (restartStation c s).radio.refresh = 0 ∧
    (restartStation c s).radio.cw = 16 ∧ (restartStation c s).radio.tx = .idle ∧
    (restartStation c s).radio.dueBeacon = none ∧ (restartStation c s).radio.dueTally = none ∧
    (restartStation c s).radio.schedule = some (d * 100) ∧ (restartStation c s).radio.gapClock = some 0 := by
  refine ⟨Config.freeDraw (hosesRestarted c s).model.draws % 1001, by omega, ?_⟩
  rw [restartStation_eq]
  generalize hosesRestarted c s = u
  simp [startSchedules, restartRadio, stopTransmitter, cwLow, State.drawBelow, millisecond]

/-- RESTART enters LISTEN_IN; NET_STATE is raised unless it is entered from itself (R67, R71). -/
theorem notices_restartStation (c : ConfigBlock) (s : State) (j : Fin 12) :
    (restartStation c s).notices.entries[j] = if j = 3 ∧ s.net.state ≠ .listenIn
      then (hosesRestarted c s).notices.entries[j].raised else (hosesRestarted c s).notices.entries[j] := by
  have net := net_hosesRestarted c s
  rw [restartStation_eq]
  generalize hosesRestarted c s = u at *
  rw [(startSchedules_frame _).2.2.2.2.2.2.2.2.2.2, enterListenIn, setNetState]
  have state : (setListen (some (c.listenInTime * second)) (clearPeers (u.mapRadio restartRadio))).net.state = s.net.state := by
    rw [← net]; rfl
  rw [state]
  by_cases listening : s.net.state = .listenIn
  · rw [if_pos listening, if_neg fun both => both.2 listening]
    rfl
  · rw [if_neg listening]
    by_cases own : j = 3
    · subst own
      rw [if_pos ⟨rfl, listening⟩]
      exact (entries_raise .netState _ 3 (by decide)).trans (if_pos rfl)
    · rw [if_neg fun both => own both.1]
      exact raise_other (src := .netState) own _

theorem notified_restartStation (c : ConfigBlock) (s : State) :
    Notified (s.mapNotices restartEntry).notices (restartStation c s).notices := by
  have hoses : Notified (s.mapNotices restartEntry).notices (hosesRestarted c s).notices := Notified.refl.restarted c _
  rw [restartStation_eq]
  generalize hosesRestarted c s = u at *
  refine Notified.of_same (s := enterListenIn c (u.mapRadio restartRadio)) ?_ (by simp)
  unfold enterListenIn setNetState
  split
  · exact hoses.of_same rfl
  · exact Notified.raise (hoses.of_same rfl) _

/-- What each entry of the Notice Table is after RESTART, beside those of the watch list (R170). -/
theorem table_restartStation (account : IssuesAccounted s) :
    (∀ i : Fin 12, (restartStation c s).notices.entries[i].enabled = s.notices.entries[i].enabled ∧
      (restartStation c s).notices.entries[i].awaiting = false) ∧
    (restartStation c s).notices.entries[0].pending =
      (s.notices.entries[0].enabled && hoseIndices.any s.completesAtRestart) ∧
    (restartStation c s).notices.entries[3].pending =
      (s.notices.entries[3].enabled && decide (s.net.state ≠ .listenIn)) ∧
    ((restartStation c s).notices.entries[2].pending = true → s.notices.entries[2].enabled = true) ∧
    (∀ i : Fin 12, i = 1 ∨ i = 5 ∨ i = 6 ∨ i = 7 → (restartStation c s).notices.entries[i].pending = false) ∧
    (∀ i : Fin 12, i = 8 ∨ i = 9 ∨ i = 10 → (restartStation c s).notices.entries[i].pending =
      ((restartStation c s).notices.entries[i].enabled && (restartStation c s).notices.entries[i].condition)) ∧
    (restartStation c s).notices.entries[9].condition = s.notices.entries[9].condition ∧
    ((restartStation c s).notices.attention = true ↔
      ∃ i : Fin 12, (restartStation c s).notices.entries[i].pending = true) := by
  obtain ⟨told, ended⟩ := notices_restarted (c := c) (fun h => held_of_completes account) (restarting_start s)
  have fresh : ∀ j : Fin 12, (s.mapNotices restartEntry).notices.entries[j] = restartEntry j s.notices.entries[j] :=
    fun j => entries_mapNotices s restartEntry j.val j.isLt
  have after := notices_restartStation c s
  obtain ⟨flags, attention⟩ := (notified_restartStation c s).keeps
  have shown := attention rfl
  rw [← hosesRestarted] at told ended
  generalize restartStation c s = t at *
  generalize hosesRestarted c s = u at *
  generalize s.mapNotices restartEntry = r at *
  obtain ⟨guard, out, waiting, others⟩ := told
  have same : ∀ j : Fin 12, j ≠ 3 → t.notices.entries[j] = u.notices.entries[j] :=
    fun j other => (after j).trans (if_neg fun both => other both.1)
  have f0 : r.notices.entries[0] = restartEntry 0 s.notices.entries[0] := fresh 0
  have f2 : r.notices.entries[2] = restartEntry 2 s.notices.entries[2] := fresh 2
  have f3 : r.notices.entries[3] = restartEntry 3 s.notices.entries[3] := fresh 3
  have f8 : r.notices.entries[8] = restartEntry 8 s.notices.entries[8] := fresh 8
  have f10 : r.notices.entries[10] = restartEntry 10 s.notices.entries[10] := fresh 10
  have s0 : t.notices.entries[0] = u.notices.entries[0] := same 0 (by decide)
  have s2 : t.notices.entries[2] = u.notices.entries[2] := same 2 (by decide)
  have s8 : t.notices.entries[8] = u.notices.entries[8] := same 8 (by decide)
  have s10 : t.notices.entries[10] = u.notices.entries[10] := same 10 (by decide)
  have stands : ∀ j : Fin 12, j ≠ 0 → j ≠ 2 → j ≠ 3 → j ≠ 4 → j ≠ 8 → j ≠ 10 → j ≠ 11 →
      t.notices.entries[j] = restartEntry j s.notices.entries[j] := fun j j0 j2 j3 j4 j8 j10 j11 =>
    (same j j3).trans ((others j j0 j2 j4 j8 j10 j11).trans (fresh j))
  refine ⟨fun i => ⟨(flags i).1.trans (by rw [fresh]; rfl), (flags i).2.trans (by rw [fresh]; rfl)⟩, ?_, ?_, ?_, ?_, ?_, ?_, ?_⟩
  · rw [s0, ended, f0]
    cases hoseIndices.any s.completesAtRestart <;> simp [restartEntry, isCondition, NoticeEntry.raised]
  · have net : u.notices.entries[3] = restartEntry 3 s.notices.entries[3] :=
      (others 3 (by decide) (by decide) (by decide) (by decide) (by decide) (by decide)).trans f3
    have at3 : t.notices.entries[3] = if s.net.state ≠ .listenIn
        then u.notices.entries[3].raised else u.notices.entries[3] := (after 3).trans (by simp)
    rw [at3, net]
    split
    · next left => simp [restartEntry, isCondition, NoticeEntry.raised, left]
    · next stays => simp [restartEntry, isCondition, stays]
  · rw [s2]
    rw [f2] at guard
    rcases guard with e | e <;> rw [e] <;> simp [restartEntry, isCondition, NoticeEntry.raised]
  · rintro i (rfl | rfl | rfl | rfl) <;>
      rw [stands _ (by decide) (by decide) (by decide) (by decide) (by decide) (by decide) (by decide)] <;> rfl
  · rw [f8] at out
    rw [f10] at waiting
    rintro i (rfl | rfl | rfl)
    · exact s8 ▸ out.sampled rfl
    · rw [stands 9 (by decide) (by decide) (by decide) (by decide) (by decide) (by decide) (by decide)]
      rfl
    · exact s10 ▸ waiting.sampled rfl
  · have at9 : t.notices.entries[9] = restartEntry 9 s.notices.entries[9] :=
      stands 9 (by decide) (by decide) (by decide) (by decide) (by decide) (by decide) (by decide)
    rw [at9]
    rfl
  · rw [shown, anyTable_iff]

end Station

end Sys2Proof.Machine.VehicleView
end

section
namespace Sys2Proof.Machine.VehicleView

open Sys2Proof Sys2Proof.Machine Sys2Proof.Machine.ServiceIntervals Sys2Proof.Machine.Metering

/-! ### The hoses after RESTART (R146) -/

section Hoses

variable {c : ConfigBlock} {s : State} {h : Fin 4}

/-- RESTART takes one hose at a time: at its turn each is as it was. -/
theorem restartStation_at (c : ConfigBlock) (s : State) (h : Fin 4) :
    ∃ v, (v.hose h).same (s.hose h) ∧ ((restartStation c s).hose h).same ((restartHose c h v).hose h) := by
  obtain ⟨v, before, after⟩ := FieldLines.eachHose_at h
    (fun u => ((u.hose h).ctl, (u.hose h).meter, (u.hose h).health, (u.hose h).nozzle, (u.hose h).meterInput))
    (f := restartHose c) (fun k u other => by simp [other]) (s.mapNotices restartEntry)
  have fresh : (s.mapNotices restartEntry).hose h = s.hose h := hose_congr (by simp) h
  rw [fresh] at before
  rw [eachHose_restarted, ← hosesRestarted, ← (restartStation_hoses c s).2.2.2 h] at after
  simp only [Prod.mk.injEq] at before after
  exact ⟨v, before, after⟩

theorem hose_restartStation_resting (resting : (s.hose h).ctl.state.reserved = false) :
    ((restartStation c s).hose h).same (s.hose h) := by
  obtain ⟨v, before, after⟩ := restartStation_at c s h
  have ⟨ctl, _⟩ := before
  rw [restartHose_resting (by rw [ctl]; exact resting)] at after
  exact same_trans after before

/-- An authorisation cancelled (R142, R146). -/
theorem hose_restartStation_authorized (authorized : (s.hose h).ctl.state = .authorized) :
    (restartStation c s).context h = none ∧ ((restartStation c s).hose h).ctl.authTimer = none ∧
    ((restartStation c s).hose h).meter = (s.hose h).meter ∧
    ((restartStation c s).hose h).health = (s.hose h).health ∧
    ((restartStation c s).hose h).ctl.state = if (s.hose h).health.frozen = true then .outOfService else .idle := by
  obtain ⟨v, ⟨ctl, meter, health, -⟩, after⟩ := restartStation_at c s h
  rw [restartHose_authorized (by rw [ctl]; exact authorized)] at after
  obtain ⟨ctl_after, meter_after, health_after, -⟩ := after
  obtain ⟨-, own_meter, own_health, -⟩ := cancel_own h v
  rw [State.context, ctl_after, (HoseCourse.cancel_issue h v).1, health]
  exact ⟨rfl, rfl, meter_after.trans (own_meter.trans meter), health_after.trans (own_health.trans health), rfl⟩

/-- An issue completed: its meter and health, and where the nozzle leaves its hose (R121, R140, R141, R150 to R152). -/
theorem hose_restartStation_completes {x : IssueContext} (completes : s.completesAtRestart h = true)
    (held : s.context h = some x) :
    ((restartStation c s).hose h).meter = endedMeter c x.limit (s.hose h).meter ∧
    ((restartStation c s).hose h).health = completedHealth c x.healthEvent
      (endedMeter c x.limit (s.hose h).meter).overrunOver false (s.hose h).meter.delivered (s.hose h).health ∧
    ((s.hose h).nozzle.active = true → ((restartStation c s).hose h).ctl.state = .ended ∧
      (restartStation c s).context h = some { (restartContext x).withVolumes (endedMeter c x.limit (s.hose h).meter) with
        healthEvent := x.healthEvent || (endedMeter c x.limit (s.hose h).meter).overrunOver }) ∧
    ((s.hose h).nozzle.active = false → (restartStation c s).context h = none ∧
      ((restartStation c s).hose h).ctl.state =
        if ((restartStation c s).hose h).health.frozen = true then .outOfService else .idle) := by
  obtain ⟨v, before, after⟩ := restartStation_at c s h
  obtain ⟨state, context, -⟩ := completesAtRestart_same before
  obtain ⟨-, meter, health, nozzle, -⟩ := before
  have own := own_restartHose (c := c) (state.trans completes) (context.trans held)
  rw [meter, health, nozzle] at own
  obtain ⟨ctl_after, meter_after, health_after, -⟩ := after
  rw [State.context, ctl_after, meter_after, health_after]
  exact own

theorem reserved_restartStation (account : IssuesAccounted s) (h : Fin 4) :
    ((restartStation c s).hose h).ctl.state.reserved = false := by
  have freed : ∀ frozen : Bool, (if frozen = true then HoseState.outOfService else .idle).reserved = false := by decide
  cases completes : s.completesAtRestart h with
  | true =>
    obtain ⟨x, held⟩ := held_of_completes account completes
    obtain ⟨-, -, lifted, hung⟩ := hose_restartStation_completes (c := c) completes held
    cases active : (s.hose h).nozzle.active with
    | true => rw [(lifted active).1]; rfl
    | false => rw [(hung active).2]; exact freed _
  | false =>
    by_cases authorized : (s.hose h).ctl.state = .authorized
    · rw [(hose_restartStation_authorized authorized).2.2.2.2]
      exact freed _
    · have resting : (s.hose h).ctl.state.reserved = false := by
        simpa [State.completesAtRestart, authorized] using completes
      rw [(hose_restartStation_resting resting).1]
      exact resting

end Hoses

/-! ### The request -/

section Request

variable {c : ConfigBlock} {s : State}

theorem restart_standby (standby : s.net.state = .standby) : restart s = (s, .notRunning, []) := by
  simp [restart, running_false standby, refuse]

theorem restart_accepted (running : s.net.state ≠ .standby) (hb : s.store.block = some c) {new : List IssueRecord}
    (committed : (restartStation c s).records.records = s.records.records ++ new) :
    restart s = (restartStation c s, .ok, fieldBytes [(1, new.length)]) := by
  have answered : restart s = (restartStation c s, .ok,
      beBytes 1 ((restartStation c s).records.records.length - s.records.records.length)) := by
    simp only [restart, running_true running, hb]
    rfl
  rw [answered, committed, List.length_append, Nat.add_sub_cancel_left]
  simp

end Request

/-- The charges of RESTART (R11): a vehicle of no completed issue is left, one of a single issue charged, and the
volumes that found no place are counted. -/
theorem charges_restartStation {c : ConfigBlock} {s : State} (hb : s.store.block = some c) (account : IssuesAccounted s) :
    (∀ w, (∀ h x, s.completesAtRestart h = true → s.context h = some x → x.vehicle ≠ w) →
      (restartStation c s).entry w = s.entry w) ∧
    (VehiclesApart s → ∀ h x e, s.completesAtRestart h = true → s.context h = some x → s.entry x.vehicle = some e →
      ((s.hose h).meter.delivered = 0 ∨ e.noPlace c.station s.store.startTag →
        (restartStation c s).entry x.vehicle = some e) ∧
      (0 < (s.hose h).meter.delivered → ¬ e.noPlace c.station s.store.startTag →
        ∃ e', (restartStation c s).entry x.vehicle = some e' ∧
          ChargedTo c s.store.startTag (s.hose h).meter.delivered e e')) ∧
    (VehiclesApart s → ∀ full : List (Fin 4), full.Nodup → (∀ h, h ∈ full ↔ FindsNoPlace c s h) →
      s.view.originFull ≤ 65535 → (restartStation c s).view = { s.view with
        entries := (restartStation c s).view.entries
        originFull := min 65535 (s.view.originFull + full.length) }) := by
  classical
  have run := restarting_start s
  have view : (s.mapNotices restartEntry).view = s.view := by simp
  have entry : ∀ w, (s.mapNotices restartEntry).entry w = s.entry w := fun w => by rw [State.entry, view, State.entry]
  have every : ∀ h : Fin 4, h ∈ hoseIndices := by decide
  have after : ∀ w, (restartStation c s).entry w = (hosesRestarted c s).entry w := fun w => by
    rw [State.entry, (restartStation_hoses c s).1, State.entry]
  refine ⟨fun w other => ?_, fun apart h x e completes held present => ?_, fun apart full nodup listed low => ?_⟩
  · rw [after, hosesRestarted, entry_restarted_other run fun h _ => other h, entry]
  · rw [after]
    exact entry_restarted_own hb run (every h) apart completes held ((entry _).trans present)
  · have counted : full.length = (hoseIndices.filter (FindsNoPlace c s)).length := by
      refine List.Perm.length_eq ((List.perm_ext_iff_of_nodup nodup ?_).mpr fun h => ?_)
      · exact List.Nodup.filter _ run.nodup
      · simp [listed, every]
    have viewed := view_restarted hb run apart (fun h => held_of_completes account) (fun _ _ _ _ _ => entry _)
      (by rw [view]; exact low)
    rw [view, ← hosesRestarted] at viewed
    rw [(restartStation_hoses c s).1, counted]
    exact viewed

/-- With no hose in an issue, the outputs that follow the hoses are off (R108). -/
theorem outputs_off {s : State} (outputs : OutputsFollow s) (free : ∀ h, (s.hose h).ctl.state.reserved = false) :
    (∀ h, (s.hose h).ctl.mainValve = false ∧ (s.hose h).ctl.slowValve = false) ∧ s.field.pumpRun = false := by
  have shut : ∀ h, (s.hose h).ctl.state ≠ .starting ∧ (s.hose h).ctl.state ≠ .flowing ∧ (s.hose h).ctl.state ≠ .slowing :=
    fun h => by
      have unreserved := free h
      refine ⟨?_, ?_, ?_⟩ <;> intro state <;> rw [state] at unreserved <;> cases unreserved
  obtain ⟨valves, pump⟩ := outputs
  refine ⟨fun h => ⟨?_, ?_⟩, ?_⟩ <;> rw [Bool.eq_false_iff, Ne]
  · rw [(valves h).1]
    exact fun opens => (shut h).2.1 opens.1
  · rw [(valves h).2]
    exact fun opens => opens.1.elim (shut h).2.1 (shut h).2.2
  · rw [pump]
    rintro ⟨h, starting | flowing | slowing⟩
    · exact (shut h).1 starting
    · exact (shut h).2.1 flowing
    · exact (shut h).2.2 slowing

/-- With the view in order, RESTART leaves the watch list, and its notices are those sampled first (R34, R170). -/
theorem watchless_restartStation {c : ConfigBlock} {s : State} (hb : s.store.block = some c) (ordered : ViewOrdered s) :
    (restartStation c s).watch = s.watch ∧
    (restartStation c s).notices.entries[4] = restartEntry 4 s.notices.entries[4] ∧
    (restartStation c s).notices.entries[11] = restartEntry 11 s.notices.entries[11] := by
  obtain ⟨watch, notices⟩ := restarted_watchless (c := c) (l := hoseIndices) (u := s.mapNotices restartEntry)
    (by simpa using hb) (viewOrdered_congr ordered (by simp) (by simp))
  have table : ∀ j : Fin 12, j = 4 ∨ j = 11 →
      (restartStation c s).notices.entries[j] = restartEntry j s.notices.entries[j] := fun j which => by
    have apart : j ≠ 3 := by rcases which with rfl | rfl <;> decide
    have fresh : (s.mapNotices restartEntry).notices.entries[j] = restartEntry j s.notices.entries[j] :=
      entries_mapNotices s restartEntry j.val j.isLt
    rw [notices_restartStation, if_neg (not_and_of_not_left _ apart), hosesRestarted, notices j which, fresh]
  refine ⟨?_, table 4 (.inl rfl), table 11 (.inr rfl)⟩
  rw [(restartStation_hoses c s).2.1]
  exact watch.trans (by simp)

/-- Settles O9: the hoses one after another, the notices, and the station started afresh. -/
theorem restartRequest : Obligations.RestartRequest := by
  unfold Obligations.RestartRequest
  intro s answers
  refine ⟨fun standby => congrArg Host.Outcome.next (serve_answered answers (restart_standby standby)),
    fun c running hb account outputs => ?_⟩
  obtain ⟨new, committed, hoses, reasons, numbers⟩ :=
    records_restarted (c := c) (fun h => held_of_completes account) (restarting_start s)
  have records : (s.mapNotices restartEntry).records = s.records := by simp
  rw [← hosesRestarted, ← (restartStation_hoses c s).2.2.1, records] at committed numbers
  have answered : exec .restart s = .next ((restartStation c s).respond 0x04 .ok (fieldBytes [(1, new.length)])) :=
    congrArg Host.Outcome.next (serve_answered answers (restart_accepted running hb committed))
  obtain ⟨-, reservations, -⟩ := HoseCourse.exec_issuesAccounted account answered
  obtain ⟨d, small, queue, refresh, cw, tx, beacon, tally, schedule, gap⟩ := radio_restartStation c s
  obtain ⟨flags, ended, net_state, guard, occurrences, conditions, stop, attention⟩ := table_restartStation (c := c) account
  obtain ⟨others, charged, full⟩ := charges_restartStation hb account
  have net := PeersAndNet.net_restartStation c s
  obtain ⟨-, store, clock, link⟩ := restartStation_frame c s
  have resting := fun h => hose_restartStation_resting (c := c) (s := s) (h := h)
  have cancelled := fun h => hose_restartStation_authorized (c := c) (s := s) (h := h)
  have completed := fun h x => hose_restartStation_completes (c := c) (s := s) (h := h) (x := x)
  have unreserved := reserved_restartStation (c := c) account
  obtain ⟨valves, pump⟩ := outputs_off (FieldLines.exec_outputsFollow outputs answered) fun h => by
    rw [hose_respond]
    exact unreserved h
  have some_ended : hoseIndices.any s.completesAtRestart = !new.isEmpty := by
    have length : new.length = (hoseIndices.filter s.completesAtRestart).length := by
      simpa only [List.length_map] using congrArg List.length hoses
    rw [Bool.eq_iff_iff, List.any_eq_true, ← List.length_filter_pos_iff, ← length, List.length_pos_iff]
    simp
  have watchless := watchless_restartStation (s := s) hb
  generalize restartStation c s = t at *
  refine ⟨_, new, d, answered, ?_⟩
  simp only [State.context, hose_respond, entry_respond, respond_frame, link] at *
  refine ⟨net, queue, refresh, cw, tx, beacon, tally, schedule, small, gap, committed, ?_, hoses, reasons, fun low => ?_, others,
    fun apart => ⟨fun h x e delivered completes held present volume => ?_, ?_⟩, ?_, cancelled, resting, ?_, ?_, store, clock,
    flags, ?_, net_state, guard, occurrences, conditions, fun ordered => ?_, stop, attention, trivial⟩
  case refine_1 => exact reservations.trans (by simp [State.reservedHoses, unreserved])
  case refine_2 =>
    have numbered : s.records.next = (s.records.next + 0) % 65536 := by omega
    obtain ⟨next, records_eq⟩ := numbers 0 numbered
    rw [Nat.zero_add] at next
    exact ⟨next, records_eq⟩
  case refine_3 =>
    rw [volume]
    exact charged apart h x e completes held present
  case refine_4 => exact full apart
  case refine_5 =>
    intro h x delivered excess beyond health completes held volume over_by judged was
    obtain ⟨meter, health_eq, lifted, hung⟩ := completed h x completes held
    have measured : endedMeter c x.limit (s.hose h).meter = { (s.hose h).meter with
        overrun := excess, overrunOver := beyond, settle := none, fastCount := 0, slowCount := 0 } := by
      rw [endedMeter_eq, judged, over_by, volume]
    rw [measured] at meter health_eq lifted
    rw [← was, ← volume] at health_eq
    refine ⟨meter, fun frozen => ?_, fun counts overran room => ?_, fun counts in_bounds unmarked _ => ?_,
      fun in_bounds marked => ?_, fun active => ?_, hung⟩
    · rw [health_eq, completedHealth_frozen c _ _ _ _ _ frozen]
    · rw [health_eq, overran, completedHealth_one c _ true false _ _ counts room (by decide)]
    · rw [health_eq, in_bounds, unmarked, completedHealth_drips c _ _ counts]
    · rw [health_eq, in_bounds, marked, completedHealth_marked]
    · rw [volume]
      exact lifted active
  case refine_6 => exact fun h => ⟨unreserved h, valves h⟩
  case refine_7 => exact pump
  case refine_8 => rw [ended, some_ended]
  case refine_9 =>
    obtain ⟨watch, at4, at11⟩ := watchless ordered
    rw [at4, at11]
    exact ⟨watch, rfl, rfl, rfl⟩

end Sys2Proof.Machine.VehicleView
end

section
/-! The configuration block (R171, R172): the values of its bytes, and the fields that its validation names. -/

namespace Sys2Proof.Machine.VehicleView

open Sys2Proof Sys2Proof.Machine Sys2Proof.Machine.ServiceIntervals Sys2Proof.Machine.TerminalLink

/-! ### The values of the fields -/

/-- The number of a field stands after the bytes of the fields before it. -/
theorem getElem?_rawFields (fs : List FieldSpec) (bs : List Byte) (i : Nat) : (rawFields fs bs)[i]? =
    fs[i]?.map fun f => fieldAt ((fs.take i).map (·.width)).sum f.width bs := by
  induction fs generalizing bs i with
  | nil => rfl
  | cons f fs ih =>
    cases i with
    | zero => simp [rawFields, fieldAt]
    | succ i => simp [rawFields, ih, fieldAt, List.drop_drop]

/-- The value of a field as the statements give it, and as the validation and the installation read it (R172). -/
theorem fieldValue_eq (p1 p2 : List Byte) : fieldValue p1 p2 = valueAt (blockValues (rawBlock p1 p2)) := by
  funext i
  have raw := getElem?_rawFields blockFields (p1 ++ p2) (i - 1)
  rw [fieldValue, valueAt, blockValues, rawBlock, List.getD_eq_getElem?_getD, List.getElem?_map]
  cases spec : blockFields[i - 1]? with
  | none =>
    have out : (blockFields.zip (rawFields blockFields (p1 ++ p2)))[i - 1]? = none := by
      rw [List.getElem?_eq_none_iff] at spec ⊢
      rw [List.length_zip]
      exact (Nat.min_le_left _ _).trans spec
    rw [out]
    rfl
  | some f =>
    rw [spec, Option.map_some] at raw
    have pair := List.getElem?_zip_eq_some (z := (_, _)).mpr ⟨spec, raw⟩
    rw [pair]
    rfl

/-- A field fails its own range when its value lies outside it, or when it has no default and all its bytes are FFh. -/
theorem fails_iff (f : FieldSpec) (raw : Nat) : f.fails raw = true ↔
    f.value raw < f.low ∨ f.high < f.value raw ∨ f.preset = none ∧ f.value raw = 256 ^ f.width - 1 := by
  have unset : f.preset = none → f.value raw = raw := fun none_given => by
    rw [FieldSpec.value, none_given]
    exact ite_self raw
  have spelled : (raw = 256 ^ f.width - 1 ∧ f.preset = none) ↔ (f.preset = none ∧ f.value raw = 256 ^ f.width - 1) :=
    ⟨fun both => ⟨both.2, (unset both.2).trans both.1⟩, fun both => ⟨(unset both.1).symm.trans both.2, both.1⟩⟩
  simp only [FieldSpec.fails, Bool.or_eq_true, Bool.and_eq_true, beq_iff_eq, Option.isNone_iff_eq_none,
    decide_eq_true_eq, spelled]
  tauto

/-! ### The fields named -/

section Named

variable {v : Nat → Nat} {values : List Nat} {i : Nat}

theorem mem_rangeFailures (p1 p2 : List Byte) : i ∈ rangeFailures (rawBlock p1 p2) ↔
    1 ≤ i ∧ ∃ f, blockFields[i - 1]? = some f ∧
      (fieldValue p1 p2 i < f.low ∨ f.high < fieldValue p1 p2 i ∨
        f.preset = none ∧ fieldValue p1 p2 i = 256 ^ f.width - 1) := by
  have value : ∀ f, blockFields[i - 1]? = some f → ∃ raw,
      (blockFields.zip (rawBlock p1 p2))[i - 1]? = some (f, raw) ∧ fieldValue p1 p2 i = f.value raw := fun f spec => by
    have raw := getElem?_rawFields blockFields (p1 ++ p2) (i - 1)
    rw [spec, Option.map_some] at raw
    refine ⟨_, List.getElem?_zip_eq_some.mpr ⟨spec, raw⟩, ?_⟩
    rw [fieldValue, spec]
    rfl
  rw [rangeFailures, List.mem_filterMap]
  constructor
  · rintro ⟨⟨⟨f, raw⟩, j⟩, member, named⟩
    obtain ⟨fails, rfl⟩ : f.fails raw = true ∧ j = i := by simpa using named
    obtain ⟨low, at_j⟩ := List.mk_mem_zipIdx_iff_le_and_getElem?_sub.mp member
    have spec := (List.getElem?_zip_eq_some.mp at_j).1
    obtain ⟨raw', at_j', value_eq⟩ := value f spec
    obtain rfl : raw = raw' := congrArg Prod.snd (Option.some.inj (at_j.symm.trans at_j'))
    exact ⟨low, f, spec, value_eq ▸ (fails_iff f raw).mp fails⟩
  · rintro ⟨low, f, spec, outside⟩
    obtain ⟨raw, at_i, value_eq⟩ := value f spec
    rw [value_eq] at outside
    refine ⟨((f, raw), i), List.mk_mem_zipIdx_iff_le_and_getElem?_sub.mpr ⟨low, at_i⟩, ?_⟩
    rw [if_pos ((fails_iff f raw).mpr outside)]

/-- Two ranges overlap when neither is empty and some number stands in both (R2). -/
theorem rangesOverlap_iff (a b : Nat × Nat) : rangesOverlap a b = true ↔
    a ≠ (0, 0) ∧ b ≠ (0, 0) ∧ ∃ n, a.1 ≤ n ∧ n ≤ a.2 ∧ b.1 ≤ n ∧ n ≤ b.2 := by
  have common : max a.1 b.1 ≤ min a.2 b.2 ↔ ∃ n, a.1 ≤ n ∧ n ≤ a.2 ∧ b.1 ≤ n ∧ n ≤ b.2 :=
    ⟨fun meet => ⟨max a.1 b.1, by omega⟩, fun ⟨n, within_both⟩ => by omega⟩
  simp only [rangesOverlap, Bool.and_eq_true, bne_iff_ne, decide_eq_true_eq, common, and_assoc]

theorem mem_classFailures (k : Fin 8) : i ∈ classFailures values k.val ↔ ClassNamed (valueAt values) k i := by
  have lower : (List.range k.val).any (fun j => rangesOverlap (rangeAt values j) (rangeAt values k.val)) = true ↔
      ∃ j : Fin 8, j < k ∧ rangesOverlap (rangeAt values j.val) (rangeAt values k.val) = true := by
    rw [List.any_eq_true]
    constructor
    · rintro ⟨j, below, meets⟩
      rw [List.mem_range] at below
      exact ⟨⟨j, below.trans k.isLt⟩, below, meets⟩
    · rintro ⟨j, below, meets⟩
      exact ⟨j.val, List.mem_range.mpr below, meets⟩
  have named_if : ∀ (p : Prop) [Decidable p] (n : Nat), i ∈ (if p then [n] else []) ↔ i = n ∧ p := fun p _ n => by
    split <;> simp [*]
  unfold classFailures
  dsimp only
  rw [List.mem_append, List.mem_append, named_if, named_if, named_if, lower, or_assoc]
  simp only [rangesOverlap_iff, ClassNamed, rangeAt]

theorem mem_crossFailures : i ∈ crossFailures values ↔
    (i = 40 ∧ valueAt values 40 % 60 ≠ 0) ∨ ∃ k : Fin 8, ClassNamed (valueAt values) k i := by
  have minute : i ∈ (if valueAt values 40 % 60 ≠ 0 then [40] else []) ↔ i = 40 ∧ valueAt values 40 % 60 ≠ 0 := by
    split <;> simp [*]
  rw [crossFailures, List.mem_append, minute, List.mem_flatMap]
  refine or_congr_right ⟨?_, ?_⟩
  · rintro ⟨k, below, named⟩
    exact ⟨⟨k, List.mem_range.mp below⟩, (mem_classFailures ⟨k, List.mem_range.mp below⟩).mp named⟩
  · rintro ⟨k, named⟩
    exact ⟨k.val, List.mem_range.mpr k.isLt, (mem_classFailures k).mpr named⟩

/-- The validation of two parts names the fields of R172. -/
theorem mem_blockFailures (p1 p2 : List Byte) : i ∈ blockFailures (rawBlock p1 p2) ↔ FieldNamed p1 p2 i := by
  rw [blockFailures, List.mem_append, mem_rangeFailures, mem_crossFailures, FieldNamed, fieldValue_eq]

theorem partsFailure_some (p1 p2 : List Byte) : partsFailure p1 p2 = some i ↔
    FieldNamed p1 p2 i ∧ ∀ j, j < i → ¬ FieldNamed p1 p2 j := by
  simp only [partsFailure, lowestFailure, List.min?_eq_some_iff, mem_blockFailures]
  exact and_congr_right' ⟨fun lowest j below named => absurd (lowest j named) (Nat.not_le.mpr below),
    fun lower j named => Nat.le_of_not_lt fun below => lower j below named⟩

theorem partsFailure_none (p1 p2 : List Byte) : partsFailure p1 p2 = none ↔ ∀ j, ¬ FieldNamed p1 p2 j := by
  rw [partsFailure, lowestFailure, List.min?_eq_none_iff, List.eq_nil_iff_forall_not_mem]
  simp only [mem_blockFailures]

end Named

end Sys2Proof.Machine.VehicleView
end

section
namespace Sys2Proof.Machine.VehicleView

open Sys2Proof Sys2Proof.Machine Sys2Proof.Machine.ServiceIntervals Sys2Proof.Machine.TerminalLink

/-! ### A configuration in range comes from fields in range (Table 11-5) -/

/-- Values from an index on stand in the ranges of a list of fields. -/
def FieldsWithin (v : Nat → Nat) : Nat → List FieldSpec → Prop
  | _, [] => True
  | n, f :: fs => within f.low f.high (v n) ∧ FieldsWithin v (n + 1) fs

theorem FieldsWithin.field {v : Nat → Nat} {n : Nat} {fs : List FieldSpec} (all : FieldsWithin v n fs) {i : Nat}
    {f : FieldSpec} (spec : fs[i]? = some f) : within f.low f.high (v (n + i)) := by
  induction fs generalizing n i with
  | nil => cases spec
  | cons g fs ih =>
    cases i with
    | zero =>
      obtain rfl : g = f := by simpa using spec
      exact all.1
    | succ i =>
      rw [← Nat.add_assoc, Nat.add_right_comm]
      exact ih all.2 (by simpa using spec)

section InRange

variable {v : Nat → Nat}

/-- The settings of a class in range come from a class group in range. -/
theorem fieldsWithin_class (k : Fin 8) (range : (classConfigOf v k).inRange (v 38)) :
    FieldsWithin v (48 + 13 * k.val) fieldsClass := by
  obtain ⟨ordered, high, allowance, tank, -, burn, hours, fuel⟩ := range
  have hours_at : ∀ i : Fin 4, v (53 + 13 * k.val + i.val) ≤ 20000 := fun i => by
    simpa [classConfigOf] using hours i
  have fuel_at : ∀ i : Fin 4, v (57 + 13 * k.val + i.val) ≤ 2000000 := fun i => by
    simpa [classConfigOf] using fuel i
  have low : v (48 + 13 * k.val) ≤ 4095 := by
    simp only [classConfigOf, vehicleTop] at ordered high
    omega
  have from_zero : ∀ {n m : Nat}, n ≤ m → within 0 m n := fun le => ⟨Nat.zero_le _, le⟩
  have next : ∀ n, n + 13 * k.val + 1 = n + 1 + 13 * k.val := fun n => Nat.add_right_comm n _ 1
  simp only [fieldsClass, List.replicate, List.cons_append, List.nil_append, FieldsWithin, and_true, next, Nat.reduceAdd]
  have hours_field : ∀ j < 4, within 0 20000 (v (53 + j + 13 * k.val)) := fun j below => by
    rw [Nat.add_right_comm]
    exact from_zero (hours_at ⟨j, below⟩)
  have fuel_field : ∀ j < 4, within 0 2000000 (v (57 + j + 13 * k.val)) := fun j below => by
    rw [Nat.add_right_comm]
    exact from_zero (fuel_at ⟨j, below⟩)
  exact ⟨from_zero low, from_zero high, from_zero allowance, tank, burn,
    hours_field 0 (by decide), hours_field 1 (by decide), hours_field 2 (by decide), hours_field 3 (by decide),
    fuel_field 0 (by decide), fuel_field 1 (by decide), fuel_field 2 (by decide), fuel_field 3 (by decide)⟩

/-- Fields 1 to 47 stand in their ranges in a configuration in range; the masks and the edge modes are asked for besides. -/
theorem fieldsWithin_station (range : (configOf v).inRange) (fitted : v 2 ≤ 15) (polarity : v 3 ≤ 511)
    (edges : ∀ h : Fin 4, v (11 + h.val) ≤ 2) : FieldsWithin v 1 (fieldsStation ++ fieldsHose ++ fieldsNet) := by
  obtain ⟨station, nozzleFilter, stopFilter, meterFilter, pulse, maxFlow, slowFlow, settle, slowdown, window, allowance, auth,
    start, noFlow, prime, health, drip, warn, grace, hold, hour, fuel, minimum, net, shift, -, beacon, base, refresh, keyUp,
    listen, rejoin, suppression, -⟩ := range
  have pulse_at : ∀ h : Fin 4, within 128 32767 (v (7 + h.val)) := fun h => by simpa [configOf] using pulse h
  have max_at : ∀ h : Fin 4, within 20 1500 (v (15 + h.val)) := fun h => by simpa [configOf] using maxFlow h
  have slow_at : ∀ h : Fin 4, within 5 300 (v (19 + h.val)) := fun h => by simpa [configOf] using slowFlow h
  have from_zero : ∀ {n m : Nat}, n ≤ m → within 0 m n := fun le => ⟨Nat.zero_le _, le⟩
  simp only [fieldsStation, fieldsHose, fieldsNet, List.replicate, List.cons_append, List.nil_append, FieldsWithin, and_true]
  exact ⟨station, from_zero fitted, from_zero polarity, nozzleFilter, stopFilter, meterFilter,
    pulse_at 0, pulse_at 1, pulse_at 2, pulse_at 3, from_zero (edges 0), from_zero (edges 1), from_zero (edges 2),
    from_zero (edges 3), max_at 0, max_at 1, max_at 2, max_at 3, slow_at 0, slow_at 1, slow_at 2, slow_at 3, settle,
    from_zero slowdown, window, allowance, auth, start, noFlow, from_zero prime, health, drip, warn, grace, from_zero hold,
    from_zero hour, from_zero fuel, minimum, from_zero net, shift, beacon, base, refresh, keyUp, listen, rejoin, suppression⟩

/-- What a configuration in range says of the shift length and of the classes (R172). -/
theorem classes_of_inRange (range : (configOf v).inRange) : v 40 % 60 = 0 ∧
    (∀ k : Fin 8, (classConfigOf v k).inRange (v 38)) ∧
    ∀ j k : Fin 8, j ≠ k → (classConfigOf v j).apart (classConfigOf v k) := by
  obtain ⟨-, -, -, -, -, -, -, -, -, -, -, -, -, -, -, -, -, -, -, -, -, -, -, -, -, minute, -, -, -, -, -, -, -, classes,
    apart⟩ := range
  refine ⟨minute, fun k => ?_, fun j k other => ?_⟩
  · simpa [configOf] using classes k
  · simpa [configOf] using apart j k other

/-- Every field of a configuration in range is in the range of Table 11-5. -/
theorem within_of_inRange (range : (configOf v).inRange) (fitted : v 2 ≤ 15) (polarity : v 3 ≤ 511)
    (edges : ∀ h : Fin 4, v (11 + h.val) ≤ 2) {i : Nat} {f : FieldSpec} (spec : blockFields[i]? = some f) :
    within f.low f.high (v (i + 1)) := by
  have below : i < 151 := (List.getElem?_eq_some_iff.mp spec).1
  rcases Nat.lt_or_ge i 47 with station | of_class
  · rw [Nat.add_comm]
    refine (fieldsWithin_station range fitted polarity edges).field ?_
    rw [← spec, blockFields]
    exact (List.getElem?_append_left station).symm
  · obtain ⟨k, j, rfl⟩ : ∃ (k : Fin 8) (j : Fin 13), i = 47 + 13 * k.val + j.val :=
      ⟨⟨(i - 47) / 13, by omega⟩, ⟨(i - 47) % 13, by omega⟩, by simp only; omega⟩
    have at_class : v (47 + 13 * k.val + j.val + 1) = v (48 + 13 * k.val + j.val) := congrArg v (by omega)
    rw [at_class]
    refine (fieldsWithin_class k ?_).field ((class_field k j).symm.trans spec)
    exact (classes_of_inRange range).2.1 k

/-- A field without a default cannot spell all bytes FFh in its range (Table 11-5). -/
theorem high_of_unset {f : FieldSpec} (field : f ∈ blockFields) (unset : f.preset = none) :
    f.high < 256 ^ f.width - 1 := by
  have groups : ∀ f ∈ fieldsStation ++ fieldsHose ++ fieldsNet ++ fieldsClass,
      f.preset = none → f.high < 256 ^ f.width - 1 := by decide
  refine groups f ?_ unset
  rw [blockFields, List.mem_append, List.mem_flatten] at field
  rw [List.mem_append]
  refine field.imp_right ?_
  rintro ⟨group, of_class, member⟩
  rwa [List.eq_of_mem_replicate of_class] at member

/-- A configuration in range passes the cross-checks of its classes (R172). -/
theorem not_classNamed_of_inRange (range : (configOf v).inRange) (k : Fin 8) (i : Nat) : ¬ ClassNamed v k i := by
  obtain ⟨-, classes, apart⟩ := classes_of_inRange range
  obtain ⟨ordered, -, -, -, tank, -⟩ := classes k
  simp only [classConfigOf] at ordered tank
  rintro (⟨-, upside_down⟩ | ⟨-, j, below, filled_j, filled_k, n, low_j, high_j, low_k, high_k⟩ | ⟨-, small⟩)
  · omega
  · have covers : ∀ {m : Fin 8}, (v (48 + 13 * m.val), v (49 + 13 * m.val)) ≠ (0, 0) → v (48 + 13 * m.val) ≤ n →
        n ≤ v (49 + 13 * m.val) → (classConfigOf v m).covers n = true := fun {m} filled low high => by
      simp only [ne_eq, Prod.mk.injEq] at filled
      simp only [ClassConfig.covers, classConfigOf, low, high, decide_true, Bool.and_true, Bool.not_eq_true',
        Bool.and_eq_false_iff, beq_eq_false_iff_ne]
      exact not_and_or.mp filled
    have free := apart j k (Fin.ne_of_lt below) n (covers filled_j low_j high_j)
    rw [covers filled_k low_k high_k] at free
    cases free
  · omega

end InRange

/-- No field is named of two parts whose configuration is in range, its masks and edge modes with it. -/
theorem not_fieldNamed_of_inRange {p1 p2 : List Byte} (range : (configOfParts p1 p2).inRange)
    (fitted : fieldValue p1 p2 2 ≤ 15) (polarity : fieldValue p1 p2 3 ≤ 511)
    (edges : ∀ h : Fin 4, fieldValue p1 p2 (11 + h.val) ≤ 2) (i : Nat) : ¬ FieldNamed p1 p2 i := by
  rw [configOfParts, ← fieldValue_eq] at range
  rintro (⟨low, f, spec, outside⟩ | ⟨-, minute⟩ | ⟨k, named⟩)
  · have inside := within_of_inRange range fitted polarity edges spec
    rw [Nat.sub_add_cancel low] at inside
    rcases outside with below | above | ⟨unset, spelled⟩
    · exact Nat.not_lt.mpr inside.1 below
    · exact Nat.not_lt.mpr inside.2 above
    · have top := high_of_unset (List.mem_of_getElem? spec) unset
      rw [← spelled] at top
      exact Nat.not_lt.mpr inside.2 top
  · exact minute (classes_of_inRange range).1
  · exact not_classNamed_of_inRange range k i named


end Sys2Proof.Machine.VehicleView
end

section
namespace Sys2Proof.Machine.VehicleView

open Sys2Proof Sys2Proof.Machine Sys2Proof.Machine.ServiceIntervals Sys2Proof.Machine.TerminalLink

/-! ### LOAD_CONFIG (R171) -/

section Load

variable {s t : State} {bytes p1 p2 : List Byte} {part i : Nat} {r : Result} {payload : List Byte}

theorem exec_loadConfig (answers : s.canAnswer) (e : loadConfig part bytes s = (t, r, payload)) :
    exec (.loadConfig part bytes) s = .next (t.respond 0x01 r payload) :=
  congrArg Host.Outcome.next (serve_answered answers e)

/-- A part whose fellow is not held is held. -/
theorem loadConfig_first (standby : s.net.state = .standby) (whole : bytes.length = 72) (awaited : s.store.part2 = none) :
    loadConfig 1 bytes s = accept { s with store := { s.store with part1 := some bytes } } (beBytes 1 1) := by
  simp [loadConfig, running_false standby, whole, part1Bytes, awaited]

theorem loadConfig_second (standby : s.net.state = .standby) (whole : bytes.length = 248) (awaited : s.store.part1 = none) :
    loadConfig 2 bytes s = accept { s with store := { s.store with part2 := some bytes } } (beBytes 1 2) := by
  simp [loadConfig, running_false standby, whole, part1Bytes, part2Bytes, awaited]

/-- A part whose fellow is held completes the block. -/
theorem loadConfig_first_completes (standby : s.net.state = .standby) (whole : bytes.length = 72)
    (held : s.store.part2 = some p2) : loadConfig 1 bytes s = loadBlock bytes p2 s := by
  simp [loadConfig, running_false standby, whole, part1Bytes, held]

theorem loadConfig_second_completes (standby : s.net.state = .standby) (whole : bytes.length = 248)
    (held : s.store.part1 = some p1) : loadConfig 2 bytes s = loadBlock p1 bytes s := by
  simp [loadConfig, running_false standby, whole, part1Bytes, part2Bytes, held]

theorem loadBlock_fails (named : partsFailure p1 p2 = some i) : loadBlock p1 p2 s =
    (dropParts s, .badConfig, fieldBytes [(1, i)]) := by
  rw [loadBlock, named]
  simp

theorem loadBlock_passes (valid : partsFailure p1 p2 = none) : loadBlock p1 p2 s =
    (installConfig (configOfParts p1 p2) s, .ok, beBytes 1 0) := by
  rw [loadBlock, valid]
  rfl

theorem loadConfig_running (running : s.net.state ≠ .standby) (whole : bytes.length = 72 ∨ bytes.length = 248) :
    loadConfig part bytes s = (s, .notRunning, []) := by
  have counted : ¬ (bytes.length ≠ part1Bytes ∧ bytes.length ≠ part2Bytes) := by
    rw [part1Bytes, part2Bytes]
    omega
  rw [loadConfig, if_neg counted, running_true running, if_pos rfl]
  rfl

theorem loadConfig_mismatched (standby : s.net.state = .standby) (first : ¬ (part = 1 ∧ bytes.length = 72))
    (second : ¬ (part = 2 ∧ bytes.length = 248)) : loadConfig part bytes s = (s, .badRequest, []) := by
  rw [← part1Bytes] at first
  rw [← part2Bytes] at second
  rw [loadConfig, running_false standby, if_neg Bool.false_ne_true, if_neg first, if_neg second]
  exact ite_self _

end Load

/-- The columns of Table 11-5: 151 fields, their widths in the two parts, and the 26 defaults. -/
theorem blockFields_table : blockFields.length = 151 ∧ ((blockFields.take 47).map (·.width)).sum = 72 ∧
    ((blockFields.drop 47).map (·.width)).sum = 248 ∧
    (blockFields.zipIdx 1).filterMap (fun x => x.1.preset.map fun d => (x.2, d)) =
      [(4, 30), (5, 5), (6, 3), (23, 3), (24, 20), (25, 2), (26, 30), (27, 90), (28, 15), (29, 30), (30, 3),
       (31, 6), (32, 5000), (33, 900), (34, 1100), (36, 10), (37, 50), (38, 10), (40, 43200), (41, 10),
       (42, 250), (43, 3), (44, 8), (45, 90), (46, 20), (47, 2)] := by
  refine ⟨rfl, rfl, rfl, rfl⟩

/-- Settles O5: the fields that the validation names, and the request by what is held of the two parts. -/
theorem loadConfigParts : Obligations.LoadConfigParts := by
  unfold Obligations.LoadConfigParts
  obtain ⟨fields, widths1, widths2, presets⟩ := blockFields_table
  refine ⟨fun p1 p2 _ _ => ⟨fun i => partsFailure_some p1 p2, partsFailure_none p1 p2,
      fun range fitted polarity edges => (partsFailure_none p1 p2).mpr (not_fieldNamed_of_inRange range fitted polarity edges)⟩,
    fields, widths1, widths2, presets, fun s bytes answers => ⟨fun standby whole awaited => ?_,
      fun standby whole awaited => ?_, fun p2 i standby whole held named => ?_, fun p1 i standby whole held named => ?_,
      fun part running whole => exec_loadConfig answers (loadConfig_running running whole),
      fun part standby first second => exec_loadConfig answers (loadConfig_mismatched standby first second)⟩⟩
  · exact exec_loadConfig answers (loadConfig_first standby whole awaited)
  · exact exec_loadConfig answers (loadConfig_second standby whole awaited)
  · exact exec_loadConfig answers ((loadConfig_first_completes standby whole held).trans (loadBlock_fails named))
  · exact exec_loadConfig answers ((loadConfig_second_completes standby whole held).trans (loadBlock_fails named))

end Sys2Proof.Machine.VehicleView
end

section
namespace Sys2Proof.Machine.VehicleView

open Sys2Proof Sys2Proof.Machine Sys2Proof.Machine.ServiceIntervals Sys2Proof.Machine.ShiftClock Sys2Proof.Machine.FieldLines
  Sys2Proof.Machine.HoseCourse

/-! ### The clock and the station of an installed configuration (R53, R56, R172) -/

section Install

variable (c : ConfigBlock) (s : State)

/-- With nothing staged, a new shift length moves the clock's position and leaves its allowances and its counter (R53, R56). -/
theorem allowances_clockUnderConfig (unstaged : ∀ k : Fin 8, s.clock.staged[k] = none) :
    (clockUnderConfig c s).clock.reject = s.clock.reject ∧
    ∀ k : Fin 8, (clockUnderConfig c s).clock.active[k] = s.clock.active[k] ∧
      (clockUnderConfig c s).clock.staged[k] = none := by
  unfold clockUnderConfig
  dsimp only
  split
  · exact ⟨rfl, fun k => ⟨rfl, unstaged k⟩⟩
  · split
    · exact ⟨rfl, fun k => ⟨rfl, unstaged k⟩⟩
    · have later : s.clock.pos.shift < (⟨s.clock.pos.shift + 1, 0⟩ : ClockPos).shift := Nat.lt_succ_self _
      obtain ⟨-, -, moved⟩ := moveClock_shift (c := c) later
      refine ⟨counts_moveClock.2, fun k => ⟨?_, (moved k).2⟩⟩
      rw [(moved k).1, unstaged k]
      rfl

theorem installConfig_eq : installConfig c s = reportHoseOut (eachHose (hoseUnderConfig c) (blockInstalled c s)) := rfl

/-- What the hoses and HOSE_OUT leave of a station with a block installed. -/
theorem installConfig_station : (installConfig c s).store = (blockInstalled c s).store ∧
    (installConfig c s).watch = (blockInstalled c s).watch ∧ (installConfig c s).clock = (blockInstalled c s).clock := by
  rw [installConfig_eq]
  simp [eachHose]

theorem store_installConfig : (installConfig c s).store =
    { block := some c, part1 := none, part2 := none, startTag := s.store.startTag } := by
  rw [(installConfig_station c s).1]
  simp [blockInstalled]

theorem watch_installConfig : (installConfig c s).watch = { members := [], overflow := 0 } := by
  rw [(installConfig_station c s).2.1]
  simp [blockInstalled, emptyView]

theorem allowances_installConfig : (installConfig c s).clock.reject = s.clock.reject ∧
    ∀ k : Fin 8, (installConfig c s).clock.active[k] = c.classes[k].allowance ∧
      (installConfig c s).clock.staged[k] = none := by
  obtain ⟨u, hu⟩ : ∃ u, u = loadAllowances c (emptyView { s with
    store := { s.store with block := some c, part1 := none, part2 := none } }) := ⟨_, rfl⟩
  have clock : (installConfig c s).clock = (clockUnderConfig c u).clock := by
    rw [(installConfig_station c s).2.2, blockInstalled, ← hu]
    simp
  have loaded : u.clock = { s.clock with active := mapTable (·.allowance) c.classes, staged := Vector.replicate 8 none } := by
    simp [hu, loadAllowances]
  obtain ⟨reject, allowances⟩ := allowances_clockUnderConfig c u fun k => by rw [loaded]; simp
  rw [clock]
  refine ⟨by rw [reject, loaded], fun k => ⟨?_, (allowances k).2⟩⟩
  rw [(allowances k).1, loaded]
  simp [mapTable]

/-! ### The hoses of an installed configuration (R101, R110, R148, R156) -/

/-- Outside a running station no guard is evaluated. -/
theorem guardEval_standby {s : State} (standby : s.net.state = .standby) : guardEval s = s := by
  simp [guardEval, running_false standby]

theorem enterState_standby {s : State} (standby : s.net.state = .standby) (h : Fin 4) (st : HoseState) :
    enterState h st s = drivePump (driveValves h (s.mapCtl h fun x => { x with state := st })) :=
  guardEval_standby (by simpa using standby)

/-- In STANDBY a hose under a new configuration leaves the notices, the stop line and the guard counters. -/
theorem hoseUnderConfig_standby {s : State} (standby : s.net.state = .standby) (h : Fin 4) :
    (hoseUnderConfig c h s).notices = s.notices ∧ (hoseUnderConfig c h s).field.stop = s.field.stop ∧
    ∀ k, ((hoseUnderConfig c h s).hose k).guardCount = (s.hose k).guardCount := by
  refine ⟨?_, by simp [hoseUnderConfig], fun k => ?_⟩ <;> unfold hoseUnderConfig <;> dsimp only <;>
    rw [enterState_standby (by simpa using standby)]
  · simp
  · rw [hose_drivePump, driveValves, hose_mapCtl, hose_mapCtl, hose_mapHealth]
    split <;> rfl

theorem blockInstalled_standby {s : State} (standby : s.net.state = .standby) :
    (blockInstalled c s).net.state = .standby := by
  simpa [blockInstalled] using standby

/-- In STANDBY an installation leaves the guard counters, and the notices but for its three conditions. -/
theorem eachHose_underConfig {s : State} (standby : s.net.state = .standby) :
    (eachHose (hoseUnderConfig c) s).notices = s.notices ∧
    (eachHose (hoseUnderConfig c) s).field.stop = s.field.stop ∧
    ∀ k, ((eachHose (hoseUnderConfig c) s).hose k).guardCount = (s.hose k).guardCount := by
  refine (eachHose_inv (fun u => u.net.state = .standby ∧ u.notices = s.notices ∧ u.field.stop = s.field.stop ∧
    ∀ k, (u.hose k).guardCount = (s.hose k).guardCount) (hoseUnderConfig c) (fun h u inv => ?_) s
    ⟨standby, rfl, rfl, fun _ => rfl⟩).2
  obtain ⟨stands, notices, stop, counts⟩ := inv
  obtain ⟨same_notices, same_stop, same_counts⟩ := hoseUnderConfig_standby c stands h
  exact ⟨by simpa using stands, same_notices.trans notices, same_stop.trans stop,
    fun k => (same_counts k).trans (counts k)⟩

/-- The hose that an installation finds: its filters started again. -/
theorem hose_filtersStarted (k : Fin 4) : (blockInstalled c s).hose k = { s.hose k with
    nozzle := { (s.hose k).nozzle with active := false, run := 0 }
    meterInput := { (s.hose k).meterInput with active := none, run := 0 } } := by
  simp [blockInstalled, restartFilters, State.hose, mapTable, LineInput.started, MeterInput.started]

/-- A health judged against the threshold of a new configuration (R156). -/
def judgedHealth (x : Health) : Health := { x with frozen := x.frozen || c.healthThreshold ≤ x.count }

/-- The hose state that a new configuration gives (R148). -/
def stateUnderConfig (k : Fin 4) (frozen : Bool) : HoseState := if c.fitted[k] then restingState frozen else .outOfService

theorem stateUnderConfig_eq (k : Fin 4) (frozen : Bool) : stateUnderConfig c k frozen =
    if c.fitted[k] = true ∧ frozen = false then .idle else .outOfService := by
  unfold stateUnderConfig
  cases frozen <;> simp [restingState]

/-- No valve stands open in the hose states that a configuration gives (R108). -/
theorem valves_underConfig (asserted : Bool) (k : Fin 4) (frozen : Bool) :
    mainValveOf asserted (stateUnderConfig c k frozen) = false ∧
    slowValveOf asserted (stateUnderConfig c k frozen) = false := by
  rw [stateUnderConfig_eq]
  split <;> simp [mainValveOf, slowValveOf]

theorem hoseUnderConfig_own (k : Fin 4) :
    ((hoseUnderConfig c k s).hose k).health = judgedHealth c (s.hose k).health ∧
    ((hoseUnderConfig c k s).hose k).ctl = { (s.hose k).ctl with
      state := stateUnderConfig c k (judgedHealth c (s.hose k).health).frozen, mainValve := false, slowValve := false } ∧
    ((hoseUnderConfig c k s).hose k).nozzle = (s.hose k).nozzle ∧
    ((hoseUnderConfig c k s).hose k).meterInput = (s.hose k).meterInput ∧
    ((hoseUnderConfig c k s).hose k).meter = (s.hose k).meter := by
  obtain ⟨u, hu⟩ : ∃ u, u = s.mapHealth k (judgedHealth c) := ⟨_, rfl⟩
  have own : u.hose k = { s.hose k with health := judgedHealth c (s.hose k).health } := by
    rw [hu, hose_mapHealth, if_pos rfl]
  have enters : hoseUnderConfig c k s = enterState k (stateUnderConfig c k (u.hose k).health.frozen) u := by
    rw [hu]
    rfl
  obtain ⟨meter, health, nozzle, input⟩ := parts_enterState k k (stateUnderConfig c k (u.hose k).health.frozen) u
  obtain ⟨main, slow⟩ := valves_underConfig c u.field.stop.active k (u.hose k).health.frozen
  rw [enters, meter, health, nozzle, input, ctl_enterState, if_pos rfl, main, slow, own]
  exact ⟨rfl, rfl, rfl, rfl, rfl⟩

/-- A hose under an installed configuration (R101, R110, R148, R156). -/
theorem hoses_installConfig (k : Fin 4) :
    ((installConfig c s).hose k).health = judgedHealth c (s.hose k).health ∧
    ((installConfig c s).hose k).ctl = { (s.hose k).ctl with
      state := stateUnderConfig c k (judgedHealth c (s.hose k).health).frozen, mainValve := false, slowValve := false } ∧
    ((installConfig c s).hose k).nozzle = { (s.hose k).nozzle with active := false, run := 0 } ∧
    ((installConfig c s).hose k).meterInput = { (s.hose k).meterInput with active := none, run := 0 } ∧
    ((installConfig c s).hose k).meter = (s.hose k).meter := by
  obtain ⟨v, before, after⟩ := eachHose_at k
    (fun u : State => ((u.hose k).ctl, (u.hose k).meter, (u.hose k).health, (u.hose k).nozzle, (u.hose k).meterInput))
    (f := hoseUnderConfig c) (fun h u other => by simp [hoseUnderConfig, other]) (blockInstalled c s)
  rw [hose_filtersStarted] at before
  simp only [Prod.mk.injEq] at before after
  obtain ⟨ctl, meter, health, nozzle, input⟩ := before
  obtain ⟨ctl_after, meter_after, health_after, nozzle_after, input_after⟩ := after
  have own := hoseUnderConfig_own c v k
  rw [← ctl_after, ← meter_after, ← health_after, ← nozzle_after, ← input_after, ctl, meter, health, nozzle, input] at own
  rw [installConfig_eq, hose_reportHoseOut]
  exact own

/-- The filters started and the view emptied tell STOP_ACTIVE and OVERDUE_PRESENT that they are false (R43, R107). -/
theorem notices_blockInstalled (j : Fin 12) : (blockInstalled c s).notices.entries[j] =
    if j = 9 ∨ j = 11 then s.notices.entries[j].reported false else s.notices.entries[j] := by
  obtain ⟨u, hu⟩ : ∃ u, u = clockUnderConfig c (loadAllowances c (emptyView { s with
    store := { s.store with block := some c, part1 := none, part2 := none } })) := ⟨_, rfl⟩
  have overdue : u.notices.entries[j] = if j = 11 then s.notices.entries[j].reported false else s.notices.entries[j] := by
    have kept : u.notices = (emptyView { s with
        store := { s.store with block := some c, part1 := none, part2 := none } }).notices := by simp [hu, loadAllowances]
    rw [kept, Fin.getElem_fin, emptyView, entries_report]
    exact if_congr Fin.ext_iff.symm rfl rfl
  have stop : (restartFilters u).notices.entries[j] =
      if j = 9 then u.notices.entries[j].reported false else u.notices.entries[j] := by
    rw [Fin.getElem_fin, restartFilters, entries_report]
    exact if_congr Fin.ext_iff.symm rfl rfl
  rw [blockInstalled, ← hu, stop, overdue]
  by_cases is_stop : j = 9
  · subst is_stop
    rfl
  · simp [is_stop]

/-- The notices of an installation in STANDBY: its three conditions told, and no other entry moved (R43, R107, R154). -/
theorem notices_installConfig {s : State} (standby : s.net.state = .standby) :
    (installConfig c s).notices.entries[9].condition = false ∧
    (installConfig c s).notices.entries[11].condition = false ∧
    ((installConfig c s).notices.entries[8].condition = true ↔
      ∃ h : Fin 4, ((installConfig c s).hose h).health.frozen = true) ∧
    ∀ j : Fin 12, j ≠ 8 → j ≠ 9 → j ≠ 11 → (installConfig c s).notices.entries[j] = s.notices.entries[j] := by
  obtain ⟨notices, -⟩ := eachHose_underConfig c (blockInstalled_standby c standby)
  have kept : ∀ j : Fin 12, j ≠ 8 → (installConfig c s).notices.entries[j] =
      if j = 9 ∨ j = 11 then s.notices.entries[j].reported false else s.notices.entries[j] := fun j other => by
    rw [installConfig_eq, reportHoseOut, report_other other, notices, notices_blockInstalled]
  have at9 : (installConfig c s).notices.entries[9] = s.notices.entries[9].reported false := kept 9 (by decide)
  have at11 : (installConfig c s).notices.entries[11] = s.notices.entries[11].reported false := kept 11 (by decide)
  have out : (installConfig c s).notices.entries[8].condition = true ↔
      ∃ h : Fin 4, ((installConfig c s).hose h).health.frozen = true := by
    simp only [installConfig_eq, hose_reportHoseOut, HoseHealth.hoseOut_reportHoseOut]
  rw [at9, at11]
  refine ⟨rfl, rfl, out, fun j j8 j9 j11 => ?_⟩
  rw [kept j j8, if_neg (not_or.mpr ⟨j9, j11⟩)]

theorem guardCount_installConfig {s : State} (standby : s.net.state = .standby) (k : Fin 4) :
    ((installConfig c s).hose k).guardCount = (s.hose k).guardCount := by
  rw [installConfig_eq, hose_reportHoseOut, (eachHose_underConfig c (blockInstalled_standby c standby)).2.2,
    hose_filtersStarted]

/-- The stop line and the pump of an installed configuration (R101, R110). -/
theorem field_installConfig {s : State} (standby : s.net.state = .standby) :
    (installConfig c s).field.stop = { s.field.stop with active := false, run := 0 } ∧
    (installConfig c s).field.pumpRun = false := by
  constructor
  · rw [installConfig_eq, (reportHoseOut_frame _).2.2.2.2.2.2.2.1,
      (eachHose_underConfig c (blockInstalled_standby c standby)).2.1]
    simp [blockInstalled, restartFilters, LineInput.started]
  · refine (outputs_off (outputsFollow_installConfig c s) fun h => ?_).2
    rw [(hoses_installConfig c s h).2.1]
    show (stateUnderConfig c h _).reserved = false
    rw [stateUnderConfig_eq]
    split <;> rfl

end Install

end Sys2Proof.Machine.VehicleView
end

section
namespace Sys2Proof.Machine.VehicleView

open Sys2Proof Sys2Proof.Machine Sys2Proof.Machine.ServiceIntervals Sys2Proof.Machine.ShiftClock

/-! ### The installation that LOAD_CONFIG makes (R172) -/

/-- Each field of Table 11-5 stands in the configuration under its name. -/
theorem installedFrom_configOf (v : Nat → Nat) : InstalledFrom v (configOf v) := by
  have edge : ∀ h : Fin 4, (configOf v).edgeMode[h] = edgeModeOf (v (11 + h.val)) := fun h => by simp [configOf]
  refine ⟨rfl, fun h => ?_, fun h => ?_, fun h => ?_, rfl, rfl, rfl, rfl, fun h => ?_, fun h => ?_, fun h => ?_, fun h => ?_,
    rfl, rfl, rfl, rfl, rfl, rfl, rfl, rfl, rfl, rfl, rfl, rfl, rfl, rfl, rfl, rfl, rfl, rfl, rfl, rfl, rfl, rfl, rfl, rfl, rfl,
    fun k => ?_⟩
  case refine_5 =>
    rw [edge]
    refine ⟨fun e => ?_, fun e => ?_, fun e => ?_⟩ <;> rw [e] <;> rfl
  case refine_8 =>
    have group : (configOf v).classes[k] = classConfigOf v k.val := by simp [configOf]
    rw [group]
    exact ⟨rfl, rfl, rfl, rfl, rfl, fun i => by simp [classConfigOf], fun i => by simp [classConfigOf]⟩
  all_goals simp [configOf]

theorem exec_loadConfig_installs {s : State} {p1 p2 : List Byte} {cmd : Instr} (answers : s.canAnswer)
    (standby : s.net.state = .standby) (whole1 : p1.length = 72) (whole2 : p2.length = 248)
    (valid : partsFailure p1 p2 = none) (which : (cmd = .loadConfig 1 p1 ∧ s.store.part2 = some p2) ∨
      (cmd = .loadConfig 2 p2 ∧ s.store.part1 = some p1)) :
    exec cmd s = .next ((installConfig (configOfParts p1 p2) s).respond 0x01 .ok [0x00#8]) := by
  rcases which with ⟨rfl, held⟩ | ⟨rfl, held⟩
  · exact exec_loadConfig answers ((loadConfig_first_completes standby whole1 held).trans (loadBlock_passes valid))
  · exact exec_loadConfig answers ((loadConfig_second_completes standby whole2 held).trans (loadBlock_passes valid))

/-- Settles O6: the block is read under the names of Table 11-5, and installed part by part of the station. -/
theorem loadConfigInstalls : Obligations.LoadConfigInstalls := by
  unfold Obligations.LoadConfigInstalls
  intro s p1 p2 cmd answers standby whole1 whole2 valid which
  obtain ⟨c, hc⟩ : ∃ c, c = configOfParts p1 p2 := ⟨_, rfl⟩
  have range : c.inRange := hc ▸ TerminalLink.inRange_configOf (TerminalLink.blockPasses_of_valid valid)
  have named : InstalledFrom (fieldValue p1 p2) c := by
    rw [hc, configOfParts, ← fieldValue_eq]
    exact installedFrom_configOf _
  have answered := exec_loadConfig_installs answers standby whole1 whole2 valid which
  rw [← hc] at answered
  obtain ⟨-, net, records, link, -⟩ := installConfig_frame c s
  obtain ⟨set, pos⟩ := clock_installConfig c s
  rw [clockUnderConfig_pos] at pos
  obtain ⟨reject, allowances⟩ := allowances_installConfig c s
  obtain ⟨stop, pump⟩ := field_installConfig c standby
  obtain ⟨at9, at11, out, others⟩ := notices_installConfig c standby
  have store := store_installConfig c s
  have view := view_installConfig c s
  have watch := watch_installConfig c s
  have radio := PitNet.radio_installConfig c s
  have hoses := hoses_installConfig c s
  have counts := fun k => guardCount_installConfig c standby k
  generalize installConfig c s = t at *
  refine ⟨_, c, answered, hc, range, named, ?_⟩
  simp only [hose_respond, respond_frame, link]
  refine ⟨store, view, watch, radio, net, records, allowances, set, reject, pos, fun h => ?_, stop, pump, at9, at11, out, others,
    trivial⟩
  obtain ⟨health, ctl, nozzle, input, meter⟩ := hoses h
  rw [stateUnderConfig_eq, ← health] at ctl
  refine ⟨?_, ?_, ?_, ctl, nozzle, input, meter, counts h⟩ <;> rw [health]
  · simp [judgedHealth]
  · rfl
  · rfl

end Sys2Proof.Machine.VehicleView
end
